-- ==== Sys2Proof/Word.lean ====
section
/-!
DEFINITION. Sys2Proof/Word.lean: the 32-bit word of a register (R2) and the plainest operations on bits of a number.
-/
namespace Sys2Proof

/-- A register word. -/
abbrev Word := BitVec 32

end Sys2Proof
end

