-- ==== Sys2Proof/Machine/RegNames.lean ====
section
/-!
DEFINITION. Sys2Proof/Machine/RegNames.lean: the register pages (R24, R25, R30) and the registers of every page,
one constructor per register of the manual's register tables, with the instance numbers as arguments.
The names are the manual's, with the instance letter dropped: `EDGE.LEGl_DUTY` is `.EDGE_LEG_DUTY l`.
The measurement registers count from 0 here: `KEYS.MEASk_VER` is `.KEYS_MEAS_VER (k - 1)`.
-/
namespace Sys2Proof.Machine

/-- A register page (R24, R25): its block, with the page or rim number where the window holds several. -/
inductive Page where
  | SYS (p : Nat)
  | CLK
  | PWR
  | RST
  | TIME (p : Nat)
  | STATION (p : Nat)
  | TANDEM (p : Nat)
  | RIM (n : Nat)
  | SPOKE (n : Nat)
  | EDGE (p : Nat)
  | ADC (p : Nat)
  | LOOP (p : Nat)
  | DMA (p : Nat)
  | IR (p : Nat)
  | XSPI
  | SVCPORT
  | FC
  | THERM
  | SAFE
  | KEYS (p : Nat)
  | PROT
  deriving DecidableEq, Repr

/-- A register. The header registers of R27 take their page. -/
inductive Reg where
  | PG_ID (p : Page)
  | PG_VER (p : Page)
  | PG_CTRL (p : Page)
  | PG_STAT (p : Page)
  | PG_ERR (p : Page)
  | PG_ERRFORCE (p : Page)
  | PG_ERREN (p : Page)
  | PG_PROG (p : Page)
  | PG_KEY (p : Page)
  | PG_LOCK (p : Page)
  | CLK_OUT_CFG (n : Nat)
  | TIME_ALARM_NS (n : Nat)
  | TIME_ALARM_SEC_LO (n : Nat)
  | TIME_ALARM_SEC_HI (n : Nat)
  | TIME_ALARM_CTRL (n : Nat)
  | TIME_PORT_CFG (x : Nat)
  | TIME_PORT_TXLAT (x : Nat)
  | TIME_PORT_RXLAT (x : Nat)
  | TIME_PORT_ASYM (x : Nat)
  | TIME_PORT_LINKDLY (x : Nat)
  | TIME_PORT_TSQ_STAT (x : Nat)
  | TIME_PORT_TSQ_W0 (x : Nat)
  | TIME_PORT_TSQ_W1 (x : Nat)
  | TIME_PORT_TSQ_W2 (x : Nat)
  | TIME_PORT_TSQ_W3 (x : Nat)
  | TIME_PORT_TC_CNT (x : Nat)
  | STATION_PORT_CFG (x : Nat)
  | STATION_PORT_STAT (x : Nat)
  | STATION_PORT_MAC_LO (x : Nat)
  | STATION_PORT_MAC_HI (x : Nat)
  | STATION_PORT_FIFO (x : Nat)
  | STATION_PORT_EVT (x : Nat)
  | STATION_PORT_EVTEN (x : Nat)
  | STATION_PORT_RXD0 (x : Nat)
  | STATION_PORT_RXD1 (x : Nat)
  | STATION_PORT_RXD2 (x : Nat)
  | STATION_PORT_RXD3 (x : Nat)
  | STATION_PORT_RXDATA (x : Nat)
  | STATION_PORT_TXD0 (x : Nat)
  | STATION_PORT_TXD1 (x : Nat)
  | STATION_PORT_TXD2 (x : Nat)
  | STATION_PORT_TXDATA (x : Nat)
  | STATION_PORT_CNT0 (x : Nat)
  | STATION_PORT_CNT1 (x : Nat)
  | STATION_SUB_CFG (s : Nat)
  | STATION_SUB_MAC_LO (s : Nat)
  | STATION_SUB_MAC_HI (s : Nat)
  | STATION_SUB_IDCRC (s : Nat)
  | STATION_SUB_CONFREV (s : Nat)
  | STATION_SUB_CSCALE (s : Nat)
  | STATION_SUB_VSCALE (s : Nat)
  | STATION_SUB_TIMING (s : Nat)
  | STATION_SUB_STAT (s : Nat)
  | STATION_SUB_LOST (s : Nat)
  | STATION_SUB_RING (s w : Nat)
  | STATION_GSUB_CFG (g : Nat)
  | STATION_GSUB_MAC_LO (g : Nat)
  | STATION_GSUB_MAC_HI (g : Nat)
  | STATION_GSUB_REFCRC (g : Nat)
  | STATION_GSUB_CONFREV (g : Nat)
  | STATION_GSUB_DEFAULT (g : Nat)
  | STATION_GSUB_BITS (g : Nat)
  | STATION_GSUB_STAT (g : Nat)
  | STATION_PUB_CTRL (u : Nat)
  | STATION_PUB_TIMING (u : Nat)
  | STATION_PUB_DATA (u : Nat)
  | STATION_PUB_STNUM (u : Nat)
  | STATION_PUB_SQNUM (u : Nat)
  | STATION_PUB_TPL (u w : Nat)
  | STATION_SES_CTRL (j : Nat)
  | STATION_SES_PEER_LO (j : Nat)
  | STATION_SES_PEER_HI (j : Nat)
  | STATION_SES_SALT (j : Nat)
  | STATION_SES_WBASE (j : Nat)
  | STATION_SES_WSIZE (j : Nat)
  | STATION_SES_SEQ_LO (j : Nat)
  | STATION_SES_SEQ_HI (j : Nat)
  | STATION_SES_STAT (j : Nat)
  | STATION_SES_KEY (j i : Nat)
  | TANDEM_TRANS (n : Nat)
  | RIM_CTRL (n : Nat)
  | RIM_STAT (n : Nat)
  | RIM_LATENCY (n : Nat)
  | RIM_TCFG (n : Nat)
  | RIM_PEER_CLAIM_LO (n : Nat)
  | RIM_PEER_CLAIM_HI (n : Nat)
  | RIM_CNT (n : Nat)
  | RIM_EVT (n : Nat)
  | RIM_FW_SRC (n : Nat)
  | RIM_FW_LEN (n : Nat)
  | RIM_FW_CTRL (n : Nat)
  | RIM_FW_STAT (n : Nat)
  | RIM_XCFG (n : Nat)
  | RIM_EVTEN (n : Nat)
  | RIM_FW_DIGEST (n i : Nat)
  | SPOKE_STATE (k : Nat)
  | SPOKE_CTRL (k : Nat)
  | SPOKE_UID_LO (k : Nat)
  | SPOKE_UID_HI (k : Nat)
  | SPOKE_TYPE (k : Nat)
  | SPOKE_SAFE_STATE (k : Nat)
  | SPOKE_WDOG (k : Nat)
  | SPOKE_DLY (k : Nat)
  | SPOKE_HOPDLY (k : Nat)
  | SPOKE_CLAIM_LO (k : Nat)
  | SPOKE_CLAIM_HI (k : Nat)
  | SPOKE_FAULT (k : Nat)
  | SPOKE_FWVER (k : Nat)
  | SPOKE_NSTAT (k : Nat)
  | SPOKE_XUID_LO (k : Nat)
  | SPOKE_XUID_HI (k : Nat)
  | SPOKE_XTYPE (k : Nat)
  | SPOKE_ASYM (k : Nat)
  | SPOKE_PAR (k i : Nat)
  | EDGE_DTP_A (q : Nat)
  | EDGE_DTP_B (q : Nat)
  | EDGE_CAR_PERIOD (c : Nat)
  | EDGE_CAR_CTRL (c : Nat)
  | EDGE_CAR_START_NS (c : Nat)
  | EDGE_CAR_START_SEC (c : Nat)
  | EDGE_CAR_XFER (c : Nat)
  | EDGE_CAR_STAT (c : Nat)
  | EDGE_CAR_PSTART_NS (c : Nat)
  | EDGE_CAR_PSTART_SEC (c : Nat)
  | EDGE_TRG_CMP (t : Nat)
  | EDGE_LEG_DUTY (l : Nat)
  | EDGE_LEG_OFFSET (l : Nat)
  | EDGE_LEG_DT (l : Nat)
  | EDGE_LEG_MINP (l : Nat)
  | EDGE_LEG_CTRL (l : Nat)
  | EDGE_LEG_DTLIM (l : Nat)
  | EDGE_LEG_ADT (l : Nat)
  | EDGE_LEG_DSTAT (l : Nat)
  | EDGE_LEG_PSTAT (l : Nat)
  | EDGE_LEG_CARRY (l : Nat)
  | EDGE_LEG_ESEQ (l : Nat)
  | ADC_CTRL (c : Nat)
  | ADC_SEL (c : Nat)
  | ADC_QSTAT (c : Nat)
  | ADC_INJ (c : Nat)
  | ADC_INJRES (c : Nat)
  | ADC_INJTS (c : Nat)
  | ADC_FMT (c : Nat)
  | ADC_RES (c : Nat)
  | ADC_FSTAT (c : Nat)
  | ADC_CAL (c : Nat)
  | ADC_STAT (c : Nat)
  | ADC_EVT (c : Nat)
  | ADC_XCFG (c : Nat)
  | ADC_CALVAL (c : Nat)
  | ADC_EVTEN (c : Nat)
  | ADC_PAIR_TOL (p : Nat)
  | ADC_DAC (p : Nat)
  | ADC_DIAG_CFG (p : Nat)
  | ADC_PEVT (p : Nat)
  | ADC_DIAG_LO (p : Nat)
  | ADC_DIAG_HI (p : Nat)
  | ADC_PSTAT (p : Nat)
  | ADC_PEVTEN (p : Nat)
  | ADC_CHRES (ch : Nat)
  | ADC_CHTS (ch : Nat)
  | LOOP_CTRL (e : Nat)
  | LOOP_STAT (e : Nat)
  | LOOP_DEADLINE (e : Nat)
  | LOOP_CNT (e : Nat)
  | LOOP_MISSINFO (e : Nat)
  | LOOP_NANINFO (e : Nat)
  | LOOP_EVT (e : Nat)
  | LOOP_TRACE_CFG (e : Nat)
  | LOOP_TRACE_TRIG (e : Nat)
  | LOOP_TRACE_LEVEL (e : Nat)
  | LOOP_TRACE_CTRL (e : Nat)
  | LOOP_TRACE_STAT (e : Nat)
  | LOOP_XCFG (e : Nat)
  | LOOP_RUNTIME (e : Nat)
  | LOOP_RUNMAX (e : Nat)
  | LOOP_EVTEN (e : Nat)
  | LOOP_TRACE_NODE (e i : Nat)
  | LOOP_GRP_CFG (g : Nat)
  | LOOP_CONST (k : Nat)
  | LOOP_SET (j : Nat)
  | DMA_CH_CTRL (h : Nat)
  | DMA_CH_DESC (h : Nat)
  | DMA_CH_BW (h : Nat)
  | DMA_CH_STAT (h : Nat)
  | DMA_CH_CUR (h : Nat)
  | DMA_CH_CNT (h : Nat)
  | DMA_CH_EVT (h : Nat)
  | DMA_CH_EVTEN (h : Nat)
  | DMA_CH_HOPLIM (h : Nat)
  | IR_SRC_ROUTE (s : Nat)
  | IR_PEND (n : Nat)
  | IR_TGT_THRESH (j : Nat)
  | IR_TGT_CLAIM (j : Nat)
  | FC_CLASS (n : Nat)
  | THERM_TS (n : Nat)
  | KEYS_DIK_HASH (i : Nat)
  | KEYS_V_PDIG (i : Nat)
  | KEYS_V_HDIG (i : Nat)
  | KEYS_A_NONCE (i : Nat)
  | KEYS_MEAS_VER (k : Nat)
  | KEYS_MEAS_INFO (k : Nat)
  | KEYS_MEAS_DIG (k i : Nat)
  | SYS_BERR_ADDR
  | SYS_BERR_INFO
  | SYS_TFORCE_LO
  | SYS_TFORCE_HI
  | SYS_THROTTLE_REQ
  | SYS_SVCFLT
  | SYS_SCRUB_CFG
  | SYS_SCRUB_STAT
  | SYS_ECC_CNT
  | SYS_ECC_RATE
  | SYS_ECC_ADDR
  | SYS_ECC_INFO
  | SYS_UPD_SET
  | CLK_ROOT
  | CLK_ROOTSTAT
  | CLK_PLLM_CFG
  | CLK_PLLM_STAT
  | CLK_PLLS_CFG
  | CLK_PLLS_STAT
  | CLK_PLL_XCFG
  | CLK_PHASE_POLICY
  | CLK_PHASE_ERR
  | CLK_PHASE_OFS
  | CLK_DOMSEL
  | CLK_GATE
  | CLK_GATE_STAT
  | CLK_FMON_CFG
  | CLK_FMON_RES
  | CLK_FMON_LO
  | CLK_FMON_HI
  | CLK_EVT
  | CLK_EVTEN
  | PWR_STATE
  | PWR_DOM_STAT
  | PWR_STBY_OFF
  | PWR_VMON
  | PWR_VMON_CNT
  | PWR_VMIN
  | PWR_IVR
  | PWR_DOM
  | PWR_EVT
  | PWR_EVTEN
  | RST_CAUSE
  | RST_REQ
  | RST_STRAP
  | RST_SVC_ENTRY
  | RST_RELEASE
  | RST_COUNT
  | TIME_NOW_NS
  | TIME_NOW_SUB
  | TIME_NOW_SEC_LO
  | TIME_NOW_SEC_HI
  | TIME_ADDEND
  | TIME_ADDEND_EFF
  | TIME_ADJ_NS
  | TIME_ADJ_CFG
  | TIME_ADJ_REMAIN
  | TIME_STEP
  | TIME_SET_NS
  | TIME_SET_SEC_LO
  | TIME_SET_SEC_HI
  | TIME_DIST
  | TIME_STAT
  | TIME_CLKSTEP
  | TIME_WD_CFG
  | TIME_WD_KICK
  | STATION_RED_CFG
  | STATION_RED_SEQ
  | STATION_RED_CNT0
  | STATION_RED_CNT1
  | STATION_SV_EVT
  | STATION_SV_EVTEN
  | STATION_SV_TEVT
  | STATION_SV_TEVTEN
  | STATION_SV_LIVE
  | STATION_GOOSE_EVT
  | STATION_GOOSE_EVTEN
  | STATION_GOOSE_TQ
  | STATION_RRA_CFG
  | STATION_RRA_EVT
  | STATION_RRA_EVTEN
  | STATION_RRA_CNT
  | TANDEM_LINK
  | TANDEM_CFG
  | TANDEM_STAT
  | TANDEM_SILENT
  | TANDEM_TAKEBOUND
  | TANDEM_TKINFO_NS
  | TANDEM_TKINFO_SEC
  | TANDEM_TKINFO
  | TANDEM_MIRROR_LIST
  | TANDEM_MLIST_CNT
  | TANDEM_MCFG
  | TANDEM_MCTRL
  | TANDEM_MBUF
  | TANDEM_MBUF_SIZE
  | TANDEM_EPOCH
  | TANDEM_MSTAT
  | TANDEM_MCNT
  | TANDEM_EVT
  | TANDEM_EVTEN
  | TANDEM_LINKDLY
  | TANDEM_TASYM
  | TANDEM_TFERR
  | EDGE_LEAD
  | EDGE_STAT
  | EDGE_EVT
  | EDGE_LATECNT
  | EDGE_LATEINFO
  | EDGE_LOAD
  | EDGE_BLKMASK
  | EDGE_EVTEN
  | ADC_REF
  | ADC_GRPINJ
  | LOOP_SWAP
  | DMA_CFG
  | DMA_ERRSUM
  | IR_SWI
  | IR_ERRNEXT
  | XSPI_CFG
  | XSPI_CMD
  | XSPI_ADDR
  | XSPI_LEN
  | XSPI_DATA
  | XSPI_STAT
  | XSPI_BANKA
  | XSPI_BANKB
  | XSPI_BANKSEL
  | SVCPORT_ID0
  | SVCPORT_ID1
  | SVCPORT_ID2
  | SVCPORT_ID3
  | SVCPORT_BOOT
  | SVCPORT_GO
  | SVCPORT_CAUSE
  | SVCPORT_STRAP
  | SVCPORT_ROOTSTAT
  | SVCPORT_LAST_LO
  | SVCPORT_LAST_HI
  | FC_SCORE_LO
  | FC_SCORE_HI
  | FC_HELD_LO
  | FC_HELD_HI
  | FC_LIVE_LO
  | FC_LIVE_HI
  | FC_FORCE_LO
  | FC_FORCE_HI
  | FC_QUIET
  | FC_RECOVERIES
  | FC_RECOV_CFG
  | FC_STATE
  | FC_CTRL
  | FC_CFG
  | FC_STAT
  | FC_LAST_LO
  | FC_LAST_HI
  | FC_FIRST
  | FC_FIRST_NS
  | THERM_MAX
  | THERM_VALID
  | THERM_ALARM
  | THERM_THROTTLE
  | THERM_STAT
  | THERM_EVT
  | THERM_EVTEN
  | SAFE_CLAIM_LO
  | SAFE_CLAIM_HI
  | SAFE_CLAIM_CTRL
  | SAFE_CLAIM_STAT
  | SAFE_SEEN_LO
  | SAFE_SEEN_HI
  | SAFE_ALIVE
  | SAFE_ALIVE_HALF
  | SAFE_TRIP
  | SAFE_TRIP_CFG
  | SAFE_TRIP_STAT
  | SAFE_BLOCK
  | SAFE_ALIVE_KICK
  | SAFE_BLOCK_CFG
  | SAFE_BLOCK_STAT
  | KEYS_OWNER
  | KEYS_RB_LO
  | KEYS_RB_HI
  | KEYS_PATCH
  | KEYS_PATCH_STAT
  | KEYS_OTP_CTRL
  | KEYS_OTP_STAT
  | KEYS_V_ADDR
  | KEYS_V_LEN
  | KEYS_V_CTRL
  | KEYS_V_STAT
  | KEYS_V_INFO
  | KEYS_V_VER
  | KEYS_V_LOAD
  | KEYS_V_ARG
  | KEYS_V_PLEN
  | KEYS_A_DST
  | KEYS_A_CTRL
  | KEYS_A_STAT
  | PROT_STAT
  | PROT_CTRL
  deriving DecidableEq, Repr

/-- The access codes of R4. -/
inductive Acc where
  | RO | RW | WO | W1C | W1S | RWE | SRW
  deriving DecidableEq, Repr

/-- The letters of a Kept-by column: the resets and low-power states a field survives (R5). -/
inductive Keep where
  | P | H | S | V | B | L
  deriving DecidableEq, Repr

/-- One row of a register table: bits `hi` down to `lo`, its access code, reset value and Kept-by letters. -/
structure Field where
  hi    : Nat
  lo    : Nat
  acc   : Acc
  reset : Nat
  kept  : List Keep
  deriving DecidableEq, Repr

/-- A named field: `w` bits from bit `lo` of a register. -/
structure FRef where
  reg : Reg
  lo  : Nat
  w   : Nat
  deriving DecidableEq, Repr

end Sys2Proof.Machine
end

