-- ==== Sys2Proof/Syntax.lean ====
section
/-!
DEFINITION. Sys2Proof/Syntax.lean: the commands of the block, one constructor per row of the table of operations and
events, with the operands its rule names. Constructors with operands stand first.
-/
namespace Sys2Proof

open Machine (Page)

/-- The body of a HELLO record (R125). -/
structure HelloRec where
  uid     : BitVec 64
  type_   : BitVec 32
  hopRx   : BitVec 8
  rxPort  : BitVec 1
  posValid : Bool
  pos     : BitVec 8
  legs    : BitVec 8
  fwVer   : BitVec 32
  hopDly  : BitVec 16
  deriving DecidableEq, Repr

/-- The body of a TELEM record (R122): SAMPLE_NS, TSEQ, NSTAT and 28 payload words. -/
structure TelemRec where
  sampleNs : BitVec 32
  tseq     : BitVec 16
  nstat    : BitVec 16
  words    : List (BitVec 32)
  deriving DecidableEq, Repr

/-- One entry of a TDELAY record (R123). -/
structure DelayEntry where
  eseq  : BitVec 16
  delay : BitVec 12
  none_ : Bool
  sat   : Bool
  deriving DecidableEq, Repr

/-- The body of a FAULT record (R124). -/
structure FaultRec where
  fcode  : BitVec 16
  fseq   : BitVec 16
  legs   : BitVec 8
  action : BitVec 8
  ns     : BitVec 32
  deriving DecidableEq, Repr

/-- The body of an ECHO_RSP record (R125). -/
structure EchoRec where
  etag  : BitVec 16
  nstat : BitVec 16
  turn  : BitVec 32
  deriving DecidableEq, Repr

/-- The body of a CFG_ACK record (R125). -/
structure CfgAckRec where
  param  : BitVec 16
  count  : BitVec 16
  status : BitVec 16
  crc    : BitVec 32
  deriving DecidableEq, Repr

/-- The body of an FW_ACK record (R125). -/
structure FwAckRec where
  block  : BitVec 32
  status : BitVec 16
  deriving DecidableEq, Repr

/-- A heartbeat (R250): the fields of an HB record. -/
structure HbRec where
  claim     : BitVec 48
  seen      : BitVec 48
  role      : BitVec 8
  flags     : BitVec 8
  hseq      : BitVec 16
  sec       : BitVec 48
  ns        : BitVec 32
  frac      : BitVec 32
  addendEff : BitVec 32
  addendWr  : BitVec 32
  rxHseq    : BitVec 16
  rxNs      : BitVec 32
  rxFrac    : BitVec 32
  epochSent : BitVec 32
  epochApplied : BitVec 32
  rimd      : List (BitVec 32)
  deriving DecidableEq, Repr

/-- One record of an upstream frame (R122 to R125). -/
inductive UpRec where
  | telem (r : TelemRec)
  | tdelay (es : List DelayEntry)
  | fault (r : FaultRec)
  | hello (r : HelloRec)
  | echoRsp (r : EchoRec)
  | cfgAck (r : CfgAckRec)
  | fwAck (r : FwAckRec)
  deriving DecidableEq, Repr

/-- One block of a rim lane as received (R102, R106): its sync header, 0b10 for a control block and 0b01 for a data block,
and its 8 bytes, byte 0 the most significant. -/
structure RimBlock where
  ctrl  : Bool
  bytes : BitVec 64
  deriving DecidableEq, Repr

/-- A bit error that a read of memory meets (R301): the address of its 64-bit word, and whether it can be corrected. -/
structure EccErr where
  word   : Nat
  uncorr : Bool
  deriving DecidableEq, Repr

/-- The commands. Operands: `m` the bus master that issues an access (R38), `v` the word written, `p` a page, and
instance numbers in their ranges (R2). What the outside world supplies (a count measured, a frame received, a level
sensed) is an operand as well. -/
inductive Instr where
  /-- REGISTER_WRITE (R4): A write to a register field that has no row of its own acts under its access code, subject to rights, locks and expert level. -/
  | registerWrite (m addr n data : Nat) (errs : List EccErr)
  /-- PG_KEY_WRITE (R33): A write to a page's PG_KEY opens an unlock sequence or closes the open one, setting EXPERT_EN on success. -/
  | pgKeyWrite (m : Nat) (p : Page) (v : Word)
  /-- UNLOCK_TIMEOUT (R34): An open unlock sequence with no second write within 256 BUSCLK cycles fails and sets KEY_FAIL. -/
  | unlockTimeout (p : Page)
  /-- EXPERT_EN_CLEAR (R35): Writing 1 to PG_CTRL.EXPERT_EN returns the page to basic level. -/
  | expertEnClear (m : Nat) (p : Page) (v : Word)
  /-- SOFT_RESET (R31): Writing 1 to PG_CTRL.SOFT_RESET starts a block reset of the page, which first drains its outstanding transactions. -/
  | softReset (m : Nat) (p : Page) (v : Word)
  /-- BLOCK_RESET_DRAINED (R31): When the drain of a block reset ends, every field not kept by B takes its reset value and SOFT_RESET clears. -/
  | blockResetDrained (p : Page) (forced : Bool)
  /-- PG_ERRFORCE_WRITE (R32): Writing 1 to a bit of PG_ERRFORCE sets the same bit of PG_ERR, possibly asserting the page's error line. -/
  | pgErrforceWrite (m : Nat) (p : Page) (v : Word)
  /-- PG_LOCK_WRITE (R36): Writing 1 to a PG_LOCK bit freezes the named fields until a reset the bit does not survive; LOCK_EXPERT also clears EXPERT_EN. -/
  | pgLockWrite (m : Nat) (p : Page) (v : Word)
  /-- BUS_TIMEOUT (R41): An access with no response from its target within 4,096 BUSCLK cycles receives TIMEOUT and latches source 57. -/
  | busTimeout (m addr : Nat) (write : Bool)
  /-- BERR_RELEASE (R43): Writing 1 to SYS.BERR_INFO.VALID releases the capture and clears COUNT. -/
  | berrRelease (m : Nat)
  /-- INTERRUPT_CLAIM (R47): A read of IR.TGTj_CLAIM returns the best pending source for target j, setting its ACTIVE and clearing its PEND. -/
  | interruptClaim (m : Nat) (j : Fin 9)
  /-- INTERRUPT_COMPLETE (R47): A write of a source number to IR.TGTj_CLAIM completes that source or sets BAD_COMPLETE. -/
  | interruptComplete (m : Nat) (j : Fin 9) (v : Word)
  /-- SOFTWARE_INTERRUPT (R44): A write of 1 to a bit of IR.SWI sets pending of software interrupt source 136 to 140. -/
  | softwareInterrupt (m : Nat) (v : Word)
  /-- ROUTE_WRITE (R45): A write to IR.SRCs_ROUTE sets target and priority, refused with VIOLATION for target 8 unless from a safety-partition master. -/
  | routeWrite (m : Nat) (src : Fin 256) (v : Word)
  /-- CANDIDATE_LOCK (R52): A root candidate's receiver reports clock-data lock, or REFIN begins toggling, and its qualification count starts. -/
  | candidateLock (idx : Fin 5)
  /-- CANDIDATE_PRESENT (R52): A candidate's qualification count completes without interruption and the candidate becomes present. -/
  | candidatePresent (idx : Fin 5)
  /-- CANDIDATE_LOSS (R52): A candidate is interrupted and stops being present. -/
  | candidateLoss (idx : Fin 5)
  /-- ROOT_SRC_WRITE (R54): A write of a candidate number to CLK.ROOT.SRC changes the root through Freewheel with cause 4, or is refused. -/
  | rootSrcWrite (m : Nat) (v : Word)
  /-- PLL_LOCK (R57): A loop's phase error stays within the window for 64 reference edges and LOCK becomes 1, completing any Freewheel exit. -/
  | pllLock (pll : Fin 2)
  /-- PLL_READY (R57): LOCK has held for 8,192 reference cycles and READY becomes 1, starting a slew or a step under the phase policy. -/
  | pllReady (pll : Fin 2)
  /-- RELEASE_EDGE (R58): At the 256th reference cycle after READY the loop's output dividers are released together at E0. -/
  | releaseEdge (pll : Fin 2)
  /-- PLL_START_TIMEOUT (R80): A PLL that has not reached READY within 1 ms of starting latches source 37 or 38. -/
  | pllStartTimeout (pll : Fin 2)
  /-- PLLM_RESTART (R58): Writing 1 to CLK.PLLM_CFG.RESTART restarts PLL-M and re-releases its outputs, or is refused. -/
  | pllmRestart (m : Nat)
  /-- PLLS_RESTART (R62): A safety master writing CLK.PLLS_CFG.RESTART restarts PLL-S with the SAFE domain on stand-in clocks, or is refused. -/
  | pllsRestart (m : Nat)
  /-- OUT_CFG_WRITE (R60): A write to CLK.OUTn_CFG enables, disables or reconfigures an output, or is refused with OUT_REFUSED. -/
  | outCfgWrite (m : Nat) (n : Fin 8) (v : Word)
  /-- FREQUENCY_GATE_END (R65): A 1 ms frequency-check gate ends; a failing count enters Freewheel with cause 2, a passing gate may let a loop close. -/
  | frequencyGateEnd (idx : Fin 5) (count : Nat) (err : Int)
  /-- LOCK_LOSS (R63): LOCK falls at a reference edge and that loop enters Freewheel with cause 3, latching source 37 or 38. -/
  | lockLoss (pll : Fin 2)
  /-- RELOCK_FAIL (R66): LOCK has not risen within 1 ms of closing; the loop returns to its held value, latches its source and retries. -/
  | relockFail (pll : Fin 2)
  /-- DO_STEP (R70): Writing 1 to CLK.PHASE_POLICY.DO_STEP runs a step within 32 ns if READY and cells are blocked, otherwise STEP_REFUSED. -/
  | doStep (m : Nat) (v : Word)
  /-- DOMSEL_WRITE (R74): A write to CLK.DOMSEL starts switching each changed domain multiplexer, or is refused whole. -/
  | domselWrite (m : Nat) (v : Word)
  /-- DOMSEL_RESUME (R74): A switching multiplexer resumes on the second rising edge of the new clock and its BUSY falls. -/
  | domselResume (f : Fin 6)
  /-- SW_FORCED (R75): With no old-clock falling edge within 32 new-clock cycles, the switch completes by force and SW_FORCED is set. -/
  | swForced (f : Fin 6)
  /-- GATE_REQUEST (R76): A write to CLK.GATE requests a block's gate and starts draining it, or reopens or abandons a gate. -/
  | gateRequest (m : Nat) (v : Word)
  /-- GATE_CLOSE (R76): When the drain ends, the block's clock stops at its next low phase and its CLOSED bit is set. -/
  | gateClose (b : Fin 21)
  /-- GATE_FORCED (R76): A drain still open after 1,024 BUSCLK cycles is closed by force; outstanding accesses receive GATED. -/
  | gateForced (b : Fin 21)
  /-- FMON_START (R78): Writing 1 to CLK.FMON_CFG.START starts a frequency measurement, or is refused. -/
  | fmonStart (m : Nat) (v : Word)
  /-- FMON_DONE (R78): At the Nth gate edge COUNT and DONE are set, with ALARM and source 40 if out of limits. -/
  | fmonDone (count : Nat)
  /-- TIME_SNAPSHOT (R84): A read of TIME.NOW_NS captures the whole timebase into the reading master's snapshot. -/
  | timeSnapshot (m : Nat)
  /-- ADDEND_WRITE (R86): A write to TIME.ADDEND is refused outside ±500 ppm or becomes a pending change applied under R87. -/
  | addendWrite (m : Nat) (v : Word)
  /-- ADJ_NS_WRITE (R88): A write to TIME.ADJ_NS starts, replaces or ends an offset slew. -/
  | adjNsWrite (m : Nat) (v : Word)
  /-- STEP_ABS (R89): A write of CMD 1 to TIME.STEP requests an absolute step of the timebase, accepted only while cells are blocked. -/
  | stepAbs (m : Nat)
  /-- STEP_REL (R89): A write of CMD 2 to TIME.STEP requests a relative step of the timebase, accepted only while cells are blocked. -/
  | stepRel (m : Nat)
  /-- PERIOD_WRITE (R90): A write to TIME.DIST.PERIOD is refused or accepted as a pending change and sent as CFG DPERIOD. -/
  | periodWrite (m : Nat) (v : Word)
  /-- ALARM_FIRE (R91): Alarm n fires when the timebase reaches its time, pulsing its interrupt, driving its GPIO and rearming or disarming. -/
  | alarmFire (n : Fin 4)
  /-- ALARM_PULSE_END (R91): WIDTH us after an alarm fires, its GPIO pulse ends. -/
  | alarmPulseEnd (n : Fin 4)
  /-- WD_ENABLE (R92): Setting TIME.WD_CFG.EN starts the servo watchdog timeout; clearing it stops it. -/
  | wdEnable (m : Nat) (v : Word)
  /-- WD_KICK (R92): A write to TIME.WD_KICK restarts the servo watchdog timeout. -/
  | wdKick (m : Nat) (v : Word)
  /-- TIME_RECORD_LATE (R92): An enabled rim port that has sent no time record 2 us after a boundary latches source 36. -/
  | timeRecordLate (n : Fin 32)
  /-- TSQ_POP (R95): A read of TIME.PORTx_TSQ_W0 pops the oldest transmit timestamp into the reader's snapshot. -/
  | tsqPop (m : Nat) (port : Fin 2)
  /-- RIM_ENABLE (R133): Setting a rim page's PG_CTRL.ENABLE switches the lanes on and starts a discovery run. -/
  | rimEnable (m : Nat) (n : Fin 32) (v : Word)
  /-- RIM_DISABLE (R433): Clearing a rim's PG_CTRL.ENABLE stops its lane and makes every position ABSENT. -/
  | rimDisable (m : Nat) (n : Fin 32) (v : Word)
  /-- RIM_RXLOCK_CHANGE (R143): A rim receive lane gains or loses block lock, updating RXLOCK and LINK_CHANGE. -/
  | rimRxlockChange (n : Fin 32) (lock : Bool)
  /-- LINK_DOWN (R143): A rim lane without block lock for over 1 us, or never locked within 1 ms, latches source RIMn with LINK_DOWN. -/
  | linkDown (n : Fin 32)
  /-- RIM_FRAME_TRANSMIT (R127): A queued downstream frame leaves a rim port in priority order when its slot is free. -/
  | rimFrameTransmit (n : Fin 32)
  /-- UP_FRAME (R110): An upstream frame arrives whole at a rim port and is checked, counted and its records dispatched. `b` is its first
  block and `bs` are those after it. -/
  | upFrame (n : Fin 32) (b : RimBlock) (bs : List RimBlock) (t4 : Nat)
  /-- HELLO (R132): A HELLO record fixes a node's position and moves its state, or counts EXTRA or MISWIRED. -/
  | hello (n : Fin 32) (claim : BitVec 48) (r : HelloRec)
  /-- ECHO_RSP (R129): An ECHO_RSP record gives a delay sample for calibration or tracking and may show TSYNC. -/
  | echoRsp (n : Fin 32) (pos : Fin 8) (r : EchoRec) (t4 : Nat)
  /-- CFG_ACK (R134): A CFG_ACK record acknowledges a CFG, advances the position or sets it FAILED with cause CFG. -/
  | cfgAck (n : Fin 32) (pos : Fin 8) (r : CfgAckRec)
  /-- FW_ACK (R140): An FW_ACK record acknowledges a block, a digest result or an activation in a firmware transfer. -/
  | fwAck (n : Fin 32) (pos : Fin 8) (r : FwAckRec)
  /-- TELEM (R137): A TELEM record is written to its slot's back buffer or discarded and counted LATE. -/
  | telem (n : Fin 32) (pos : Fin 8) (port : Fin 2) (r : TelemRec)
  /-- TDELAY (R168): A TDELAY record's entries are classified and update the adapted dead times of their legs. -/
  | tdelay (n : Fin 32) (pos : Fin 8) (claim : BitVec 48) (es : List DelayEntry)
  /-- FAULT (R139): A FAULT record with a new FSEQ latches source 60, records the fault and moves the position. -/
  | fault (n : Fin 32) (pos : Fin 8) (r : FaultRec)
  /-- DISCOVER (R133): Writing RIMn.CTRL.DISCOVER starts a discovery run that sends DISCOVER once the lane is in block lock. -/
  | discover (m : Nat) (n : Fin 32) (v : Word)
  /-- DISCOVERY_WINDOW_END (R133): The 50 us HELLO window closes and ASSIGN is sent to every DISCOVERED position. -/
  | discoveryWindowEnd (n : Fin 32)
  /-- DISCOVERY_LOCK_TIMEOUT (R133): A run whose lane gains no block lock within 1 ms ends without DISCOVER and sets DISC_DONE. -/
  | discoveryLockTimeout (n : Fin 32)
  /-- DISCOVERY_END (R133): A discovery run ends when no position lies between DISCOVERED and its target, setting DISC_DONE and PERCENT 100. -/
  | discoveryEnd (n : Fin 32)
  /-- AUTO_RESCAN (R133): With AUTO_RESCAN set, every 1 ms a discovery run starts for ABSENT positions. -/
  | autoRescan (n : Fin 32)
  /-- CFG_RETRY (R134): A CFG unacknowledged after 10 us is tried again, and after its third try sets the position FAILED with cause CFG. -/
  | cfgRetry (k : Fin 256)
  /-- ECHO_TRACK (R130): At each tracking interval an ECHO_REQ is sent to each position from CONFIGURED onwards. -/
  | echoTrack (k : Fin 256)
  /-- SYNC_TIMEOUT (R133): A CONFIGURED position with no TSYNC within 2 ms of DELAY becomes FAILED with cause SYNC. -/
  | syncTimeout (k : Fin 256)
  /-- SPOKE_LOST (R133): No valid upstream frame from a position for LOSS × 10 us sets it FAILED with cause LOST. -/
  | spokeLost (k : Fin 256)
  /-- FW_HELLO_TIMEOUT (R141): No HELLO within 150 ms of a node's activation sets its position FAILED with cause FW. -/
  | fwHelloTimeout (k : Fin 256)
  /-- SPOKE_ADMIT (R133): Writing SPOKEk.CTRL.ADMIT at a SYNCED position sends BYPASS open and RELEASE and makes it ADMITTED. -/
  | spokeAdmit (m : Nat) (k : Fin 256) (v : Word)
  /-- SPOKE_BYPASS (R133): Writing SPOKEk.CTRL.BYPASS at an ADMITTED position sends BYPASS close and RELEASE with mask 0. -/
  | spokeBypass (m : Nat) (k : Fin 256) (v : Word)
  /-- SPOKE_UNBYPASS (R133): Writing SPOKEk.CTRL.UNBYPASS at a BYPASSED position sends BYPASS open and RELEASE. -/
  | spokeUnbypass (m : Nat) (k : Fin 256) (v : Word)
  /-- SPOKE_RESCAN (R133): Writing SPOKEk.CTRL.RESCAN at a FAILED or BYPASSED position returns it to ABSENT for rediscovery. -/
  | spokeRescan (m : Nat) (k : Fin 256) (v : Word)
  /-- SPOKE_CFG_WRITE (R134): A write to SAFE_STATE, WDOG or PARi from CONFIGURED onwards is sent as CFG without a change of state. -/
  | spokeCfgWrite (m : Nat) (k : Fin 256) (idx : Fin 18) (v : Word)
  /-- INTERLOCK_CFG_SEND (R167): An interlock increase is sent as CFG once every EDGE record generated under the old value has left the rim port. -/
  | interlockCfgSend (k : Fin 256)
  /-- TELEMETRY_CUT (R137): At CUT_DLY after the sampling instant every slot of the rim becomes fresh or stale in one tick and the cut event is raised. -/
  | telemetryCut (n : Fin 32)
  /-- FW_START (R140): Writing RIMn.FW_CTRL.START starts a cell-node firmware transfer with FW_START. -/
  | fwStart (m : Nat) (n : Fin 32) (v : Word)
  /-- FW_DATA_SEND (R140): Every FW_PACE us the rim engine sends the next or resent FW_DATA block. -/
  | fwDataSend (n : Fin 32)
  /-- FW_ACTIVATE (R141): Writing RIMn.FW_CTRL.ACTIVATE sends FW_ACTIVATE with OP 1 to the positions holding a good digest. -/
  | fwActivate (m : Nat) (n : Fin 32) (v : Word)
  /-- FW_ABORT (R141): Writing RIMn.FW_CTRL.ABORT stops the transfer at the next block. -/
  | fwAbort (m : Nat) (n : Fin 32) (v : Word)
  /-- CARRIER_ARM (R147): Setting EDGE.CARc_CTRL.EN arms the carrier and chooses its first period, or is refused with CAR_REFUSED. -/
  | carrierArm (m : Nat) (c : Fin 64) (v : Word)
  /-- CARRIER_DISABLE (R148): Clearing EDGE.CARc_CTRL.EN stops further commits or cancels the arm, or is refused while legs are bound. -/
  | carrierDisable (m : Nat) (c : Fin 64) (v : Word)
  /-- CARRIER_START (R147): A carrier's first period starts, RUN becomes 1 and CAR_START is set. -/
  | carrierStart (c : Fin 64)
  /-- CARRIER_STOP (R148): At the end of a disabled carrier's last committed period RUN falls and CAR_STOP is set. -/
  | carrierStop (c : Fin 64)
  /-- COMMIT (R154): At the commit tick the carrier's period, compares and bound legs' values are taken in one tick. -/
  | commit (c : Fin 64)
  /-- LEAD_WRITE (R157): A write to EDGE.LEAD changes the commit lead from the next tick, committing overdue periods at once. -/
  | leadWrite (m : Nat) (v : Word)
  /-- XFER_REQUEST (R156): A write to EDGE.CARc_XFER requests that the next gated commit take new values. -/
  | xferRequest (m : Nat) (c : Fin 64) (v : Word)
  /-- LEG_CTRL_WRITE (R150): A write to EDGE.LEGl_CTRL binds or enables a leg, refused with LEG_REFUSED if it changes CAR while enabled. -/
  | legCtrlWrite (m : Nat) (l : Fin 1024) (v : Word)
  /-- ADAPT_ENABLE (R171): Setting EDGE.LEGl_DT.ADAPT initialises both adapted dead times from DT and empties the filters. -/
  | adaptEnable (m : Nat) (l : Fin 1024) (v : Word)
  /-- BLOCK_START (R176): A block comes into force on a rim; queued records are discarded, block pairs are sent and no edge is generated. -/
  | blockStart (n : Fin 32)
  /-- BLOCK_END (R283): No block remains on a rim; pairs stop and each ADMITTED position receives BYPASS open as needed and RELEASE. -/
  | blockEnd (n : Fin 32)
  /-- LATEINFO_RELEASE (R175): Writing 1 to EDGE.LATEINFO.VALID releases the late-edge capture. -/
  | lateinfoRelease (m : Nat)
  /-- REF_SRC_WRITE (R183): A write to ADC.REF.SRC changes the reference while all converters are idle, or is refused with REF_REFUSED. -/
  | refSrcWrite (m : Nat) (v : Word)
  /-- SEL_PUSH (R188): A write to ADCc.SEL pushes a select at the tail of the queue, or is refused with QFULL or BAD_CHAN. -/
  | selPush (m : Nat) (c : Fin 16) (v : Word)
  /-- QUEUE_FLUSH (R188): Writing 1 to ADCc.CTRL.FLUSH empties the select queue. -/
  | queueFlush (m : Nat) (c : Fin 16) (v : Word)
  /-- CONVERSION_BOUNDARY (R181): At the end of a conversion phase the converter chooses its next slot: injected, paired, queued or idle. -/
  | conversionBoundary (c : Fin 16)
  /-- RESULT_WRITE (R181): Four ADCCLK cycles after a conversion phase its result is written to the FIFO and channel result table. -/
  | resultWrite (c : Fin 16) (v : Int) (vref : Nat)
  /-- ADC_TRIGGER (R190): A trigger reaches a TRIGGERED converter and starts a burst, or is lost and counted TRGOVR. -/
  | adcTrigger (c : Fin 16)
  /-- ADC_SWTRIG (R190): Writing 1 to ADCc.CTRL.SWTRIG delivers a software trigger to the converter. -/
  | adcSwtrig (m : Nat) (c : Fin 16) (v : Word)
  /-- INJ_REQUEST (R191): A write to ADCc.INJ makes an injected select pending, or is refused with INJ_BUSY. -/
  | injRequest (m : Nat) (c : Fin 16) (v : Word)
  /-- INJ_RESULT (R192): An injected result is written to INJRES and INJTS, PEND falls and INJ_DONE is set. -/
  | injResult (c : Fin 16) (v : Int) (vref : Nat)
  /-- FIFO_POP (R193): A read of ADCc.RES pops the oldest word of the result FIFO. -/
  | fifoPop (m : Nat) (c : Fin 16)
  /-- PAIR_TIMEOUT (R195): A partner that does not join a paired wait within 64 ADCCLK cycles leaves the converter to convert alone with PLAUS. -/
  | pairTimeout (c : Fin 16)
  /-- DAC_WRITE (R197): A write to ADCp.DAC sets the check DAC code and connection, or is refused with DAC_BUSY. -/
  | dacWrite (m : Nat) (p : Fin 8) (v : Word)
  /-- DIAG_CFG_WRITE (R198): A write to ADCp.DIAG_CFG sets the diagnosis mode and clears the DELTA reference. -/
  | diagCfgWrite (m : Nat) (p : Fin 8) (v : Word)
  /-- CAL_START (R200): Writing 1 to ADCc.CAL.START requests a self-calibration, or is refused with CAL_REFUSED. -/
  | calStart (m : Nat) (c : Fin 16) (v : Word)
  /-- CAL_BEGIN (R200): At the first boundary with no injected select pending the calibration begins and the partner carries the work. -/
  | calBegin (c : Fin 16)
  /-- CAL_DONE (R200): After 2,048 slots the calibration ends with STATUS, new trims and CAL_DONE, or FAILED with source 42. -/
  | calDone (c : Fin 16) (ok : Bool) (gain offset : BitVec 16)
  /-- INJECTION_DETECTOR (R203): A mux group's injection detector asserts or releases, setting GRPINJ and starting the recovery marking. -/
  | injectionDetector (g : Fin 6) (active : Bool)
  /-- LOOP_START (R222): An engine starts a run on its trigger or cut, ending any run in progress with OVERRUN, and applies due swaps. -/
  | loopStart (e : Fin 8)
  /-- LOOP_SWSTART (R222): Writing 1 to LOOPe.CTRL.SWSTART starts a run in the tick the write lands. -/
  | loopSwstart (m : Nat) (e : Fin 8) (v : Word)
  /-- CASCADE_ADMIT (R223): When the window has room and waits are met, the engine takes the next program entry and admits its cascade. -/
  | cascadeAdmit (e : Fin 8) (errs : List EccErr)
  /-- WAIT_SATISFIED (R220): A WAITX, WAITC, WAITT or BARRIER condition becomes true and the entry is passed. -/
  | waitSatisfied (e : Fin 8)
  /-- SECTION_ISSUE (R208): A ready cascade issues its next section for evaluation. -/
  | sectionIssue (e : Fin 8) (errs : List EccErr)
  /-- CASCADE_COMPLETE (R217): Six cycles after its last section issues a cascade completes and commits all its section states together. -/
  | cascadeComplete (e : Fin 8)
  /-- OUTPUT_LAND (R226): A completed cascade's output operand, setpoints and EDGE destinations land one or two cycles later. -/
  | outputLand (e : Fin 8)
  /-- LOOP_DEADLINE (R229): At the deadline tick an incomplete run abandons its cascades, sets MISS and latches source 44. -/
  | loopDeadline (e : Fin 8)
  /-- SWAP_REQUEST (R231): Writing 1 to a bit of LOOP.SWAP.REQ requests a bank swap of that group at the group engine's next start. -/
  | swapRequest (m : Nat) (v : Word)
  /-- GRP_CFG_WRITE (R234): A write to LOOP.GRPg_CFG sets the group's policy and engine, ignored with GRP_BUSY while a swap is pending. -/
  | grpCfgWrite (m : Nat) (g : Fin 16) (v : Word)
  /-- TRACE_ARM (R237): Writing 1 to LOOPe.TRACE_CTRL.ARM arms the trace buffer with WPTR 0. -/
  | traceArm (m : Nat) (e : Fin 8) (v : Word)
  /-- TRACE_STOP (R237): Writing 1 to LOOPe.TRACE_CTRL.STOP returns the trace buffer to IDLE. -/
  | traceStop (m : Nat) (e : Fin 8) (v : Word)
  /-- TRACE_FORCE (R237): Writing 1 to LOOPe.TRACE_CTRL.FORCE triggers the trace at the next run. -/
  | traceForce (m : Nat) (e : Fin 8) (v : Word)
  /-- TRACE_RECORD (R236): Within 40 cycles of a run's end the engine evaluates the trace trigger and writes the run's record. -/
  | traceRecord (e : Fin 8)
  /-- TRACE_CFG_WRITE (R238): A write to the trace configuration is ignored with TRACE_BUSY while ARMED or TRIGGERED. -/
  | traceCfgWrite (m : Nat) (e : Fin 8) (w : Fin 19) (v : Word)
  /-- RUNMAX_CLEAR (R227): Writing 1 to LOOPe.RUNMAX.CLR clears the greatest run length. -/
  | runmaxClear (m : Nat) (e : Fin 8)
  /-- NANINFO_RELEASE (R210): Writing 1 to LOOPe.NANINFO.VALID releases the NaN capture. -/
  | naninfoRelease (m : Nat) (e : Fin 8)
  /-- CLAIM_LEARN (R247): A safety master writing 1 to SAFE.CLAIM_CTRL.LEARN starts claim learning. -/
  | claimLearn (m : Nat) (v : Word)
  /-- HB_SEND (R249): At every whole 1,000 ns each enabled tandem lane sends a heartbeat frame. -/
  | hbSend (lane : Fin 2) (off : Fin 251)
  /-- HB_RECEIVE (R251): A valid heartbeat updates H, the partner's role and flags, the link delay and the time offset. -/
  | hbReceive (lane : Fin 2) (hb : HbRec) (ago : Nat)
  /-- RIM_SILENT (R252): A rim with two empty arrival windows is declared silent 400 ns after the second. -/
  | rimSilent (n : Fin 32)
  /-- PEER_FRAME (R244): A valid downstream frame of the partner arrives on a rim and its claim enters H. `b` is its
  first block and `bs` are those after it. -/
  | peerFrame (n : Fin 32) (b : RimBlock) (bs : List RimBlock) (sof tp : Nat)
  /-- ADT_RECORD (R254): A STANDBY writes a received ADT value and FB flag into EDGE.LEGl_ADT. -/
  | adtRecord (l : Fin 1024) (dir : Fin 2) (adt : BitVec 12) (fb : Bool)
  /-- SWAP_RECORD (R254): A STANDBY sets the received groups' SWAP.REQ bits. -/
  | swapRecord (mask : BitVec 16)
  /-- RESIGN (R261): Writing 1 to SAFE.CLAIM_CTRL.RESIGN at an ACTIVE unit sets RESIGN in its heartbeats. -/
  | resign (m : Nat) (v : Word)
  /-- MIRROR_LIST_LOAD (R264): Writing 1 to TANDEM.MCTRL.LOAD validates and copies the mirror list, or refuses it with BAD_LIST. -/
  | mirrorListLoad (m : Nat) (v : Word)
  /-- MDATA (R266): A standby receives an MDATA record into its mirror buffer. -/
  | mdata (off : BitVec 32) (data : List (BitVec 8))
  /-- MEND (R266): A standby receives MEND and completes the epoch, or discards it on CRC failure. -/
  | mend (epoch ns sec ebytes crc : BitVec 32)
  /-- SOURCE_LATCH (R273): An asserted source sets its Scoreboard bit and brings the actions of its class. -/
  | sourceLatch (n : Fin 64)
  /-- FC_RELEASE (R281): Writing 1 to FC.CTRL.RELEASE ends the fault state, or is refused with RELEASE_REFUSED. -/
  | fcRelease (m : Nat)
  /-- FC_UNBLOCK (R283): Writing 1 to FC.CTRL.UNBLOCK in NORMAL ends the reaction block. -/
  | fcUnblock (m : Nat)
  /-- SWFAULT (R287): Writing 1 to FC.CTRL.SWFAULT is a condition of source 63. -/
  | swfault (m : Nat)
  /-- FORCE_WRITE (R273): A write to FC.FORCE sets or clears forces that assert sources. -/
  | forceWrite (m : Nat) (hi : Bool) (v : Word)
  /-- TFORCE_WRITE (R275): A write to SYS.TFORCE forces sources while test forcing is permitted, otherwise VIOLATION and source 58. -/
  | tforceWrite (m : Nat) (hi : Bool) (v : Word)
  /-- SCORE_CLEAR (R273): A W1C write to FC.SCORE clears Scoreboard bits that are not asserted in that cycle. -/
  | scoreClear (m : Nat) (hi : Bool) (v : Word)
  /-- CLASS_WRITE (R276): A write to FC.CLASSn sets a source's class, acting as MIN below it with CLASS_MIN. -/
  | classWrite (m : Nat) (n : Fin 64) (v : Word)
  /-- FIRST_RELEASE (R43): Writing 1 to FC.FIRST.VALID releases the first-latch capture. -/
  | firstRelease (m : Nat)
  /-- TRIP_WRITE (R286): A protection-pair write to SAFE.TRIP drives the trip outputs and, on a rising bit, is a condition of source 62. -/
  | tripWrite (m : Nat) (v : Word)
  /-- TRIP_MIN_EXPIRE (R286): A trip bit cleared early is cleared when its MIN assertion time ends. -/
  | tripMinExpire (n : Fin 8)
  /-- TRIP_CFG_WRITE (R371): The first write to SAFE.TRIP_CFG after a reset enables the TRIPn drivers. -/
  | tripCfgWrite (m : Nat) (v : Word)
  /-- BLOCK_COMMAND (R282): A write to SAFE.BLOCK.RIMS commands blocks on rims or ends them. -/
  | blockCommand (m : Nat) (v : Word)
  /-- ALIVE_KICK (R285): A write to SAFE.ALIVE_KICK restarts the kick window and enables ALIVE after a reset. -/
  | aliveKick (m : Nat) (v : Word)
  /-- SVC_HANG (R288): A service core retiring no instruction for 1,048,576 delivered cycles raises a hang and source 55. -/
  | svcHang (core : Fin 4)
  /-- SVC_CACHE_ERROR (R288): An uncorrectable cache error invalidates the line, answers DATA and raises source 55. -/
  | svcCacheError (core : Fin 4) (l2 : Bool)
  /-- THERM_SAMPLE (R292): Every 50 us all 24 thermal sensors are sampled together. -/
  | thermSample (temps : List (BitVec 16))
  /-- THROTTLE_WRITE (R297): A write to THERM.THROTTLE changes the effective throttle level of service cores and DMA. -/
  | throttleWrite (m : Nat) (v : Word)
  /-- THROTTLE_REQ (R297): A write to SYS.THROTTLE_REQ requests a throttle level that takes part while REQ_EN is set. -/
  | throttleReq (m : Nat) (v : Word)
  /-- SRAM_CLEAR_DONE (R304): The zero-fill of shared SRAM, or of safety and staging RAM, ends and the memory becomes READY. -/
  | sramClearDone (safe : Bool)
  /-- SCRUB_STEP (R305): Every STRIDE BUSCLK cycles the main scrubber reads one word and repairs a correctable error. -/
  | scrubStep (err : Option Bool)
  /-- SAFETY_SCRUB_STEP (R306): Every 64 SAFECLK cycles the safety scrubber checks one word of safety or staging RAM. -/
  | safetyScrubStep (err : Option Bool)
  /-- ECC_RELEASE (R43): Writing 1 to SYS.ECC_INFO.VALID releases the uncorrectable-error capture. -/
  | eccRelease (m : Nat)
  /-- XSPI_READ (R308): A write of XSPI.CMD with KIND READ starts a flash read into the data FIFO. -/
  | xspiRead (m : Nat) (v : Word) (data : List (BitVec 8))
  /-- XSPI_PROG (R308): A write of XSPI.CMD with KIND PROG programs flash from the FIFO and polls status, or is refused by BANK_PROT. -/
  | xspiProg (m : Nat) (v : Word)
  /-- XSPI_ERASE (R308): A write of XSPI.CMD with KIND ERASE erases flash and polls status, or is refused by BANK_PROT. -/
  | xspiErase (m : Nat) (v : Word)
  /-- XSPI_REG_RD (R308): A write of XSPI.CMD with KIND REG_RD reads a flash register into the FIFO. -/
  | xspiRegRd (m : Nat) (v : Word) (data : List (BitVec 8))
  /-- XSPI_REG_WR (R308): A write of XSPI.CMD with KIND REG_WR writes a flash register from the FIFO. -/
  | xspiRegWr (m : Nat) (v : Word)
  /-- XSPI_DATA_POP (R308): A read of XSPI.DATA pops 4 bytes of the FIFO or sets UNDERRUN. -/
  | xspiDataPop (m : Nat)
  /-- XSPI_DATA_PUSH (R308): A write of XSPI.DATA pushes 4 bytes to the FIFO or sets OVERRUN. -/
  | xspiDataPush (m : Nat) (v : Word)
  /-- DMA_START (R315): Writing 1 to DMA.CHh_CTRL.START starts a chain at CHh_DESC, or is refused with CH_BUSY. -/
  | dmaStart (m : Nat) (h : Fin 32) (v : Word)
  /-- DMA_FETCH (R315): A descriptor fetch completes; the channel waits for a trigger or moves data, or stops with LOOP_DETECT or DESC_BAD. -/
  | dmaFetch (h : Fin 32) (errs : List EccErr)
  /-- DMA_SWTRIG (R316): Writing 1 to DMA.CHh_CTRL.SWTRIG delivers a trigger to the channel. -/
  | dmaSwtrig (m : Nat) (h : Fin 32) (v : Word)
  /-- DMA_READ_BEAT (R311): A burst's read beat is accepted, reducing CHh_CNT and feeding the CRC. -/
  | dmaReadBeat (h : Fin 32) (n : Nat) (errs : List EccErr)
  /-- DMA_WRITE_RESPONSE (R318): A write response arrives; an error response ends the descriptor under R318. -/
  | dmaWriteResponse (h : Fin 32) (n : Nat) (errs : List EccErr)
  /-- DMA_WRITEBACK (R318): After all write responses the channel writes STATUS and CRC back and fetches NEXT or stops. -/
  | dmaWriteback (h : Fin 32) (errs : List EccErr)
  /-- DMA_ABORT (R319): Writing 1 to DMA.CHh_CTRL.ABORT ends the descriptor after in-flight bursts with CODE ABORTED. -/
  | dmaAbort (m : Nat) (h : Fin 32) (v : Word)
  /-- STATION_FRAME_RX (R324): An accepted station frame is classified and sent to its destination or dropped;
  its timestamp point was `ago` ps ago. -/
  | stationFrameRx (port : Fin 2) (bytes : List (BitVec 8)) (fcsOk : Bool) (ago : Nat)
  /-- SV_TIMEOUT (R335): No ASDU accepted for TIMEOUT us clears LIVE, sets SV_TEVT and latches source 32 or 33. -/
  | svTimeout (sub : Fin 32)
  /-- GOOSE_TIMEOUT (R336): No message by the deadline clears LIVE, loads DEFAULT and latches source 32 or 33. -/
  | gooseTimeout (sub : Fin 16)
  /-- RRA_ITEM (R342): An item of a passed request executes as one 32-bit access by master 11 or takes an error code. -/
  | rraItem (errs : List EccErr)
  /-- RRA_SESSION_ENABLE (R341): Setting SESj_CTRL.EN opens a session, clearing its SEQ and STRIKES. -/
  | rraSessionEnable (m : Nat) (j : Fin 8) (v : Word)
  /-- RX_DESC_POP (R325): A read of PORTx_RXD0 pops the oldest receive descriptor into the reader's snapshot. -/
  | rxDescPop (m : Nat) (port : Fin 2)
  /-- RX_DATA_READ (R325): A read of PORTx_RXDATA returns the next 4 bytes of the popped frame or sets UNDERRUN. -/
  | rxDataRead (m : Nat) (port : Fin 2)
  /-- TX_DESC_WRITE (R326): A write to PORTx_TXD0 begins a transmit frame, discarding any incomplete one. -/
  | txDescWrite (m : Nat) (port : Fin 2) (v : Word)
  /-- TX_DATA_PUSH (R326): A write to PORTx_TXDATA pushes 4 bytes and queues the frame at its last byte. -/
  | txDataPush (m : Nat) (port : Fin 2) (v : Word)
  /-- STATION_TX (R327): A port chooses and transmits the next ready frame, applying one-step PTP and transmit timestamps. -/
  | stationTx (port : Fin 2) (ago : Nat)
  /-- HSR_FORWARD (R331): An HSR-tagged frame is forwarded cut-through to the other port with transparent-clock correction. -/
  | hsrForward (port : Fin 2) (ago : Nat)
  /-- STATION_LINK_LOSS (R328): A station receiver without lock for over 1 ms latches source 32 or 33. -/
  | stationLinkLoss (port : Fin 2)
  /-- GOOSE_PUB_ENABLE (R337): Setting PUBu_CTRL.EN parses the template and starts the publication with stNum 1, or is refused. -/
  | goosePubEnable (m : Nat) (u : Fin 16) (v : Word)
  /-- GOOSE_PUB_DISABLE (R339): Clearing PUBu_CTRL.EN stops the publication's schedule. -/
  | goosePubDisable (m : Nat) (u : Fin 16) (v : Word)
  /-- GOOSE_STATE_CHANGE (R338): A write to PUBu_DATA that changes its value increments stNum, sends a frame and restarts the schedule. -/
  | gooseStateChange (m : Nat) (u : Fin 16) (v : Word)
  /-- GOOSE_RETRANSMIT (R338): At each scheduled interval the publication retransmits with sqNum incremented. -/
  | gooseRetransmit (u : Fin 16)
  /-- VIN_MEASURE (R346): Every 10 us VIN is measured and PWR.VMIN keeps the lowest value. -/
  | vinMeasure (mv : BitVec 13)
  /-- VMIN_CLEAR (R346): Writing 1 to PWR.VMIN.CLR sets MIN to the next measurement. -/
  | vminClear (m : Nat) (v : Word)
  /-- IVR_FAULT (R348): A regulator output outside ±5 % for over 10 us sets its FAULT bit and asserts source 51. -/
  | ivrFault (r : Fin 3)
  /-- DOM_WRITE (R349): A write to PWR.DOM.ON switches domains on or off, or is refused whole with DOM_REFUSED. -/
  | domWrite (m : Nat) (v : Word)
  /-- DOM_SWITCH_DONE (R350): A domain finishes switching on or off and DOM_DONE is set. -/
  | domSwitchDone (dom : Fin 10) (forced : Option (Fin 21))
  /-- REQ_RUN (R353): A safety master writes RUN to PWR.STATE.REQ, leaving SHED, STANDBY or HIBERNATE, or is refused. -/
  | reqRun (m : Nat) (v : Word)
  /-- REQ_SHED (R353): A safety master writes SHED to PWR.STATE.REQ to enter SHED, or is refused. -/
  | reqShed (m : Nat) (v : Word)
  /-- REQ_STANDBY (R357): A safety master writes STANDBY to PWR.STATE.REQ, bringing a power block and switching STBY_OFF domains. -/
  | reqStandby (m : Nat) (v : Word)
  /-- REQ_HIBERNATE (R357): A safety master writes HIBERNATE to PWR.STATE.REQ, bringing a power block and switching off all but SAFE, TIME and STATION. -/
  | reqHibernate (m : Nat) (v : Word)
  /-- POWER_ON_RESET (R362): VIN release begins a power-on reset of everything except OTP, sampling the straps. -/
  | powerOnReset (bootsrc : BitVec 2) (tandemId : Bool)
  /-- RESET_HOST (R368): A keyed RST.REQ with KIND HOST enters a host reset, optionally overriding the boot source. -/
  | resetHost (m : Nat) (v : Word)
  /-- RESET_SAFETY (R368): A keyed RST.REQ with KIND SAFETY from class S enters a safety reset. -/
  | resetSafety (m : Nat) (v : Word)
  /-- RESET_SERVICE (R365): A keyed RST.REQ with KIND SERVICE resets the service cores only. -/
  | resetService (m : Nat) (v : Word)
  /-- SVC_STATUS (R375): Service-port opcode 0x05 returns the status byte and clears ERR. -/
  | svcStatus (n : Nat)
  /-- SVC_READ (R375): Service-port opcode 0x0B reads 4-byte words from ADDR onwards. -/
  | svcRead (addr : Word) (n : Nat) (errs : List EccErr)
  /-- SVC_WRITE (R375): Service-port opcode 0x02 writes 4-byte words, in 64-bit units within staging RAM. -/
  | svcWrite (addr : Word) (words : List Word) (errs : List EccErr)
  /-- SVC_RESET (R375): Service-port opcode 0x99 with the key begins a host reset when SVC_CS_N rises. -/
  | svcReset (key1 key2 ovr : BitVec 8)
  /-- BOOT_STAGE_END (R378): A boot stage's end condition is met and the boot ROM proceeds to the next stage. -/
  | bootStageEnd (err : Fin 6) (dirA dirB image : List (BitVec 8))
  /-- SVCPORT_GO (R373): A write to SVCPORT.GO ends stage 4 for a staging-RAM boot. -/
  | svcportGo (m : Nat) (v : Word)
  /-- BOOT_LOAD (R380): A network boot LOAD frame writes its data into staging RAM. -/
  | bootLoad (port : Fin 2) (bytes : List (BitVec 8))
  /-- BOOT_GO (R380): A network boot GO frame ends stage 4 and the device answers with a REPORT. -/
  | bootGo (port : Fin 2) (bytes : List (BitVec 8))
  /-- OTP_RB_ADVANCE (R392): KEYS.OTP_CTRL.OP 1 burns bits of a rollback counter up to VALUE, or is refused. -/
  | otpRbAdvance (m : Nat) (v : Word)
  /-- OTP_OWNER (R393): KEYS.OTP_CTRL.OP 2 programs or revokes an owner key slot from a verified OWNER_KEY image. -/
  | otpOwner (m : Nat) (v : Word)
  /-- OTP_PATCH (R393): KEYS.OTP_CTRL.OP 3 programs or kills a ROM patch slot from a verified ROM_PATCH image. -/
  | otpPatch (m : Nat) (v : Word)
  /-- OTP_BIT_BURN (R383): One OTP bit is burnt and read back in 10 us, ending the operation with RESULT 3 if it fails. -/
  | otpBitBurn (ok : Bool)
  /-- V_START (R388): Writing 1 to KEYS.V_CTRL.START starts verification of the image at V_ADDR, or is refused. -/
  | vStart (m : Nat)
  /-- V_DONE (R389): A verification ends with its CODE, setting VALID and copying the header if every check passed. -/
  | vDone (bus : Bool)
  /-- V_COMMIT (R401): Writing 1 to KEYS.V_CTRL.COMMIT records the verified image's measurement. -/
  | vCommit (m : Nat)
  /-- V_PROFILE (R395): Writing 1 to KEYS.V_CTRL.PROFILE applies the verified safety profile in one SAFECLK cycle. -/
  | vProfile (m : Nat)
  /-- V_ABORT (R388): Writing 1 to KEYS.V_CTRL.ABORT ends a verification with CODE 9. -/
  | vAbort (m : Nat)
  /-- V_CLEAR (R390): Writing 1 to KEYS.V_CTRL.CLEAR clears VALID and TAMPER and ends the watch. -/
  | vClear (m : Nat)
  /-- PROT_SWAP (R404): Writing 1 to PROT.CTRL.SWAP restarts the protection pair on the verified firmware, or is refused. -/
  | protSwap (m : Nat)
  /-- ATTEST_START (R400): Writing 1 to KEYS.A_CTRL.START captures the report fields and starts signing, or is refused. -/
  | attestStart (m : Nat)
  /-- ATTEST_PUBKEY (R399): Writing 1 to KEYS.A_CTRL.PUBKEY writes the device identity public key to A_DST. -/
  | attestPubkey (m : Nat)
  /-- UPD_SET (R402): A write to SYS.UPD_SET starts or advances the update progress in SYS page 2's PG_PROG. -/
  | updSet (m : Nat) (v : Word)
  /-- BUS_READ (R41): A bus-master read of memory or a page receives its response; an error response latches its source and is captured under R43, and an ECC error is corrected, counted or reported. -/
  | busRead (m addr n : Nat) (errs : List EccErr)
  /-- STATION_LINK_CHANGE (R328): A station port receiver gains or loses block lock or synchronisation, or auto-negotiation completes, updating RXLOCK, ANEG_DONE, LINK and LINK_CHANGE. -/
  | stationLinkChange (port : Fin 2) (lock aneg : Bool)
  /-- TANDEM_LANE_LOCK_CHANGE (R249): Tandem lane TDM0 or TDM1 gains or loses block lock, updating L0_LOCK or L1_LOCK. -/
  | tandemLaneLockChange (lane : Fin 2) (lock : Bool)
  /-- IVR_FAULT_END (R348): A regulator output returns within ±5 %, its FAULT bit clears and the condition of source 51 ends, letting REPLACE_N return high. -/
  | ivrFaultEnd (r : Fin 3)
  /-- GPIO_INPUT_CHANGE (R44): A GPIO input changes level, pulsing or setting its interrupt source 151 to 182 as the pin is configured. -/
  | gpioInputChange (pin : Fin 32) (level pulse : Bool)
  /-- MISSING_EDGE (R63): No reference edge for 64 ns puts both loops in Freewheel with cause 1 and latches ROOT_LOSS. -/
  | missingEdge
  /-- SLEW_END (R68): The SLEW phase offset reaches 0, DETERM becomes 1 and SLEWING falls. -/
  | slewEnd
  /-- FMON_NOGATE (R78): A gate input silent for 1,024 BUSCLK cycles ends the measurement with NOGATE. -/
  | fmonNogate
  /-- DIST_BOUNDARY (R87): At each distribution boundary the device announces and applies addend changes and books the offset slew. -/
  | distBoundary
  /-- STEP_LANDING (R89): An accepted step lands, sets TIME_STEPPED, ends any slew, moves carrier periods and marks the next records RELOAD. -/
  | stepLanding
  /-- PERIOD_CHANGE (R90): A pending distribution period takes effect at the first common multiple at least 1 ms of timebase after the landing. -/
  | periodChange
  /-- WD_EXPIRE (R92): The servo watchdog expires, setting WD_EXP and latching source 36. -/
  | wdExpire
  /-- RIM_CYCLE (R127): At each 1,000 ns rim cycle the device ensures a frame on every enabled rim and sends calibration echoes and block pairs. -/
  | rimCycle
  /-- GENERATE (R159): After a commit, and after any earlier generation ends, the scheduler generates edges into the rim queues at 2 ns each. -/
  | generate
  /-- TRIGGER_FIRE (R172): A committed trigger compare fires at its count and delivers its action to its target. -/
  | triggerFire
  /-- REF_SETTLED (R183): 300 us after enable or a source change the reference is settled and page 0 READY becomes 1. -/
  | refSettled
  /-- LEARN_END (R248): Learning ends when every rim has held lock for 30 us or after 10 ms, setting role and claim. -/
  | learnEnd
  /-- HB_SILENT (R252): No valid heartbeat for 2,500 ns sets HB_SILENT and latches source 34. -/
  | hbSilent
  /-- TAKEOVER (R257): A TAKE_READY standby with silence or a resigning partner raises its claim under R245 and becomes TAKING. -/
  | takeover
  /-- TAKEOVER_COMPLETE (R257): When the empty frames have left every rim port, ROLE becomes ACTIVE, TAKEOVERS counts and source 61 latches. -/
  | takeoverComplete
  /-- RELINQUISH (R260): A STANDBY with no upstream frame of its claim for 1 ms sets its claim to 0. -/
  | relinquish
  /-- RESIGN_FAIL (R261): No higher claim within 100 us of a resign clears RESIGN, sets RESIGN_FAIL and latches source 61. -/
  | resignFail
  /-- MIRROR_CAPTURE (R265): At the first tick of a due run's quiet interval the active captures a mirror epoch, or skips and counts LAG. -/
  | mirrorCapture
  /-- MIRROR_STREAM_END (R266): The streaming of an epoch's MDATA records ends with the MEND record, or is abandoned on heartbeat silence. -/
  | mirrorStreamEnd
  /-- MIRROR_APPLY (R267): A standby begins applying a complete epoch in the quiet interval of its matching reference run, or discards it. -/
  | mirrorApply
  /-- MIRROR_APPLY_END (R267): An apply completes, setting EPOCH.APPLIED and MIRROR_APPLIED and clearing LAG. -/
  | mirrorApplyEnd
  /-- FAULT_RECOVERY (R280): A FAULT state quiet for FC.QUIET ends by recovery and counts RECOVERIES. -/
  | faultRecovery
  /-- LOCKSTEP_MISCOMPARE (R271): A cycle-by-cycle miscompare of the protection pair halts both cores and latches source 56. -/
  | lockstepMiscompare
  /-- ALIVE_TOGGLE (R285): Every HALF × 10 us ALIVE toggles while its conditions hold. -/
  | aliveToggle
  /-- KICK_EXPIRE (R287): The ALIVE kick window expires with KICK_EN set, stopping ALIVE and asserting source 63. -/
  | kickExpire
  /-- SHED_REQUEST_END (R356): FC.QUIET passes with no SHED-class source asserted and the SHED request ends, returning to RUN. -/
  | shedRequestEnd
  /-- THERM_JUDGE (R293): 2 us after sampling each sensor is judged and THERM.MAX updated with alarms and source 48. -/
  | thermJudge
  /-- SHUTDOWN_HIBERNATE (R295): 20 us after the shutdown latch entry to HIBERNATE begins and SHUTDOWN is set. -/
  | shutdownHibernate
  /-- ECC_WRITEBACK (R301): A corrected word is written back in the next free cycle of its bank unless a write lands first. -/
  | eccWriteback
  /-- XSPI_CMD_DONE (R308): A flash command ends with STAT.DONE and pulses source 132. -/
  | xspiCmdDone
  /-- XSPI_POLL_TIMEOUT (R308): Status polling beyond 4 s ends the command with STAT.TIMEOUT. -/
  | xspiPollTimeout
  /-- DMA_BURST (R313): The engine arbitrates and issues the next burst of a ready channel. -/
  | dmaBurst
  /-- DMA_WINDOW_END (R314): At the end of each bandwidth window each channel's floor is judged, setting FLOOR_MISS and source 54. -/
  | dmaWindowEnd
  /-- SV_ASDU (R333): A matched sampled-value ASDU is checked and written to the operand space and ring, or rejected. -/
  | svAsdu
  /-- GOOSE_MESSAGE (R336): A matched GOOSE message updates BITS, CHANGE and the deadline, or is rejected. -/
  | gooseMessage
  /-- RRA_REQUEST (R341): A remote register access request is checked for session, sequence, length and tag, then queued or dropped. -/
  | rraRequest
  /-- RRA_RESPONSE (R342): The response leaves within 5 us of the last item's bus response. -/
  | rraResponse
  /-- RED_SUPERVISION (R329): Every LIFE ms a PRP or HSR supervision frame is sent on both ports. -/
  | redSupervision
  /-- VIN_WARN (R346): VIN falls through 1.55 V and WARN becomes 1. -/
  | vinWarn
  /-- VIN_WARN_HELD (R346): WARN held for more than 20 us makes source 50 asserted. -/
  | vinWarnHeld
  /-- VIN_WARN_END (R346): VIN rises through 1.58 V and WARN falls. -/
  | vinWarnEnd
  /-- VIN_RESET_LEVEL (R346): VIN falls below 1.45 V and the device is in OFF. -/
  | vinResetLevel
  /-- VDDA_LOW (R347): VDDA falls below 2.90 V, setting VDDA_LOW and marking results RECOV. -/
  | vddaLow
  /-- VDDA_RECOVER (R347): VDDA rises above 2.95 V and a 300 us recovery interval begins. -/
  | vddaRecover
  /-- VDDA_RECOVERY_END (R347): 300 us after VDDA recovers, results stop carrying RECOV. -/
  | vddaRecoveryEnd
  /-- POWER_DOMAIN_SWITCH (R357): 20 us after a STANDBY or HIBERNATE entry the domains to be switched off begin to switch. -/
  | powerDomainSwitch
  /-- POWER_TRANSITION_DONE (R357): A power-state transition completes, CUR changes, BUSY falls and STATE_CHANGE is set. -/
  | powerTransitionDone
  /-- PIN_RESET (R367): A filtered low pulse on RESET_N enters a pin reset. -/
  | pinReset
  /-- RESET_RELEASE (R362): A reset's hold ends and the reset is released, recording its kinds and starting boot where required. -/
  | resetRelease
  /-- SVC_ID (R375): Service-port opcode 0x9F returns SVCPORT.ID0 to ID3. -/
  | svcId
  /-- STAGING_HANDOVER (R377): After SAFECLK starts, the staging RAM passes to SAFECLK at the next rising edge of SVC_CS_N. -/
  | stagingHandover
  /-- ATTEST_DONE (R401): The attestation signing ends with the report written, or RETRY after 32 rejected attempts. -/
  | attestDone
  /-- TF_LOST (R253): The latest time-follow offset becomes older than 1 ms, so TF_OK falls, TF_LOST is set and source 34 latches at a STANDBY. -/
  | tfLost
  /-- RESET_N_RISE (R367): RESET_N rises after an accepted pin reset and the 10 us remainder of the hold begins. -/
  | resetNRise
  deriving DecidableEq, Repr

end Sys2Proof
end

