-- ==== Sys2Proof/Machine/Bits.lean ====
section
/-!
DEFINITION. Sys2Proof/Machine/Bits.lean: bit fields of a number, saturating counts, signed readings, byte order,
and finite maps keyed by a number. Shared by every block.
-/
namespace Sys2Proof.Machine

/-- The `w` bits of `n` from bit `lo` upwards. -/
def bitsOf (n lo w : Nat) : Nat := n / 2 ^ lo % 2 ^ w

/-- `n` with the `w` bits from bit `lo` upwards replaced by the low `w` bits of `v`. -/
def putBits (n lo w v : Nat) : Nat :=
  n / 2 ^ (lo + w) * 2 ^ (lo + w) + (v % 2 ^ w) * 2 ^ lo + n % 2 ^ lo

/-- Bit `i` of `n` as a truth value. -/
def bitAt (n i : Nat) : Bool := n / 2 ^ i % 2 == 1

/-- `n` with bit `i` set. -/
def setBitAt (n i : Nat) : Nat := if bitAt n i then n else n + 2 ^ i

/-- `n` with bit `i` cleared. -/
def clearBitAt (n i : Nat) : Nat := if bitAt n i then n - 2 ^ i else n

/-- 1 for true, 0 for false. -/
def b2n (b : Bool) : Nat := if b then 1 else 0

/-- A count that stops at `max` (the manual's "saturating at"). -/
def satAdd (a b max : Nat) : Nat := if max ≤ a + b then max else a + b

/-- `v` brought within `lo` and `hi` ("values outside act as the nearer limit"). -/
def clampTo (lo hi v : Nat) : Nat := if v < lo then lo else if hi < v then hi else v

/-- The two's-complement reading of the low `w` bits of `n`. -/
def signedOf (w n : Nat) : Int :=
  let m := n % 2 ^ w
  if 2 ^ w ≤ 2 * m then (m : Int) - (2 ^ w : Nat) else (m : Int)

/-- The `w`-bit two's-complement form of `i`. -/
def unsignedOf (w : Nat) (i : Int) : Nat := (i % ((2 ^ w : Nat) : Int)).toNat

/-- The rising 0-to-1 bits from `old` to `new`, over `w` bits. -/
def risingBits (w old new : Nat) : List Nat :=
  (List.range w).filter fun i => bitAt new i && !bitAt old i

/-- `n` bytes of `v`, least significant first (R3, the device's address map). -/
def leBytes : Nat → Nat → List (BitVec 8)
  | 0, _ => []
  | n + 1, v => BitVec.ofNat 8 v :: leBytes n (v / 256)

/-- The number that bytes spell, least significant first. -/
def ofLeBytes : List (BitVec 8) → Nat
  | [] => 0
  | b :: t => b.toNat + 256 * ofLeBytes t

/-- The number that bytes spell, most significant first (R3, rim frames and Ethernet payloads). -/
def ofBeBytes (l : List (BitVec 8)) : Nat := l.foldl (fun a b => 256 * a + b.toNat) 0

/-- `n` bytes of `v`, most significant first. -/
def beBytes (n v : Nat) : List (BitVec 8) := (leBytes n v).reverse

/-- `n` bytes of a list from position `i`, as a number, most significant byte first. -/
def beAt (l : List (BitVec 8)) (i n : Nat) : Nat := ofBeBytes ((l.drop i).take n)

/-- `n` bytes of a list from position `i`, as a number, least significant byte first. -/
def leAt (l : List (BitVec 8)) (i n : Nat) : Nat := ofLeBytes ((l.drop i).take n)

/-- A finite map keyed by a number; a key that is not listed has the default value. -/
abbrev NMap (α : Type) := List (Nat × α)

/-- The value at a key. -/
def mget {α : Type} (dflt : α) : NMap α → Nat → α
  | [], _ => dflt
  | (q, v) :: t, k => if q = k then v else mget dflt t k

/-- The map with a key's value replaced. -/
def mset {α : Type} : NMap α → Nat → α → NMap α
  | [], k, v => [(k, v)]
  | (q, x) :: t, k, v => if q = k then (k, v) :: t else (q, x) :: mset t k v

/-- The map without a key. -/
def merase {α : Type} (m : NMap α) (k : Nat) : NMap α := m.filter fun e => e.1 ≠ k

/-- Whether a key is listed. -/
def mhas {α : Type} (m : NMap α) (k : Nat) : Bool := m.any fun e => e.1 == k

end Sys2Proof.Machine
end

