-- ==== Sys2Proof/Machine/Crc.lean ====
section
/-!
DEFINITION. Sys2Proof/Machine/Crc.lean: the CRC algorithms of R312, as an internal state that bytes advance.
-/
namespace Sys2Proof.Machine

/-- `n` bit steps of a reflected CRC. -/
def crcReflected (poly : Nat) : Nat → Nat → Nat
  | 0, c => c
  | n + 1, c => crcReflected poly n (if c % 2 = 1 then (c / 2) ^^^ poly else c / 2)

/-- `n` bit steps of the 16-bit CRC that is not reflected. -/
def crcPlain : Nat → Nat → Nat
  | 0, c => c
  | n + 1, c => crcPlain n (if 0x8000 ≤ c then (c * 2 % 0x10000) ^^^ 0x1021 else c * 2)

/-- The internal state after one byte, for the algorithms 1, 2 and 3 of R312. -/
def crcByte (alg c : Nat) (b : BitVec 8) : Nat :=
  match alg with
  | 1 => crcReflected 0x82F63B78 8 (c ^^^ b.toNat)
  | 2 => crcReflected 0xEDB88320 8 (c ^^^ b.toNat)
  | _ => crcPlain 8 ((c % 0x10000) ^^^ (b.toNat * 256))

/-- The internal state after bytes, in order. -/
def crcBytes (alg c : Nat) (l : List (BitVec 8)) : Nat := l.foldl (crcByte alg) c

/-- The final XOR of an algorithm. -/
def crcFinal (alg c : Nat) : Nat := if alg = 3 then c % 0x10000 else c ^^^ 0xFFFFFFFF

/-- CRC-32C of bytes, with the standard seed. -/
def crc32c (l : List (BitVec 8)) : Nat := crcFinal 1 (crcBytes 1 0xFFFFFFFF l)

end Sys2Proof.Machine
end

