-- ==== Sys2Proof/Config.lean ====
section
/-!
DEFINITION. Sys2Proof/Config.lean: what the manual leaves open, and the mathematics it names without giving.
Every constant here is opaque: it has no body, so no proof can see a value of it.
-/
namespace Sys2Proof.Config

/-- The n-th free value: a value the manual does not state, applied to the counter `Dev.freeCount`.
(DESIGN CHOICE, log 13.) -/
opaque freeValue : Nat → BitVec 64

/-- The code as which a field acts that holds a code its table reserves: for the register's address and the code held, a
number whose remainder picks one of the legal codes. (DESIGN CHOICE, log 7.) -/
opaque reservedCode : Nat → Nat → Nat

/-- SHA3-256 of a byte string (R384 and "Keys, attestation and live update"), as a 256-bit number, first byte
most significant. The manual names the function and does not repeat it. (UNVERIFIED, log 14.) -/
opaque sha3_256 : List (BitVec 8) → BitVec 256

/-- Whether a signature over a digest verifies under a public key (ML-DSA-65 and the other algorithms of R385).
(UNVERIFIED, log 14.) -/
opaque signatureOk : Nat → List (BitVec 8) → List (BitVec 8) → List (BitVec 8) → Bool

/-- The hedged ML-DSA-65 signature of the device identity key over a message, for a draw of its randomness (R400).
(UNVERIFIED, log 14; DESIGN CHOICE, log 157.) -/
opaque identitySign : List (BitVec 8) → Nat → List (BitVec 8)

/-- The public half of the device identity key (R399). (UNVERIFIED, log 14.) -/
opaque identityPublicKey : List (BitVec 8)

/-- Whether an attestation signing finishes within its 32 attempts (R401), for a message and a draw.
(UNVERIFIED, log 14; DESIGN CHOICE, log 157.) -/
opaque signingConverges : List (BitVec 8) → Nat → Bool

/-- The 44 bytes of a ROM patch slot in the OTP (R382), whose layout the manual does not give: for its ADDR, its words,
whether its CRC checks, and its USED and KILLED bits. (UNVERIFIED, log 14; DESIGN CHOICE, log 155.) -/
opaque patchSlotBytes : Nat → List Nat → Bool → Bool → Bool → List (BitVec 8)

/-- AES-256-GMAC tag of a byte string under a key and nonce (R341), as a 128-bit number. (UNVERIFIED, log 14.) -/
opaque gmac : BitVec 256 → BitVec 96 → List (BitVec 8) → BitVec 128

/-- The ECC syndrome captured for the error at an address (R303). (UNVERIFIED, log 14.) -/
opaque eccSyndrome : Nat → BitVec 8

/-- The ns that the mirror engine takes to read an epoch of a length from the loop engines' memories, which the manual does
not state (R265). (DESIGN CHOICE, log 70.) -/
opaque captureNs : Nat → Nat

/-- The bytes of the boot ROM, which the manual does not give. (DESIGN CHOICE, log 11.) -/
opaque romByte : Nat → BitVec 8

end Sys2Proof.Config
end

