-- ==== Sys2Proof/Machine/RegMap.lean ====
section
/-!
DEFINITION. Sys2Proof/Machine/RegMap.lean: the address map of the register pages (R24 to R27), from a register to its
address and back. Every offset is the one its register table gives.
-/
namespace Sys2Proof.Machine

/-- The base address of a page (R24 and each block's page rule). -/
def Page.base : Page → Nat
  | .SYS p => 0x40000000 + p * 0x1000
  | .CLK => 0x40010000
  | .PWR => 0x40020000
  | .RST => 0x40030000
  | .TIME p => 0x40040000 + p * 0x1000
  | .STATION p => 0x40050000 + p * 0x1000
  | .TANDEM p => 0x40060000 + p * 0x1000
  | .RIM n => 0x40080000 + n * 0x1000
  | .SPOKE n => 0x400a0000 + n * 0x1000
  | .EDGE p => 0x400c0000 + p * 0x1000
  | .ADC p => 0x400e0000 + p * 0x1000
  | .LOOP p => 0x40100000 + p * 0x1000
  | .DMA p => 0x40110000 + p * 0x1000
  | .IR p => 0x40120000 + p * 0x1000
  | .XSPI => 0x40130000
  | .SVCPORT => 0x40140000
  | .FC => 0x40180000
  | .THERM => 0x40190000
  | .SAFE => 0x401a0000
  | .KEYS p => 0x401b0000 + p * 0x1000
  | .PROT => 0x401c0000

/-- `PG_ID.TYPE` (R30). -/
def Page.typeCode : Page → Nat
  | .SYS _ => 1
  | .CLK => 2
  | .PWR => 3
  | .RST => 4
  | .TIME _ => 5
  | .STATION _ => 6
  | .TANDEM _ => 7
  | .RIM _ => 8
  | .SPOKE _ => 9
  | .EDGE _ => 0xa
  | .ADC _ => 0xb
  | .LOOP _ => 0xc
  | .DMA _ => 0xd
  | .IR _ => 0xe
  | .XSPI => 0xf
  | .SVCPORT => 0x10
  | .FC => 0x11
  | .THERM => 0x12
  | .SAFE => 0x13
  | .KEYS _ => 0x14
  | .PROT => 0x15

/-- `PG_ID.INST`: the rim number of RIM and SPOKE pages, otherwise 0. -/
def Page.inst : Page → Nat
  | .SYS _ => 0
  | .CLK => 0
  | .PWR => 0
  | .RST => 0
  | .TIME _ => 0
  | .STATION _ => 0
  | .TANDEM _ => 0
  | .RIM n => n
  | .SPOKE n => n
  | .EDGE _ => 0
  | .ADC _ => 0
  | .LOOP _ => 0
  | .DMA _ => 0
  | .IR _ => 0
  | .XSPI => 0
  | .SVCPORT => 0
  | .FC => 0
  | .THERM => 0
  | .SAFE => 0
  | .KEYS _ => 0
  | .PROT => 0

/-- `PG_ID.PAGE`: the page number within the instance. -/
def Page.number : Page → Nat
  | .SYS p => p
  | .CLK => 0
  | .PWR => 0
  | .RST => 0
  | .TIME p => p
  | .STATION p => p
  | .TANDEM p => p
  | .RIM _ => 0
  | .SPOKE _ => 0
  | .EDGE p => p
  | .ADC p => p
  | .LOOP p => p
  | .DMA p => p
  | .IR p => p
  | .XSPI => 0
  | .SVCPORT => 0
  | .FC => 0
  | .THERM => 0
  | .SAFE => 0
  | .KEYS p => p
  | .PROT => 0

/-- The page at a page-aligned base address, or none where R25 answers DECODE. -/
def Page.atAddr (a : Nat) : Option Page :=
  let q := a / 0x1000
  if 0x40000 ≤ q ∧ q < 0x40003 then some (.SYS (q - 0x40000))
  else if q = 0x40010 then some .CLK
  else if q = 0x40020 then some .PWR
  else if q = 0x40030 then some .RST
  else if 0x40040 ≤ q ∧ q < 0x40042 then some (.TIME (q - 0x40040))
  else if 0x40050 ≤ q ∧ q < 0x40060 then some (.STATION (q - 0x40050))
  else if 0x40060 ≤ q ∧ q < 0x40062 then some (.TANDEM (q - 0x40060))
  else if 0x40080 ≤ q ∧ q < 0x400a0 then some (.RIM (q - 0x40080))
  else if 0x400a0 ≤ q ∧ q < 0x400c0 then some (.SPOKE (q - 0x400a0))
  else if 0x400c0 ≤ q ∧ q < 0x400dd then some (.EDGE (q - 0x400c0))
  else if 0x400e0 ≤ q ∧ q < 0x400fa then some (.ADC (q - 0x400e0))
  else if (0x40100 ≤ q ∧ q < 0x40109) ∨ (0x4010c ≤ q ∧ q < 0x40110) then some (.LOOP (q - 0x40100))
  else if 0x40110 ≤ q ∧ q < 0x40115 then some (.DMA (q - 0x40110))
  else if 0x40120 ≤ q ∧ q < 0x40123 then some (.IR (q - 0x40120))
  else if q = 0x40130 then some .XSPI
  else if q = 0x40140 then some .SVCPORT
  else if q = 0x40180 then some .FC
  else if q = 0x40190 then some .THERM
  else if q = 0x401a0 then some .SAFE
  else if 0x401b0 ≤ q ∧ q < 0x401b3 then some (.KEYS (q - 0x401b0))
  else if q = 0x401c0 then some .PROT
  else none

/-- The page of a register. -/
def Reg.page : Reg → Page
  | .PG_ID p => p
  | .PG_VER p => p
  | .PG_CTRL p => p
  | .PG_STAT p => p
  | .PG_ERR p => p
  | .PG_ERRFORCE p => p
  | .PG_ERREN p => p
  | .PG_PROG p => p
  | .PG_KEY p => p
  | .PG_LOCK p => p
  | .CLK_OUT_CFG _ => .CLK
  | .TIME_ALARM_NS _ => .TIME 0
  | .TIME_ALARM_SEC_LO _ => .TIME 0
  | .TIME_ALARM_SEC_HI _ => .TIME 0
  | .TIME_ALARM_CTRL _ => .TIME 0
  | .TIME_PORT_CFG _ => .TIME 1
  | .TIME_PORT_TXLAT _ => .TIME 1
  | .TIME_PORT_RXLAT _ => .TIME 1
  | .TIME_PORT_ASYM _ => .TIME 1
  | .TIME_PORT_LINKDLY _ => .TIME 1
  | .TIME_PORT_TSQ_STAT _ => .TIME 1
  | .TIME_PORT_TSQ_W0 _ => .TIME 1
  | .TIME_PORT_TSQ_W1 _ => .TIME 1
  | .TIME_PORT_TSQ_W2 _ => .TIME 1
  | .TIME_PORT_TSQ_W3 _ => .TIME 1
  | .TIME_PORT_TC_CNT _ => .TIME 1
  | .STATION_PORT_CFG x => .STATION x
  | .STATION_PORT_STAT x => .STATION x
  | .STATION_PORT_MAC_LO x => .STATION x
  | .STATION_PORT_MAC_HI x => .STATION x
  | .STATION_PORT_FIFO x => .STATION x
  | .STATION_PORT_EVT x => .STATION x
  | .STATION_PORT_EVTEN x => .STATION x
  | .STATION_PORT_RXD0 x => .STATION x
  | .STATION_PORT_RXD1 x => .STATION x
  | .STATION_PORT_RXD2 x => .STATION x
  | .STATION_PORT_RXD3 x => .STATION x
  | .STATION_PORT_RXDATA x => .STATION x
  | .STATION_PORT_TXD0 x => .STATION x
  | .STATION_PORT_TXD1 x => .STATION x
  | .STATION_PORT_TXD2 x => .STATION x
  | .STATION_PORT_TXDATA x => .STATION x
  | .STATION_PORT_CNT0 x => .STATION x
  | .STATION_PORT_CNT1 x => .STATION x
  | .STATION_SUB_CFG s => .STATION (4 + s / 4)
  | .STATION_SUB_MAC_LO s => .STATION (4 + s / 4)
  | .STATION_SUB_MAC_HI s => .STATION (4 + s / 4)
  | .STATION_SUB_IDCRC s => .STATION (4 + s / 4)
  | .STATION_SUB_CONFREV s => .STATION (4 + s / 4)
  | .STATION_SUB_CSCALE s => .STATION (4 + s / 4)
  | .STATION_SUB_VSCALE s => .STATION (4 + s / 4)
  | .STATION_SUB_TIMING s => .STATION (4 + s / 4)
  | .STATION_SUB_STAT s => .STATION (4 + s / 4)
  | .STATION_SUB_LOST s => .STATION (4 + s / 4)
  | .STATION_SUB_RING s _ => .STATION (4 + s / 4)
  | .STATION_GSUB_CFG _ => .STATION 12
  | .STATION_GSUB_MAC_LO _ => .STATION 12
  | .STATION_GSUB_MAC_HI _ => .STATION 12
  | .STATION_GSUB_REFCRC _ => .STATION 12
  | .STATION_GSUB_CONFREV _ => .STATION 12
  | .STATION_GSUB_DEFAULT _ => .STATION 12
  | .STATION_GSUB_BITS _ => .STATION 12
  | .STATION_GSUB_STAT _ => .STATION 12
  | .STATION_PUB_CTRL u => .STATION (13 + u / 8)
  | .STATION_PUB_TIMING u => .STATION (13 + u / 8)
  | .STATION_PUB_DATA u => .STATION (13 + u / 8)
  | .STATION_PUB_STNUM u => .STATION (13 + u / 8)
  | .STATION_PUB_SQNUM u => .STATION (13 + u / 8)
  | .STATION_PUB_TPL u _ => .STATION (13 + u / 8)
  | .STATION_SES_CTRL _ => .STATION 15
  | .STATION_SES_PEER_LO _ => .STATION 15
  | .STATION_SES_PEER_HI _ => .STATION 15
  | .STATION_SES_SALT _ => .STATION 15
  | .STATION_SES_WBASE _ => .STATION 15
  | .STATION_SES_WSIZE _ => .STATION 15
  | .STATION_SES_SEQ_LO _ => .STATION 15
  | .STATION_SES_SEQ_HI _ => .STATION 15
  | .STATION_SES_STAT _ => .STATION 15
  | .STATION_SES_KEY _ _ => .STATION 15
  | .TANDEM_TRANS _ => .TANDEM 1
  | .RIM_CTRL n => .RIM n
  | .RIM_STAT n => .RIM n
  | .RIM_LATENCY n => .RIM n
  | .RIM_TCFG n => .RIM n
  | .RIM_PEER_CLAIM_LO n => .RIM n
  | .RIM_PEER_CLAIM_HI n => .RIM n
  | .RIM_CNT n => .RIM n
  | .RIM_EVT n => .RIM n
  | .RIM_FW_SRC n => .RIM n
  | .RIM_FW_LEN n => .RIM n
  | .RIM_FW_CTRL n => .RIM n
  | .RIM_FW_STAT n => .RIM n
  | .RIM_XCFG n => .RIM n
  | .RIM_EVTEN n => .RIM n
  | .RIM_FW_DIGEST n _ => .RIM n
  | .SPOKE_STATE k => .SPOKE (k / 8)
  | .SPOKE_CTRL k => .SPOKE (k / 8)
  | .SPOKE_UID_LO k => .SPOKE (k / 8)
  | .SPOKE_UID_HI k => .SPOKE (k / 8)
  | .SPOKE_TYPE k => .SPOKE (k / 8)
  | .SPOKE_SAFE_STATE k => .SPOKE (k / 8)
  | .SPOKE_WDOG k => .SPOKE (k / 8)
  | .SPOKE_DLY k => .SPOKE (k / 8)
  | .SPOKE_HOPDLY k => .SPOKE (k / 8)
  | .SPOKE_CLAIM_LO k => .SPOKE (k / 8)
  | .SPOKE_CLAIM_HI k => .SPOKE (k / 8)
  | .SPOKE_FAULT k => .SPOKE (k / 8)
  | .SPOKE_FWVER k => .SPOKE (k / 8)
  | .SPOKE_NSTAT k => .SPOKE (k / 8)
  | .SPOKE_XUID_LO k => .SPOKE (k / 8)
  | .SPOKE_XUID_HI k => .SPOKE (k / 8)
  | .SPOKE_XTYPE k => .SPOKE (k / 8)
  | .SPOKE_ASYM k => .SPOKE (k / 8)
  | .SPOKE_PAR k _ => .SPOKE (k / 8)
  | .EDGE_DTP_A _ => .EDGE 0
  | .EDGE_DTP_B _ => .EDGE 0
  | .EDGE_CAR_PERIOD c => .EDGE (1 + c / 32)
  | .EDGE_CAR_CTRL c => .EDGE (1 + c / 32)
  | .EDGE_CAR_START_NS c => .EDGE (1 + c / 32)
  | .EDGE_CAR_START_SEC c => .EDGE (1 + c / 32)
  | .EDGE_CAR_XFER c => .EDGE (1 + c / 32)
  | .EDGE_CAR_STAT c => .EDGE (1 + c / 32)
  | .EDGE_CAR_PSTART_NS c => .EDGE (1 + c / 32)
  | .EDGE_CAR_PSTART_SEC c => .EDGE (1 + c / 32)
  | .EDGE_TRG_CMP t => .EDGE (3 + t / 128)
  | .EDGE_LEG_DUTY l => .EDGE (7 + l / 48)
  | .EDGE_LEG_OFFSET l => .EDGE (7 + l / 48)
  | .EDGE_LEG_DT l => .EDGE (7 + l / 48)
  | .EDGE_LEG_MINP l => .EDGE (7 + l / 48)
  | .EDGE_LEG_CTRL l => .EDGE (7 + l / 48)
  | .EDGE_LEG_DTLIM l => .EDGE (7 + l / 48)
  | .EDGE_LEG_ADT l => .EDGE (7 + l / 48)
  | .EDGE_LEG_DSTAT l => .EDGE (7 + l / 48)
  | .EDGE_LEG_PSTAT l => .EDGE (7 + l / 48)
  | .EDGE_LEG_CARRY l => .EDGE (7 + l / 48)
  | .EDGE_LEG_ESEQ l => .EDGE (7 + l / 48)
  | .ADC_CTRL c => .ADC (1 + c)
  | .ADC_SEL c => .ADC (1 + c)
  | .ADC_QSTAT c => .ADC (1 + c)
  | .ADC_INJ c => .ADC (1 + c)
  | .ADC_INJRES c => .ADC (1 + c)
  | .ADC_INJTS c => .ADC (1 + c)
  | .ADC_FMT c => .ADC (1 + c)
  | .ADC_RES c => .ADC (1 + c)
  | .ADC_FSTAT c => .ADC (1 + c)
  | .ADC_CAL c => .ADC (1 + c)
  | .ADC_STAT c => .ADC (1 + c)
  | .ADC_EVT c => .ADC (1 + c)
  | .ADC_XCFG c => .ADC (1 + c)
  | .ADC_CALVAL c => .ADC (1 + c)
  | .ADC_EVTEN c => .ADC (1 + c)
  | .ADC_PAIR_TOL p => .ADC (17 + p)
  | .ADC_DAC p => .ADC (17 + p)
  | .ADC_DIAG_CFG p => .ADC (17 + p)
  | .ADC_PEVT p => .ADC (17 + p)
  | .ADC_DIAG_LO p => .ADC (17 + p)
  | .ADC_DIAG_HI p => .ADC (17 + p)
  | .ADC_PSTAT p => .ADC (17 + p)
  | .ADC_PEVTEN p => .ADC (17 + p)
  | .ADC_CHRES _ => .ADC 25
  | .ADC_CHTS _ => .ADC 25
  | .LOOP_CTRL e => .LOOP e
  | .LOOP_STAT e => .LOOP e
  | .LOOP_DEADLINE e => .LOOP e
  | .LOOP_CNT e => .LOOP e
  | .LOOP_MISSINFO e => .LOOP e
  | .LOOP_NANINFO e => .LOOP e
  | .LOOP_EVT e => .LOOP e
  | .LOOP_TRACE_CFG e => .LOOP e
  | .LOOP_TRACE_TRIG e => .LOOP e
  | .LOOP_TRACE_LEVEL e => .LOOP e
  | .LOOP_TRACE_CTRL e => .LOOP e
  | .LOOP_TRACE_STAT e => .LOOP e
  | .LOOP_XCFG e => .LOOP e
  | .LOOP_RUNTIME e => .LOOP e
  | .LOOP_RUNMAX e => .LOOP e
  | .LOOP_EVTEN e => .LOOP e
  | .LOOP_TRACE_NODE e _ => .LOOP e
  | .LOOP_GRP_CFG _ => .LOOP 8
  | .LOOP_CONST _ => .LOOP 8
  | .LOOP_SET j => .LOOP (12 + j / 128)
  | .DMA_CH_CTRL h => .DMA (1 + h / 8)
  | .DMA_CH_DESC h => .DMA (1 + h / 8)
  | .DMA_CH_BW h => .DMA (1 + h / 8)
  | .DMA_CH_STAT h => .DMA (1 + h / 8)
  | .DMA_CH_CUR h => .DMA (1 + h / 8)
  | .DMA_CH_CNT h => .DMA (1 + h / 8)
  | .DMA_CH_EVT h => .DMA (1 + h / 8)
  | .DMA_CH_EVTEN h => .DMA (1 + h / 8)
  | .DMA_CH_HOPLIM h => .DMA (1 + h / 8)
  | .IR_SRC_ROUTE s => .IR (1 + s / 128)
  | .IR_PEND _ => .IR 0
  | .IR_TGT_THRESH _ => .IR 0
  | .IR_TGT_CLAIM _ => .IR 0
  | .FC_CLASS _ => .FC
  | .THERM_TS _ => .THERM
  | .KEYS_DIK_HASH _ => .KEYS 0
  | .KEYS_V_PDIG _ => .KEYS 1
  | .KEYS_V_HDIG _ => .KEYS 1
  | .KEYS_A_NONCE _ => .KEYS 2
  | .KEYS_MEAS_VER _ => .KEYS 2
  | .KEYS_MEAS_INFO _ => .KEYS 2
  | .KEYS_MEAS_DIG _ _ => .KEYS 2
  | .SYS_BERR_ADDR => .SYS 0
  | .SYS_BERR_INFO => .SYS 0
  | .SYS_TFORCE_LO => .SYS 0
  | .SYS_TFORCE_HI => .SYS 0
  | .SYS_THROTTLE_REQ => .SYS 0
  | .SYS_SVCFLT => .SYS 0
  | .SYS_SCRUB_CFG => .SYS 1
  | .SYS_SCRUB_STAT => .SYS 1
  | .SYS_ECC_CNT => .SYS 1
  | .SYS_ECC_RATE => .SYS 1
  | .SYS_ECC_ADDR => .SYS 1
  | .SYS_ECC_INFO => .SYS 1
  | .SYS_UPD_SET => .SYS 2
  | .CLK_ROOT => .CLK
  | .CLK_ROOTSTAT => .CLK
  | .CLK_PLLM_CFG => .CLK
  | .CLK_PLLM_STAT => .CLK
  | .CLK_PLLS_CFG => .CLK
  | .CLK_PLLS_STAT => .CLK
  | .CLK_PLL_XCFG => .CLK
  | .CLK_PHASE_POLICY => .CLK
  | .CLK_PHASE_ERR => .CLK
  | .CLK_PHASE_OFS => .CLK
  | .CLK_DOMSEL => .CLK
  | .CLK_GATE => .CLK
  | .CLK_GATE_STAT => .CLK
  | .CLK_FMON_CFG => .CLK
  | .CLK_FMON_RES => .CLK
  | .CLK_FMON_LO => .CLK
  | .CLK_FMON_HI => .CLK
  | .CLK_EVT => .CLK
  | .CLK_EVTEN => .CLK
  | .PWR_STATE => .PWR
  | .PWR_DOM_STAT => .PWR
  | .PWR_STBY_OFF => .PWR
  | .PWR_VMON => .PWR
  | .PWR_VMON_CNT => .PWR
  | .PWR_VMIN => .PWR
  | .PWR_IVR => .PWR
  | .PWR_DOM => .PWR
  | .PWR_EVT => .PWR
  | .PWR_EVTEN => .PWR
  | .RST_CAUSE => .RST
  | .RST_REQ => .RST
  | .RST_STRAP => .RST
  | .RST_SVC_ENTRY => .RST
  | .RST_RELEASE => .RST
  | .RST_COUNT => .RST
  | .TIME_NOW_NS => .TIME 0
  | .TIME_NOW_SUB => .TIME 0
  | .TIME_NOW_SEC_LO => .TIME 0
  | .TIME_NOW_SEC_HI => .TIME 0
  | .TIME_ADDEND => .TIME 0
  | .TIME_ADDEND_EFF => .TIME 0
  | .TIME_ADJ_NS => .TIME 0
  | .TIME_ADJ_CFG => .TIME 0
  | .TIME_ADJ_REMAIN => .TIME 0
  | .TIME_STEP => .TIME 0
  | .TIME_SET_NS => .TIME 0
  | .TIME_SET_SEC_LO => .TIME 0
  | .TIME_SET_SEC_HI => .TIME 0
  | .TIME_DIST => .TIME 0
  | .TIME_STAT => .TIME 0
  | .TIME_CLKSTEP => .TIME 0
  | .TIME_WD_CFG => .TIME 0
  | .TIME_WD_KICK => .TIME 0
  | .STATION_RED_CFG => .STATION 2
  | .STATION_RED_SEQ => .STATION 2
  | .STATION_RED_CNT0 => .STATION 2
  | .STATION_RED_CNT1 => .STATION 2
  | .STATION_SV_EVT => .STATION 3
  | .STATION_SV_EVTEN => .STATION 3
  | .STATION_SV_TEVT => .STATION 3
  | .STATION_SV_TEVTEN => .STATION 3
  | .STATION_SV_LIVE => .STATION 3
  | .STATION_GOOSE_EVT => .STATION 12
  | .STATION_GOOSE_EVTEN => .STATION 12
  | .STATION_GOOSE_TQ => .STATION 12
  | .STATION_RRA_CFG => .STATION 15
  | .STATION_RRA_EVT => .STATION 15
  | .STATION_RRA_EVTEN => .STATION 15
  | .STATION_RRA_CNT => .STATION 15
  | .TANDEM_LINK => .TANDEM 0
  | .TANDEM_CFG => .TANDEM 0
  | .TANDEM_STAT => .TANDEM 0
  | .TANDEM_SILENT => .TANDEM 0
  | .TANDEM_TAKEBOUND => .TANDEM 0
  | .TANDEM_TKINFO_NS => .TANDEM 0
  | .TANDEM_TKINFO_SEC => .TANDEM 0
  | .TANDEM_TKINFO => .TANDEM 0
  | .TANDEM_MIRROR_LIST => .TANDEM 0
  | .TANDEM_MLIST_CNT => .TANDEM 0
  | .TANDEM_MCFG => .TANDEM 0
  | .TANDEM_MCTRL => .TANDEM 0
  | .TANDEM_MBUF => .TANDEM 0
  | .TANDEM_MBUF_SIZE => .TANDEM 0
  | .TANDEM_EPOCH => .TANDEM 0
  | .TANDEM_MSTAT => .TANDEM 0
  | .TANDEM_MCNT => .TANDEM 0
  | .TANDEM_EVT => .TANDEM 0
  | .TANDEM_EVTEN => .TANDEM 0
  | .TANDEM_LINKDLY => .TANDEM 0
  | .TANDEM_TASYM => .TANDEM 0
  | .TANDEM_TFERR => .TANDEM 0
  | .EDGE_LEAD => .EDGE 0
  | .EDGE_STAT => .EDGE 0
  | .EDGE_EVT => .EDGE 0
  | .EDGE_LATECNT => .EDGE 0
  | .EDGE_LATEINFO => .EDGE 0
  | .EDGE_LOAD => .EDGE 0
  | .EDGE_BLKMASK => .EDGE 0
  | .EDGE_EVTEN => .EDGE 0
  | .ADC_REF => .ADC 0
  | .ADC_GRPINJ => .ADC 0
  | .LOOP_SWAP => .LOOP 8
  | .DMA_CFG => .DMA 0
  | .DMA_ERRSUM => .DMA 0
  | .IR_SWI => .IR 0
  | .IR_ERRNEXT => .IR 0
  | .XSPI_CFG => .XSPI
  | .XSPI_CMD => .XSPI
  | .XSPI_ADDR => .XSPI
  | .XSPI_LEN => .XSPI
  | .XSPI_DATA => .XSPI
  | .XSPI_STAT => .XSPI
  | .XSPI_BANKA => .XSPI
  | .XSPI_BANKB => .XSPI
  | .XSPI_BANKSEL => .XSPI
  | .SVCPORT_ID0 => .SVCPORT
  | .SVCPORT_ID1 => .SVCPORT
  | .SVCPORT_ID2 => .SVCPORT
  | .SVCPORT_ID3 => .SVCPORT
  | .SVCPORT_BOOT => .SVCPORT
  | .SVCPORT_GO => .SVCPORT
  | .SVCPORT_CAUSE => .SVCPORT
  | .SVCPORT_STRAP => .SVCPORT
  | .SVCPORT_ROOTSTAT => .SVCPORT
  | .SVCPORT_LAST_LO => .SVCPORT
  | .SVCPORT_LAST_HI => .SVCPORT
  | .FC_SCORE_LO => .FC
  | .FC_SCORE_HI => .FC
  | .FC_HELD_LO => .FC
  | .FC_HELD_HI => .FC
  | .FC_LIVE_LO => .FC
  | .FC_LIVE_HI => .FC
  | .FC_FORCE_LO => .FC
  | .FC_FORCE_HI => .FC
  | .FC_QUIET => .FC
  | .FC_RECOVERIES => .FC
  | .FC_RECOV_CFG => .FC
  | .FC_STATE => .FC
  | .FC_CTRL => .FC
  | .FC_CFG => .FC
  | .FC_STAT => .FC
  | .FC_LAST_LO => .FC
  | .FC_LAST_HI => .FC
  | .FC_FIRST => .FC
  | .FC_FIRST_NS => .FC
  | .THERM_MAX => .THERM
  | .THERM_VALID => .THERM
  | .THERM_ALARM => .THERM
  | .THERM_THROTTLE => .THERM
  | .THERM_STAT => .THERM
  | .THERM_EVT => .THERM
  | .THERM_EVTEN => .THERM
  | .SAFE_CLAIM_LO => .SAFE
  | .SAFE_CLAIM_HI => .SAFE
  | .SAFE_CLAIM_CTRL => .SAFE
  | .SAFE_CLAIM_STAT => .SAFE
  | .SAFE_SEEN_LO => .SAFE
  | .SAFE_SEEN_HI => .SAFE
  | .SAFE_ALIVE => .SAFE
  | .SAFE_ALIVE_HALF => .SAFE
  | .SAFE_TRIP => .SAFE
  | .SAFE_TRIP_CFG => .SAFE
  | .SAFE_TRIP_STAT => .SAFE
  | .SAFE_BLOCK => .SAFE
  | .SAFE_ALIVE_KICK => .SAFE
  | .SAFE_BLOCK_CFG => .SAFE
  | .SAFE_BLOCK_STAT => .SAFE
  | .KEYS_OWNER => .KEYS 0
  | .KEYS_RB_LO => .KEYS 0
  | .KEYS_RB_HI => .KEYS 0
  | .KEYS_PATCH => .KEYS 0
  | .KEYS_PATCH_STAT => .KEYS 0
  | .KEYS_OTP_CTRL => .KEYS 0
  | .KEYS_OTP_STAT => .KEYS 0
  | .KEYS_V_ADDR => .KEYS 1
  | .KEYS_V_LEN => .KEYS 1
  | .KEYS_V_CTRL => .KEYS 1
  | .KEYS_V_STAT => .KEYS 1
  | .KEYS_V_INFO => .KEYS 1
  | .KEYS_V_VER => .KEYS 1
  | .KEYS_V_LOAD => .KEYS 1
  | .KEYS_V_ARG => .KEYS 1
  | .KEYS_V_PLEN => .KEYS 1
  | .KEYS_A_DST => .KEYS 2
  | .KEYS_A_CTRL => .KEYS 2
  | .KEYS_A_STAT => .KEYS 2
  | .PROT_STAT => .PROT
  | .PROT_CTRL => .PROT

/-- The offset of a register within its page. -/
def Reg.off : Reg → Nat
  | .PG_ID _ => 0
  | .PG_VER _ => 4
  | .PG_CTRL _ => 8
  | .PG_STAT _ => 0xc
  | .PG_ERR _ => 0x10
  | .PG_ERRFORCE _ => 0x14
  | .PG_ERREN _ => 0x18
  | .PG_PROG _ => 0x1c
  | .PG_KEY _ => 0x20
  | .PG_LOCK _ => 0x24
  | .CLK_OUT_CFG n => 0x60 + 4 * n
  | .TIME_ALARM_NS n => 0xa0 + 0x10 * n
  | .TIME_ALARM_SEC_LO n => 0xa4 + 0x10 * n
  | .TIME_ALARM_SEC_HI n => 0xa8 + 0x10 * n
  | .TIME_ALARM_CTRL n => 0xac + 0x10 * n
  | .TIME_PORT_CFG x => 0x40 + 0x40 * x
  | .TIME_PORT_TXLAT x => 0x44 + 0x40 * x
  | .TIME_PORT_RXLAT x => 0x48 + 0x40 * x
  | .TIME_PORT_ASYM x => 0x4c + 0x40 * x
  | .TIME_PORT_LINKDLY x => 0x50 + 0x40 * x
  | .TIME_PORT_TSQ_STAT x => 0x54 + 0x40 * x
  | .TIME_PORT_TSQ_W0 x => 0x58 + 0x40 * x
  | .TIME_PORT_TSQ_W1 x => 0x5c + 0x40 * x
  | .TIME_PORT_TSQ_W2 x => 0x60 + 0x40 * x
  | .TIME_PORT_TSQ_W3 x => 0x64 + 0x40 * x
  | .TIME_PORT_TC_CNT x => 0x68 + 0x40 * x
  | .STATION_PORT_CFG _ => 0x40
  | .STATION_PORT_STAT _ => 0x44
  | .STATION_PORT_MAC_LO _ => 0x48
  | .STATION_PORT_MAC_HI _ => 0x4c
  | .STATION_PORT_FIFO _ => 0x58
  | .STATION_PORT_EVT _ => 0x50
  | .STATION_PORT_EVTEN _ => 0x54
  | .STATION_PORT_RXD0 _ => 0x60
  | .STATION_PORT_RXD1 _ => 0x64
  | .STATION_PORT_RXD2 _ => 0x68
  | .STATION_PORT_RXD3 _ => 0x6c
  | .STATION_PORT_RXDATA _ => 0x70
  | .STATION_PORT_TXD0 _ => 0x80
  | .STATION_PORT_TXD1 _ => 0x84
  | .STATION_PORT_TXD2 _ => 0x88
  | .STATION_PORT_TXDATA _ => 0x90
  | .STATION_PORT_CNT0 _ => 0xa0
  | .STATION_PORT_CNT1 _ => 0xa4
  | .STATION_SUB_CFG s => 0x40 + 0x40 * (s % 4)
  | .STATION_SUB_MAC_LO s => 0x44 + 0x40 * (s % 4)
  | .STATION_SUB_MAC_HI s => 0x48 + 0x40 * (s % 4)
  | .STATION_SUB_IDCRC s => 0x4c + 0x40 * (s % 4)
  | .STATION_SUB_CONFREV s => 0x50 + 0x40 * (s % 4)
  | .STATION_SUB_CSCALE s => 0x54 + 0x40 * (s % 4)
  | .STATION_SUB_VSCALE s => 0x58 + 0x40 * (s % 4)
  | .STATION_SUB_TIMING s => 0x5c + 0x40 * (s % 4)
  | .STATION_SUB_STAT s => 0x60 + 0x40 * (s % 4)
  | .STATION_SUB_LOST s => 0x64 + 0x40 * (s % 4)
  | .STATION_SUB_RING s w => 0x800 + 0x200 * (s % 4) + 4 * w
  | .STATION_GSUB_CFG g => 0x40 + 0x20 * g
  | .STATION_GSUB_MAC_LO g => 0x44 + 0x20 * g
  | .STATION_GSUB_MAC_HI g => 0x48 + 0x20 * g
  | .STATION_GSUB_REFCRC g => 0x4c + 0x20 * g
  | .STATION_GSUB_CONFREV g => 0x50 + 0x20 * g
  | .STATION_GSUB_DEFAULT g => 0x54 + 0x20 * g
  | .STATION_GSUB_BITS g => 0x58 + 0x20 * g
  | .STATION_GSUB_STAT g => 0x5c + 0x20 * g
  | .STATION_PUB_CTRL u => 0x40 + 0x20 * (u % 8)
  | .STATION_PUB_TIMING u => 0x44 + 0x20 * (u % 8)
  | .STATION_PUB_DATA u => 0x48 + 0x20 * (u % 8)
  | .STATION_PUB_STNUM u => 0x4c + 0x20 * (u % 8)
  | .STATION_PUB_SQNUM u => 0x50 + 0x20 * (u % 8)
  | .STATION_PUB_TPL u w => 0x400 + 0x180 * (u % 8) + 4 * w
  | .STATION_SES_CTRL j => 0x80 + 0x60 * j
  | .STATION_SES_PEER_LO j => 0x84 + 0x60 * j
  | .STATION_SES_PEER_HI j => 0x88 + 0x60 * j
  | .STATION_SES_SALT j => 0x8c + 0x60 * j
  | .STATION_SES_WBASE j => 0x90 + 0x60 * j
  | .STATION_SES_WSIZE j => 0x94 + 0x60 * j
  | .STATION_SES_SEQ_LO j => 0x98 + 0x60 * j
  | .STATION_SES_SEQ_HI j => 0x9c + 0x60 * j
  | .STATION_SES_STAT j => 0xa0 + 0x60 * j
  | .STATION_SES_KEY j i => 0xC0 + 0x60 * j + 4 * i
  | .TANDEM_TRANS n => 0x40 + 4 * n
  | .RIM_CTRL _ => 0x40
  | .RIM_STAT _ => 0x44
  | .RIM_LATENCY _ => 0x48
  | .RIM_TCFG _ => 0x4c
  | .RIM_PEER_CLAIM_LO _ => 0x50
  | .RIM_PEER_CLAIM_HI _ => 0x54
  | .RIM_CNT _ => 0x58
  | .RIM_EVT _ => 0x60
  | .RIM_FW_SRC _ => 0x70
  | .RIM_FW_LEN _ => 0x74
  | .RIM_FW_CTRL _ => 0x78
  | .RIM_FW_STAT _ => 0x7c
  | .RIM_XCFG _ => 0x400
  | .RIM_EVTEN _ => 0x64
  | .RIM_FW_DIGEST _ i => 0x80 + 4 * i
  | .SPOKE_STATE k => 0x40 + 0x70 * (k % 8)
  | .SPOKE_CTRL k => 0x44 + 0x70 * (k % 8)
  | .SPOKE_UID_LO k => 0x48 + 0x70 * (k % 8)
  | .SPOKE_UID_HI k => 0x4c + 0x70 * (k % 8)
  | .SPOKE_TYPE k => 0x50 + 0x70 * (k % 8)
  | .SPOKE_SAFE_STATE k => 0x54 + 0x70 * (k % 8)
  | .SPOKE_WDOG k => 0x58 + 0x70 * (k % 8)
  | .SPOKE_DLY k => 0x5c + 0x70 * (k % 8)
  | .SPOKE_HOPDLY k => 0x60 + 0x70 * (k % 8)
  | .SPOKE_CLAIM_LO k => 0x64 + 0x70 * (k % 8)
  | .SPOKE_CLAIM_HI k => 0x68 + 0x70 * (k % 8)
  | .SPOKE_FAULT k => 0x6c + 0x70 * (k % 8)
  | .SPOKE_FWVER k => 0x70 + 0x70 * (k % 8)
  | .SPOKE_NSTAT k => 0x74 + 0x70 * (k % 8)
  | .SPOKE_XUID_LO k => 0x400 + 0x90 * (k % 8)
  | .SPOKE_XUID_HI k => 0x404 + 0x90 * (k % 8)
  | .SPOKE_XTYPE k => 0x408 + 0x90 * (k % 8)
  | .SPOKE_ASYM k => 0x40c + 0x90 * (k % 8)
  | .SPOKE_PAR k i => 0x410 + 0x90 * (k % 8) + 4 * i
  | .EDGE_DTP_A q => 0x400 + 8 * q
  | .EDGE_DTP_B q => 0x404 + 8 * q
  | .EDGE_CAR_PERIOD c => 0x40 + 4 * (c % 32)
  | .EDGE_CAR_CTRL c => 0xc0 + 4 * (c % 32)
  | .EDGE_CAR_START_NS c => 0x140 + 4 * (c % 32)
  | .EDGE_CAR_START_SEC c => 0x1c0 + 4 * (c % 32)
  | .EDGE_CAR_XFER c => 0x240 + 4 * (c % 32)
  | .EDGE_CAR_STAT c => 0x2c0 + 4 * (c % 32)
  | .EDGE_CAR_PSTART_NS c => 0x340 + 4 * (c % 32)
  | .EDGE_CAR_PSTART_SEC c => 0x400 + 4 * (c % 32)
  | .EDGE_TRG_CMP t => 0x40 + 4 * (t % 128)
  | .EDGE_LEG_DUTY l => 0x40 + 4 * (l % 48)
  | .EDGE_LEG_OFFSET l => 0x100 + 4 * (l % 48)
  | .EDGE_LEG_DT l => 0x1c0 + 4 * (l % 48)
  | .EDGE_LEG_MINP l => 0x280 + 4 * (l % 48)
  | .EDGE_LEG_CTRL l => 0x340 + 4 * (l % 48)
  | .EDGE_LEG_DTLIM l => 0x400 + 4 * (l % 48)
  | .EDGE_LEG_ADT l => 0x4c0 + 4 * (l % 48)
  | .EDGE_LEG_DSTAT l => 0x580 + 4 * (l % 48)
  | .EDGE_LEG_PSTAT l => 0x640 + 4 * (l % 48)
  | .EDGE_LEG_CARRY l => 0x700 + 4 * (l % 48)
  | .EDGE_LEG_ESEQ l => 0x7c0 + 4 * (l % 48)
  | .ADC_CTRL _ => 0x40
  | .ADC_SEL _ => 0x44
  | .ADC_QSTAT _ => 0x48
  | .ADC_INJ _ => 0x4c
  | .ADC_INJRES _ => 0x50
  | .ADC_INJTS _ => 0x54
  | .ADC_FMT _ => 0x58
  | .ADC_RES _ => 0x5c
  | .ADC_FSTAT _ => 0x60
  | .ADC_CAL _ => 0x64
  | .ADC_STAT _ => 0x6c
  | .ADC_EVT _ => 0x70
  | .ADC_XCFG _ => 0x400
  | .ADC_CALVAL _ => 0x68
  | .ADC_EVTEN _ => 0x74
  | .ADC_PAIR_TOL _ => 0x40
  | .ADC_DAC _ => 0x44
  | .ADC_DIAG_CFG _ => 0x48
  | .ADC_PEVT _ => 0x58
  | .ADC_DIAG_LO _ => 0x4c
  | .ADC_DIAG_HI _ => 0x50
  | .ADC_PSTAT _ => 0x54
  | .ADC_PEVTEN _ => 0x5c
  | .ADC_CHRES ch => 0x40 + 8 * ch
  | .ADC_CHTS ch => 0x44 + 8 * ch
  | .LOOP_CTRL _ => 0x40
  | .LOOP_STAT _ => 0x44
  | .LOOP_DEADLINE _ => 0x48
  | .LOOP_CNT _ => 0x54
  | .LOOP_MISSINFO _ => 0x58
  | .LOOP_NANINFO _ => 0x5c
  | .LOOP_EVT _ => 0x60
  | .LOOP_TRACE_CFG _ => 0x80
  | .LOOP_TRACE_TRIG _ => 0x84
  | .LOOP_TRACE_LEVEL _ => 0x88
  | .LOOP_TRACE_CTRL _ => 0x8c
  | .LOOP_TRACE_STAT _ => 0x90
  | .LOOP_XCFG _ => 0x400
  | .LOOP_RUNTIME _ => 0x4c
  | .LOOP_RUNMAX _ => 0x50
  | .LOOP_EVTEN _ => 0x64
  | .LOOP_TRACE_NODE _ i => 0xC0 + 4 * i
  | .LOOP_GRP_CFG g => 0x80 + 4 * g
  | .LOOP_CONST k => 0x200 + 4 * k
  | .LOOP_SET j => 0x40 + 4 * (j % 128)
  | .DMA_CH_CTRL h => 0x40 + 0x20 * (h % 8)
  | .DMA_CH_DESC h => 0x44 + 0x20 * (h % 8)
  | .DMA_CH_BW h => 0x48 + 0x20 * (h % 8)
  | .DMA_CH_STAT h => 0x4c + 0x20 * (h % 8)
  | .DMA_CH_CUR h => 0x50 + 0x20 * (h % 8)
  | .DMA_CH_CNT h => 0x54 + 0x20 * (h % 8)
  | .DMA_CH_EVT h => 0x58 + 0x20 * (h % 8)
  | .DMA_CH_EVTEN h => 0x5c + 0x20 * (h % 8)
  | .DMA_CH_HOPLIM h => 0x400 + 4 * (h % 8)
  | .IR_SRC_ROUTE s => 0x40 + 4 * (s % 128)
  | .IR_PEND n => 0x40 + 4 * n
  | .IR_TGT_THRESH j => 0x100 + 0x10 * j
  | .IR_TGT_CLAIM j => 0x104 + 0x10 * j
  | .FC_CLASS n => 0x100 + 4 * n
  | .THERM_TS n => 0x80 + 4 * n
  | .KEYS_DIK_HASH i => 0x80 + 4 * i
  | .KEYS_V_PDIG i => 0x80 + 4 * i
  | .KEYS_V_HDIG i => 0xa0 + 4 * i
  | .KEYS_A_NONCE i => 0x40 + 4 * i
  | .KEYS_MEAS_VER k => 0x100 + 0x40 * k
  | .KEYS_MEAS_INFO k => 0x104 + 0x40 * k
  | .KEYS_MEAS_DIG k i => 0x108 + 0x40 * k + 4 * i
  | .SYS_BERR_ADDR => 0x80
  | .SYS_BERR_INFO => 0x84
  | .SYS_TFORCE_LO => 0xa0
  | .SYS_TFORCE_HI => 0xa4
  | .SYS_THROTTLE_REQ => 0xb0
  | .SYS_SVCFLT => 0xc0
  | .SYS_SCRUB_CFG => 0x40
  | .SYS_SCRUB_STAT => 0x44
  | .SYS_ECC_CNT => 0x48
  | .SYS_ECC_RATE => 0x4c
  | .SYS_ECC_ADDR => 0x50
  | .SYS_ECC_INFO => 0x54
  | .SYS_UPD_SET => 0x40
  | .CLK_ROOT => 0x40
  | .CLK_ROOTSTAT => 0x44
  | .CLK_PLLM_CFG => 0x48
  | .CLK_PLLM_STAT => 0x4c
  | .CLK_PLLS_CFG => 0x50
  | .CLK_PLLS_STAT => 0x54
  | .CLK_PLL_XCFG => 0x400
  | .CLK_PHASE_POLICY => 0x80
  | .CLK_PHASE_ERR => 0x84
  | .CLK_PHASE_OFS => 0x88
  | .CLK_DOMSEL => 0x90
  | .CLK_GATE => 0xa0
  | .CLK_GATE_STAT => 0xa4
  | .CLK_FMON_CFG => 0xb0
  | .CLK_FMON_RES => 0xb4
  | .CLK_FMON_LO => 0xb8
  | .CLK_FMON_HI => 0xbc
  | .CLK_EVT => 0xc0
  | .CLK_EVTEN => 0xc4
  | .PWR_STATE => 0x40
  | .PWR_DOM_STAT => 0x48
  | .PWR_STBY_OFF => 0x4c
  | .PWR_VMON => 0x50
  | .PWR_VMON_CNT => 0x54
  | .PWR_VMIN => 0x58
  | .PWR_IVR => 0x68
  | .PWR_DOM => 0x44
  | .PWR_EVT => 0x60
  | .PWR_EVTEN => 0x64
  | .RST_CAUSE => 0x40
  | .RST_REQ => 0x44
  | .RST_STRAP => 0x48
  | .RST_SVC_ENTRY => 0x4c
  | .RST_RELEASE => 0x50
  | .RST_COUNT => 0x54
  | .TIME_NOW_NS => 0x40
  | .TIME_NOW_SUB => 0x44
  | .TIME_NOW_SEC_LO => 0x48
  | .TIME_NOW_SEC_HI => 0x4c
  | .TIME_ADDEND => 0x50
  | .TIME_ADDEND_EFF => 0x54
  | .TIME_ADJ_NS => 0x58
  | .TIME_ADJ_CFG => 0x5c
  | .TIME_ADJ_REMAIN => 0x60
  | .TIME_STEP => 0x64
  | .TIME_SET_NS => 0x68
  | .TIME_SET_SEC_LO => 0x6c
  | .TIME_SET_SEC_HI => 0x70
  | .TIME_DIST => 0x74
  | .TIME_STAT => 0x78
  | .TIME_CLKSTEP => 0x7c
  | .TIME_WD_CFG => 0x80
  | .TIME_WD_KICK => 0x84
  | .STATION_RED_CFG => 0x40
  | .STATION_RED_SEQ => 0x44
  | .STATION_RED_CNT0 => 0x48
  | .STATION_RED_CNT1 => 0x4c
  | .STATION_SV_EVT => 0x40
  | .STATION_SV_EVTEN => 0x44
  | .STATION_SV_TEVT => 0x48
  | .STATION_SV_TEVTEN => 0x4c
  | .STATION_SV_LIVE => 0x50
  | .STATION_GOOSE_EVT => 0x300
  | .STATION_GOOSE_EVTEN => 0x304
  | .STATION_GOOSE_TQ => 0x308
  | .STATION_RRA_CFG => 0x40
  | .STATION_RRA_EVT => 0x44
  | .STATION_RRA_EVTEN => 0x48
  | .STATION_RRA_CNT => 0x4c
  | .TANDEM_LINK => 0x40
  | .TANDEM_CFG => 0x44
  | .TANDEM_STAT => 0x48
  | .TANDEM_SILENT => 0x4c
  | .TANDEM_TAKEBOUND => 0x5c
  | .TANDEM_TKINFO_NS => 0x60
  | .TANDEM_TKINFO_SEC => 0x64
  | .TANDEM_TKINFO => 0x68
  | .TANDEM_MIRROR_LIST => 0x70
  | .TANDEM_MLIST_CNT => 0x74
  | .TANDEM_MCFG => 0x78
  | .TANDEM_MCTRL => 0x7c
  | .TANDEM_MBUF => 0x80
  | .TANDEM_MBUF_SIZE => 0x84
  | .TANDEM_EPOCH => 0x88
  | .TANDEM_MSTAT => 0x8c
  | .TANDEM_MCNT => 0x90
  | .TANDEM_EVT => 0xa0
  | .TANDEM_EVTEN => 0xa4
  | .TANDEM_LINKDLY => 0x50
  | .TANDEM_TASYM => 0x54
  | .TANDEM_TFERR => 0x58
  | .EDGE_LEAD => 0x40
  | .EDGE_STAT => 0x44
  | .EDGE_EVT => 0x48
  | .EDGE_LATECNT => 0x50
  | .EDGE_LATEINFO => 0x54
  | .EDGE_LOAD => 0x58
  | .EDGE_BLKMASK => 0x5c
  | .EDGE_EVTEN => 0x4c
  | .ADC_REF => 0x40
  | .ADC_GRPINJ => 0x44
  | .LOOP_SWAP => 0x40
  | .DMA_CFG => 0x40
  | .DMA_ERRSUM => 0x44
  | .IR_SWI => 0x60
  | .IR_ERRNEXT => 0x80
  | .XSPI_CFG => 0x40
  | .XSPI_CMD => 0x44
  | .XSPI_ADDR => 0x48
  | .XSPI_LEN => 0x4c
  | .XSPI_DATA => 0x50
  | .XSPI_STAT => 0x54
  | .XSPI_BANKA => 0x58
  | .XSPI_BANKB => 0x5c
  | .XSPI_BANKSEL => 0x60
  | .SVCPORT_ID0 => 0x40
  | .SVCPORT_ID1 => 0x44
  | .SVCPORT_ID2 => 0x48
  | .SVCPORT_ID3 => 0x4c
  | .SVCPORT_BOOT => 0x50
  | .SVCPORT_GO => 0x54
  | .SVCPORT_CAUSE => 0x60
  | .SVCPORT_STRAP => 0x64
  | .SVCPORT_ROOTSTAT => 0x68
  | .SVCPORT_LAST_LO => 0x70
  | .SVCPORT_LAST_HI => 0x74
  | .FC_SCORE_LO => 0x40
  | .FC_SCORE_HI => 0x44
  | .FC_HELD_LO => 0x48
  | .FC_HELD_HI => 0x4c
  | .FC_LIVE_LO => 0x50
  | .FC_LIVE_HI => 0x54
  | .FC_FORCE_LO => 0x58
  | .FC_FORCE_HI => 0x5c
  | .FC_QUIET => 0x60
  | .FC_RECOVERIES => 0x64
  | .FC_RECOV_CFG => 0x68
  | .FC_STATE => 0x6c
  | .FC_CTRL => 0x70
  | .FC_CFG => 0x74
  | .FC_STAT => 0x78
  | .FC_LAST_LO => 0x80
  | .FC_LAST_HI => 0x84
  | .FC_FIRST => 0x88
  | .FC_FIRST_NS => 0x8c
  | .THERM_MAX => 0x40
  | .THERM_VALID => 0x44
  | .THERM_ALARM => 0x48
  | .THERM_THROTTLE => 0x4c
  | .THERM_STAT => 0x50
  | .THERM_EVT => 0x54
  | .THERM_EVTEN => 0x58
  | .SAFE_CLAIM_LO => 0x40
  | .SAFE_CLAIM_HI => 0x44
  | .SAFE_CLAIM_CTRL => 0x48
  | .SAFE_CLAIM_STAT => 0x4c
  | .SAFE_SEEN_LO => 0x50
  | .SAFE_SEEN_HI => 0x54
  | .SAFE_ALIVE => 0x60
  | .SAFE_ALIVE_HALF => 0x68
  | .SAFE_TRIP => 0x6c
  | .SAFE_TRIP_CFG => 0x70
  | .SAFE_TRIP_STAT => 0x74
  | .SAFE_BLOCK => 0x78
  | .SAFE_ALIVE_KICK => 0x64
  | .SAFE_BLOCK_CFG => 0x7c
  | .SAFE_BLOCK_STAT => 0x80
  | .KEYS_OWNER => 0x40
  | .KEYS_RB_LO => 0x44
  | .KEYS_RB_HI => 0x48
  | .KEYS_PATCH => 0x4c
  | .KEYS_PATCH_STAT => 0x50
  | .KEYS_OTP_CTRL => 0x54
  | .KEYS_OTP_STAT => 0x58
  | .KEYS_V_ADDR => 0x40
  | .KEYS_V_LEN => 0x44
  | .KEYS_V_CTRL => 0x48
  | .KEYS_V_STAT => 0x4c
  | .KEYS_V_INFO => 0x50
  | .KEYS_V_VER => 0x54
  | .KEYS_V_LOAD => 0x58
  | .KEYS_V_ARG => 0x5c
  | .KEYS_V_PLEN => 0x60
  | .KEYS_A_DST => 0x60
  | .KEYS_A_CTRL => 0x64
  | .KEYS_A_STAT => 0x68
  | .PROT_STAT => 0x40
  | .PROT_CTRL => 0x44

/-- The address of a register. -/
def Reg.addr (r : Reg) : Nat := r.page.base + r.off

/-- The header register at an offset below 0x040 (R27). -/
def Page.headerAt (p : Page) (o : Nat) : Option Reg :=
  if o = 0 then some (.PG_ID p)
  else if o = 4 then some (.PG_VER p)
  else if o = 8 then some (.PG_CTRL p)
  else if o = 0xc then some (.PG_STAT p)
  else if o = 0x10 then some (.PG_ERR p)
  else if o = 0x14 then some (.PG_ERRFORCE p)
  else if o = 0x18 then some (.PG_ERREN p)
  else if o = 0x1c then some (.PG_PROG p)
  else if o = 0x20 then some (.PG_KEY p)
  else if o = 0x24 then some (.PG_LOCK p)
  else none

/-- The register of the SYS block at a word offset of one of its pages; none where the offset is reserved. -/
def regAtSYS (p o : Nat) : Option Reg :=
  if p = 0 ∧ o = 0x80 then some (.SYS_BERR_ADDR)
  else if p = 0 ∧ o = 0x84 then some (.SYS_BERR_INFO)
  else if p = 0 ∧ o = 0xa0 then some (.SYS_TFORCE_LO)
  else if p = 0 ∧ o = 0xa4 then some (.SYS_TFORCE_HI)
  else if p = 0 ∧ o = 0xb0 then some (.SYS_THROTTLE_REQ)
  else if p = 0 ∧ o = 0xc0 then some (.SYS_SVCFLT)
  else if p = 1 ∧ o = 0x40 then some (.SYS_SCRUB_CFG)
  else if p = 1 ∧ o = 0x44 then some (.SYS_SCRUB_STAT)
  else if p = 1 ∧ o = 0x48 then some (.SYS_ECC_CNT)
  else if p = 1 ∧ o = 0x4c then some (.SYS_ECC_RATE)
  else if p = 1 ∧ o = 0x50 then some (.SYS_ECC_ADDR)
  else if p = 1 ∧ o = 0x54 then some (.SYS_ECC_INFO)
  else if p = 2 ∧ o = 0x40 then some (.SYS_UPD_SET)
  else none

/-- The register of the CLK block at a word offset of one of its pages; none where the offset is reserved. -/
def regAtCLK (o : Nat) : Option Reg :=
  if o = 0x40 then some (.CLK_ROOT)
  else if o = 0x44 then some (.CLK_ROOTSTAT)
  else if o = 0x48 then some (.CLK_PLLM_CFG)
  else if o = 0x4c then some (.CLK_PLLM_STAT)
  else if o = 0x50 then some (.CLK_PLLS_CFG)
  else if o = 0x54 then some (.CLK_PLLS_STAT)
  else if o = 0x400 then some (.CLK_PLL_XCFG)
  else if o = 0x80 then some (.CLK_PHASE_POLICY)
  else if o = 0x84 then some (.CLK_PHASE_ERR)
  else if o = 0x88 then some (.CLK_PHASE_OFS)
  else if o = 0x90 then some (.CLK_DOMSEL)
  else if o = 0xa0 then some (.CLK_GATE)
  else if o = 0xa4 then some (.CLK_GATE_STAT)
  else if o = 0xb0 then some (.CLK_FMON_CFG)
  else if o = 0xb4 then some (.CLK_FMON_RES)
  else if 0x60 ≤ o ∧ o < 0x80 then some (.CLK_OUT_CFG ((o - 0x60) / 4))
  else if o = 0xb8 then some (.CLK_FMON_LO)
  else if o = 0xbc then some (.CLK_FMON_HI)
  else if o = 0xc0 then some (.CLK_EVT)
  else if o = 0xc4 then some (.CLK_EVTEN)
  else none

/-- The register of the PWR block at a word offset of one of its pages; none where the offset is reserved. -/
def regAtPWR (o : Nat) : Option Reg :=
  if o = 0x40 then some (.PWR_STATE)
  else if o = 0x48 then some (.PWR_DOM_STAT)
  else if o = 0x4c then some (.PWR_STBY_OFF)
  else if o = 0x50 then some (.PWR_VMON)
  else if o = 0x54 then some (.PWR_VMON_CNT)
  else if o = 0x58 then some (.PWR_VMIN)
  else if o = 0x68 then some (.PWR_IVR)
  else if o = 0x44 then some (.PWR_DOM)
  else if o = 0x60 then some (.PWR_EVT)
  else if o = 0x64 then some (.PWR_EVTEN)
  else none

/-- The register of the RST block at a word offset of one of its pages; none where the offset is reserved. -/
def regAtRST (o : Nat) : Option Reg :=
  if o = 0x40 then some (.RST_CAUSE)
  else if o = 0x44 then some (.RST_REQ)
  else if o = 0x48 then some (.RST_STRAP)
  else if o = 0x4c then some (.RST_SVC_ENTRY)
  else if o = 0x50 then some (.RST_RELEASE)
  else if o = 0x54 then some (.RST_COUNT)
  else none

/-- The register of the TIME block at a word offset of one of its pages; none where the offset is reserved. -/
def regAtTIME (p o : Nat) : Option Reg :=
  if p = 0 ∧ o = 0x40 then some (.TIME_NOW_NS)
  else if p = 0 ∧ o = 0x44 then some (.TIME_NOW_SUB)
  else if p = 0 ∧ o = 0x48 then some (.TIME_NOW_SEC_LO)
  else if p = 0 ∧ o = 0x4c then some (.TIME_NOW_SEC_HI)
  else if p = 0 ∧ o = 0x50 then some (.TIME_ADDEND)
  else if p = 0 ∧ o = 0x54 then some (.TIME_ADDEND_EFF)
  else if p = 0 ∧ o = 0x58 then some (.TIME_ADJ_NS)
  else if p = 0 ∧ o = 0x5c then some (.TIME_ADJ_CFG)
  else if p = 0 ∧ o = 0x60 then some (.TIME_ADJ_REMAIN)
  else if p = 0 ∧ o = 0x64 then some (.TIME_STEP)
  else if p = 0 ∧ o = 0x68 then some (.TIME_SET_NS)
  else if p = 0 ∧ o = 0x6c then some (.TIME_SET_SEC_LO)
  else if p = 0 ∧ o = 0x70 then some (.TIME_SET_SEC_HI)
  else if p = 0 ∧ o = 0x74 then some (.TIME_DIST)
  else if p = 0 ∧ o = 0x78 then some (.TIME_STAT)
  else if p = 0 ∧ o = 0x7c then some (.TIME_CLKSTEP)
  else if p = 0 ∧ o = 0x80 then some (.TIME_WD_CFG)
  else if p = 0 ∧ o = 0x84 then some (.TIME_WD_KICK)
  else if p = 0 ∧ 0xa0 ≤ o ∧ o < 0xe0 ∧ (o - 0xa0) % 0x10 = 0 then some (.TIME_ALARM_NS ((o - 0xa0) / 0x10))
  else if p = 0 ∧ 0xa4 ≤ o ∧ o < 0xe4 ∧ (o - 0xa4) % 0x10 = 0 then some (.TIME_ALARM_SEC_LO ((o - 0xa4) / 0x10))
  else if p = 0 ∧ 0xa8 ≤ o ∧ o < 0xe8 ∧ (o - 0xa8) % 0x10 = 0 then some (.TIME_ALARM_SEC_HI ((o - 0xa8) / 0x10))
  else if p = 0 ∧ 0xac ≤ o ∧ o < 0xec ∧ (o - 0xac) % 0x10 = 0 then some (.TIME_ALARM_CTRL ((o - 0xac) / 0x10))
  else if p = 1 ∧ 0x40 ≤ o ∧ o < 0xc0 ∧ (o - 0x40) % 0x40 = 0 then some (.TIME_PORT_CFG ((o - 0x40) / 0x40))
  else if p = 1 ∧ 0x44 ≤ o ∧ o < 0xc4 ∧ (o - 0x44) % 0x40 = 0 then some (.TIME_PORT_TXLAT ((o - 0x44) / 0x40))
  else if p = 1 ∧ 0x48 ≤ o ∧ o < 0xc8 ∧ (o - 0x48) % 0x40 = 0 then some (.TIME_PORT_RXLAT ((o - 0x48) / 0x40))
  else if p = 1 ∧ 0x4c ≤ o ∧ o < 0xcc ∧ (o - 0x4c) % 0x40 = 0 then some (.TIME_PORT_ASYM ((o - 0x4c) / 0x40))
  else if p = 1 ∧ 0x50 ≤ o ∧ o < 0xd0 ∧ (o - 0x50) % 0x40 = 0 then some (.TIME_PORT_LINKDLY ((o - 0x50) / 0x40))
  else if p = 1 ∧ 0x54 ≤ o ∧ o < 0xd4 ∧ (o - 0x54) % 0x40 = 0 then some (.TIME_PORT_TSQ_STAT ((o - 0x54) / 0x40))
  else if p = 1 ∧ 0x58 ≤ o ∧ o < 0xd8 ∧ (o - 0x58) % 0x40 = 0 then some (.TIME_PORT_TSQ_W0 ((o - 0x58) / 0x40))
  else if p = 1 ∧ 0x5c ≤ o ∧ o < 0xdc ∧ (o - 0x5c) % 0x40 = 0 then some (.TIME_PORT_TSQ_W1 ((o - 0x5c) / 0x40))
  else if p = 1 ∧ 0x60 ≤ o ∧ o < 0xe0 ∧ (o - 0x60) % 0x40 = 0 then some (.TIME_PORT_TSQ_W2 ((o - 0x60) / 0x40))
  else if p = 1 ∧ 0x64 ≤ o ∧ o < 0xe4 ∧ (o - 0x64) % 0x40 = 0 then some (.TIME_PORT_TSQ_W3 ((o - 0x64) / 0x40))
  else if p = 1 ∧ 0x68 ≤ o ∧ o < 0xe8 ∧ (o - 0x68) % 0x40 = 0 then some (.TIME_PORT_TC_CNT ((o - 0x68) / 0x40))
  else none

/-- The register of the STATION block at a word offset of one of its pages; none where the offset is reserved. -/
def regAtSTATION (p o : Nat) : Option Reg :=
  if p < 2 ∧ o = 0x40 then some (.STATION_PORT_CFG p)
  else if p < 2 ∧ o = 0x44 then some (.STATION_PORT_STAT p)
  else if p < 2 ∧ o = 0x48 then some (.STATION_PORT_MAC_LO p)
  else if p < 2 ∧ o = 0x4c then some (.STATION_PORT_MAC_HI p)
  else if p < 2 ∧ o = 0x58 then some (.STATION_PORT_FIFO p)
  else if p < 2 ∧ o = 0x50 then some (.STATION_PORT_EVT p)
  else if p < 2 ∧ o = 0x54 then some (.STATION_PORT_EVTEN p)
  else if p < 2 ∧ o = 0x60 then some (.STATION_PORT_RXD0 p)
  else if p < 2 ∧ o = 0x64 then some (.STATION_PORT_RXD1 p)
  else if p < 2 ∧ o = 0x68 then some (.STATION_PORT_RXD2 p)
  else if p < 2 ∧ o = 0x6c then some (.STATION_PORT_RXD3 p)
  else if p < 2 ∧ o = 0x70 then some (.STATION_PORT_RXDATA p)
  else if p < 2 ∧ o = 0x80 then some (.STATION_PORT_TXD0 p)
  else if p < 2 ∧ o = 0x84 then some (.STATION_PORT_TXD1 p)
  else if p < 2 ∧ o = 0x88 then some (.STATION_PORT_TXD2 p)
  else if p < 2 ∧ o = 0x90 then some (.STATION_PORT_TXDATA p)
  else if p < 2 ∧ o = 0xa0 then some (.STATION_PORT_CNT0 p)
  else if p < 2 ∧ o = 0xa4 then some (.STATION_PORT_CNT1 p)
  else if p = 2 ∧ o = 0x40 then some (.STATION_RED_CFG)
  else if p = 2 ∧ o = 0x44 then some (.STATION_RED_SEQ)
  else if p = 2 ∧ o = 0x48 then some (.STATION_RED_CNT0)
  else if p = 2 ∧ o = 0x4c then some (.STATION_RED_CNT1)
  else if p = 3 ∧ o = 0x40 then some (.STATION_SV_EVT)
  else if p = 3 ∧ o = 0x44 then some (.STATION_SV_EVTEN)
  else if p = 3 ∧ o = 0x48 then some (.STATION_SV_TEVT)
  else if p = 3 ∧ o = 0x4c then some (.STATION_SV_TEVTEN)
  else if p = 3 ∧ o = 0x50 then some (.STATION_SV_LIVE)
  else if 4 ≤ p ∧ p < 12 ∧ 0x40 ≤ o ∧ o < 0x140 ∧ (o - 0x40) % 0x40 = 0 then some (.STATION_SUB_CFG (4 * (p - 4) + (o - 0x40) / 0x40))
  else if 4 ≤ p ∧ p < 12 ∧ 0x44 ≤ o ∧ o < 0x144 ∧ (o - 0x44) % 0x40 = 0 then some (.STATION_SUB_MAC_LO (4 * (p - 4) + (o - 0x44) / 0x40))
  else if 4 ≤ p ∧ p < 12 ∧ 0x48 ≤ o ∧ o < 0x148 ∧ (o - 0x48) % 0x40 = 0 then some (.STATION_SUB_MAC_HI (4 * (p - 4) + (o - 0x48) / 0x40))
  else if 4 ≤ p ∧ p < 12 ∧ 0x4c ≤ o ∧ o < 0x14c ∧ (o - 0x4c) % 0x40 = 0 then some (.STATION_SUB_IDCRC (4 * (p - 4) + (o - 0x4c) / 0x40))
  else if 4 ≤ p ∧ p < 12 ∧ 0x50 ≤ o ∧ o < 0x150 ∧ (o - 0x50) % 0x40 = 0 then some (.STATION_SUB_CONFREV (4 * (p - 4) + (o - 0x50) / 0x40))
  else if 4 ≤ p ∧ p < 12 ∧ 0x54 ≤ o ∧ o < 0x154 ∧ (o - 0x54) % 0x40 = 0 then some (.STATION_SUB_CSCALE (4 * (p - 4) + (o - 0x54) / 0x40))
  else if 4 ≤ p ∧ p < 12 ∧ 0x58 ≤ o ∧ o < 0x158 ∧ (o - 0x58) % 0x40 = 0 then some (.STATION_SUB_VSCALE (4 * (p - 4) + (o - 0x58) / 0x40))
  else if 4 ≤ p ∧ p < 12 ∧ 0x5c ≤ o ∧ o < 0x15c ∧ (o - 0x5c) % 0x40 = 0 then some (.STATION_SUB_TIMING (4 * (p - 4) + (o - 0x5c) / 0x40))
  else if 4 ≤ p ∧ p < 12 ∧ 0x60 ≤ o ∧ o < 0x160 ∧ (o - 0x60) % 0x40 = 0 then some (.STATION_SUB_STAT (4 * (p - 4) + (o - 0x60) / 0x40))
  else if 4 ≤ p ∧ p < 12 ∧ 0x64 ≤ o ∧ o < 0x164 ∧ (o - 0x64) % 0x40 = 0 then some (.STATION_SUB_LOST (4 * (p - 4) + (o - 0x64) / 0x40))
  else if 4 ≤ p ∧ p < 12 ∧ 0x800 ≤ o then some (.STATION_SUB_RING (4 * (p - 4) + (o - 0x800) / 0x200) ((o - 0x800) % 0x200 / 4))
  else if p = 12 ∧ 0x40 ≤ o ∧ o < 0x240 ∧ (o - 0x40) % 0x20 = 0 then some (.STATION_GSUB_CFG ((o - 0x40) / 0x20))
  else if p = 12 ∧ 0x44 ≤ o ∧ o < 0x244 ∧ (o - 0x44) % 0x20 = 0 then some (.STATION_GSUB_MAC_LO ((o - 0x44) / 0x20))
  else if p = 12 ∧ 0x48 ≤ o ∧ o < 0x248 ∧ (o - 0x48) % 0x20 = 0 then some (.STATION_GSUB_MAC_HI ((o - 0x48) / 0x20))
  else if p = 12 ∧ 0x4c ≤ o ∧ o < 0x24c ∧ (o - 0x4c) % 0x20 = 0 then some (.STATION_GSUB_REFCRC ((o - 0x4c) / 0x20))
  else if p = 12 ∧ 0x50 ≤ o ∧ o < 0x250 ∧ (o - 0x50) % 0x20 = 0 then some (.STATION_GSUB_CONFREV ((o - 0x50) / 0x20))
  else if p = 12 ∧ 0x54 ≤ o ∧ o < 0x254 ∧ (o - 0x54) % 0x20 = 0 then some (.STATION_GSUB_DEFAULT ((o - 0x54) / 0x20))
  else if p = 12 ∧ 0x58 ≤ o ∧ o < 0x258 ∧ (o - 0x58) % 0x20 = 0 then some (.STATION_GSUB_BITS ((o - 0x58) / 0x20))
  else if p = 12 ∧ 0x5c ≤ o ∧ o < 0x25c ∧ (o - 0x5c) % 0x20 = 0 then some (.STATION_GSUB_STAT ((o - 0x5c) / 0x20))
  else if p = 12 ∧ o = 0x300 then some (.STATION_GOOSE_EVT)
  else if p = 12 ∧ o = 0x304 then some (.STATION_GOOSE_EVTEN)
  else if p = 12 ∧ o = 0x308 then some (.STATION_GOOSE_TQ)
  else if 13 ≤ p ∧ p < 15 ∧ 0x40 ≤ o ∧ o < 0x140 ∧ (o - 0x40) % 0x20 = 0 then some (.STATION_PUB_CTRL (8 * (p - 13) + (o - 0x40) / 0x20))
  else if 13 ≤ p ∧ p < 15 ∧ 0x44 ≤ o ∧ o < 0x144 ∧ (o - 0x44) % 0x20 = 0 then some (.STATION_PUB_TIMING (8 * (p - 13) + (o - 0x44) / 0x20))
  else if 13 ≤ p ∧ p < 15 ∧ 0x48 ≤ o ∧ o < 0x148 ∧ (o - 0x48) % 0x20 = 0 then some (.STATION_PUB_DATA (8 * (p - 13) + (o - 0x48) / 0x20))
  else if 13 ≤ p ∧ p < 15 ∧ 0x4c ≤ o ∧ o < 0x14c ∧ (o - 0x4c) % 0x20 = 0 then some (.STATION_PUB_STNUM (8 * (p - 13) + (o - 0x4c) / 0x20))
  else if 13 ≤ p ∧ p < 15 ∧ 0x50 ≤ o ∧ o < 0x150 ∧ (o - 0x50) % 0x20 = 0 then some (.STATION_PUB_SQNUM (8 * (p - 13) + (o - 0x50) / 0x20))
  else if 13 ≤ p ∧ p < 15 ∧ 0x400 ≤ o then some (.STATION_PUB_TPL (8 * (p - 13) + (o - 0x400) / 0x180) ((o - 0x400) % 0x180 / 4))
  else if p = 15 ∧ o = 0x40 then some (.STATION_RRA_CFG)
  else if p = 15 ∧ o = 0x44 then some (.STATION_RRA_EVT)
  else if p = 15 ∧ o = 0x48 then some (.STATION_RRA_EVTEN)
  else if p = 15 ∧ o = 0x4c then some (.STATION_RRA_CNT)
  else if p = 15 ∧ 0x80 ≤ o ∧ o < 0x380 ∧ (o - 0x80) % 0x60 = 0 then some (.STATION_SES_CTRL ((o - 0x80) / 0x60))
  else if p = 15 ∧ 0x84 ≤ o ∧ o < 0x384 ∧ (o - 0x84) % 0x60 = 0 then some (.STATION_SES_PEER_LO ((o - 0x84) / 0x60))
  else if p = 15 ∧ 0x88 ≤ o ∧ o < 0x388 ∧ (o - 0x88) % 0x60 = 0 then some (.STATION_SES_PEER_HI ((o - 0x88) / 0x60))
  else if p = 15 ∧ 0x8c ≤ o ∧ o < 0x38c ∧ (o - 0x8c) % 0x60 = 0 then some (.STATION_SES_SALT ((o - 0x8c) / 0x60))
  else if p = 15 ∧ 0x90 ≤ o ∧ o < 0x390 ∧ (o - 0x90) % 0x60 = 0 then some (.STATION_SES_WBASE ((o - 0x90) / 0x60))
  else if p = 15 ∧ 0x94 ≤ o ∧ o < 0x394 ∧ (o - 0x94) % 0x60 = 0 then some (.STATION_SES_WSIZE ((o - 0x94) / 0x60))
  else if p = 15 ∧ 0x98 ≤ o ∧ o < 0x398 ∧ (o - 0x98) % 0x60 = 0 then some (.STATION_SES_SEQ_LO ((o - 0x98) / 0x60))
  else if p = 15 ∧ 0x9c ≤ o ∧ o < 0x39c ∧ (o - 0x9c) % 0x60 = 0 then some (.STATION_SES_SEQ_HI ((o - 0x9c) / 0x60))
  else if p = 15 ∧ 0xa0 ≤ o ∧ o < 0x3a0 ∧ (o - 0xa0) % 0x60 = 0 then some (.STATION_SES_STAT ((o - 0xa0) / 0x60))
  else if p = 15 ∧ 0x80 ≤ o ∧ o < 0x380 ∧ 0x40 ≤ (o - 0x80) % 0x60 then some (.STATION_SES_KEY ((o - 0x80) / 0x60) (((o - 0x80) % 0x60 - 0x40) / 4))
  else none

/-- The register of the TANDEM block at a word offset of one of its pages; none where the offset is reserved. -/
def regAtTANDEM (p o : Nat) : Option Reg :=
  if p = 0 ∧ o = 0x40 then some (.TANDEM_LINK)
  else if p = 0 ∧ o = 0x44 then some (.TANDEM_CFG)
  else if p = 0 ∧ o = 0x48 then some (.TANDEM_STAT)
  else if p = 0 ∧ o = 0x4c then some (.TANDEM_SILENT)
  else if p = 0 ∧ o = 0x5c then some (.TANDEM_TAKEBOUND)
  else if p = 0 ∧ o = 0x60 then some (.TANDEM_TKINFO_NS)
  else if p = 0 ∧ o = 0x64 then some (.TANDEM_TKINFO_SEC)
  else if p = 0 ∧ o = 0x68 then some (.TANDEM_TKINFO)
  else if p = 0 ∧ o = 0x70 then some (.TANDEM_MIRROR_LIST)
  else if p = 0 ∧ o = 0x74 then some (.TANDEM_MLIST_CNT)
  else if p = 0 ∧ o = 0x78 then some (.TANDEM_MCFG)
  else if p = 0 ∧ o = 0x7c then some (.TANDEM_MCTRL)
  else if p = 0 ∧ o = 0x80 then some (.TANDEM_MBUF)
  else if p = 0 ∧ o = 0x84 then some (.TANDEM_MBUF_SIZE)
  else if p = 0 ∧ o = 0x88 then some (.TANDEM_EPOCH)
  else if p = 0 ∧ o = 0x8c then some (.TANDEM_MSTAT)
  else if p = 0 ∧ o = 0x90 then some (.TANDEM_MCNT)
  else if p = 0 ∧ o = 0xa0 then some (.TANDEM_EVT)
  else if p = 0 ∧ o = 0xa4 then some (.TANDEM_EVTEN)
  else if p = 0 ∧ o = 0x50 then some (.TANDEM_LINKDLY)
  else if p = 0 ∧ o = 0x54 then some (.TANDEM_TASYM)
  else if p = 0 ∧ o = 0x58 then some (.TANDEM_TFERR)
  else if p = 1 ∧ 0x40 ≤ o ∧ o < 0xc0 then some (.TANDEM_TRANS ((o - 0x40) / 4))
  else none

/-- The register of the RIM block at a word offset of one of its pages; none where the offset is reserved. -/
def regAtRIM (p o : Nat) : Option Reg :=
  if o = 0x40 then some (.RIM_CTRL p)
  else if o = 0x44 then some (.RIM_STAT p)
  else if o = 0x48 then some (.RIM_LATENCY p)
  else if o = 0x4c then some (.RIM_TCFG p)
  else if o = 0x50 then some (.RIM_PEER_CLAIM_LO p)
  else if o = 0x54 then some (.RIM_PEER_CLAIM_HI p)
  else if o = 0x58 then some (.RIM_CNT p)
  else if o = 0x60 then some (.RIM_EVT p)
  else if o = 0x70 then some (.RIM_FW_SRC p)
  else if o = 0x74 then some (.RIM_FW_LEN p)
  else if o = 0x78 then some (.RIM_FW_CTRL p)
  else if o = 0x7c then some (.RIM_FW_STAT p)
  else if o = 0x400 then some (.RIM_XCFG p)
  else if o = 0x64 then some (.RIM_EVTEN p)
  else if 0x80 ≤ o ∧ o < 0xA0 then some (.RIM_FW_DIGEST p ((o - 0x80) / 4))
  else none

/-- The register of the SPOKE block at a word offset of one of its pages; none where the offset is reserved. -/
def regAtSPOKE (p o : Nat) : Option Reg :=
  if 0x40 ≤ o ∧ o < 0x3C0 ∧ (o - 0x40) % 0x70 = 0 then some (.SPOKE_STATE (8 * p + (o - 0x40) / 0x70))
  else if 0x40 ≤ o ∧ o < 0x3C0 ∧ (o - 0x40) % 0x70 = 4 then some (.SPOKE_CTRL (8 * p + (o - 0x40) / 0x70))
  else if 0x40 ≤ o ∧ o < 0x3C0 ∧ (o - 0x40) % 0x70 = 8 then some (.SPOKE_UID_LO (8 * p + (o - 0x40) / 0x70))
  else if 0x40 ≤ o ∧ o < 0x3C0 ∧ (o - 0x40) % 0x70 = 0xc then some (.SPOKE_UID_HI (8 * p + (o - 0x40) / 0x70))
  else if 0x40 ≤ o ∧ o < 0x3C0 ∧ (o - 0x40) % 0x70 = 0x10 then some (.SPOKE_TYPE (8 * p + (o - 0x40) / 0x70))
  else if 0x40 ≤ o ∧ o < 0x3C0 ∧ (o - 0x40) % 0x70 = 0x14 then some (.SPOKE_SAFE_STATE (8 * p + (o - 0x40) / 0x70))
  else if 0x40 ≤ o ∧ o < 0x3C0 ∧ (o - 0x40) % 0x70 = 0x18 then some (.SPOKE_WDOG (8 * p + (o - 0x40) / 0x70))
  else if 0x40 ≤ o ∧ o < 0x3C0 ∧ (o - 0x40) % 0x70 = 0x1c then some (.SPOKE_DLY (8 * p + (o - 0x40) / 0x70))
  else if 0x40 ≤ o ∧ o < 0x3C0 ∧ (o - 0x40) % 0x70 = 0x20 then some (.SPOKE_HOPDLY (8 * p + (o - 0x40) / 0x70))
  else if 0x40 ≤ o ∧ o < 0x3C0 ∧ (o - 0x40) % 0x70 = 0x24 then some (.SPOKE_CLAIM_LO (8 * p + (o - 0x40) / 0x70))
  else if 0x40 ≤ o ∧ o < 0x3C0 ∧ (o - 0x40) % 0x70 = 0x28 then some (.SPOKE_CLAIM_HI (8 * p + (o - 0x40) / 0x70))
  else if 0x40 ≤ o ∧ o < 0x3C0 ∧ (o - 0x40) % 0x70 = 0x2c then some (.SPOKE_FAULT (8 * p + (o - 0x40) / 0x70))
  else if 0x40 ≤ o ∧ o < 0x3C0 ∧ (o - 0x40) % 0x70 = 0x30 then some (.SPOKE_FWVER (8 * p + (o - 0x40) / 0x70))
  else if 0x40 ≤ o ∧ o < 0x3C0 ∧ (o - 0x40) % 0x70 = 0x34 then some (.SPOKE_NSTAT (8 * p + (o - 0x40) / 0x70))
  else if 0x400 ≤ o ∧ o < 0x880 ∧ (o - 0x400) % 0x90 = 0 then some (.SPOKE_XUID_LO (8 * p + (o - 0x400) / 0x90))
  else if 0x400 ≤ o ∧ o < 0x880 ∧ (o - 0x400) % 0x90 = 4 then some (.SPOKE_XUID_HI (8 * p + (o - 0x400) / 0x90))
  else if 0x400 ≤ o ∧ o < 0x880 ∧ (o - 0x400) % 0x90 = 8 then some (.SPOKE_XTYPE (8 * p + (o - 0x400) / 0x90))
  else if 0x400 ≤ o ∧ o < 0x880 ∧ (o - 0x400) % 0x90 = 0xc then some (.SPOKE_ASYM (8 * p + (o - 0x400) / 0x90))
  else if 0x400 ≤ o ∧ o < 0x880 ∧ 0x10 ≤ (o - 0x400) % 0x90 ∧ (o - 0x400) % 0x90 < 0x50 then some (.SPOKE_PAR (8 * p + (o - 0x400) / 0x90) (((o - 0x400) % 0x90 - 0x10) / 4))
  else none

/-- The register of the EDGE block at a word offset of one of its pages; none where the offset is reserved. -/
def regAtEDGE (p o : Nat) : Option Reg :=
  if p = 0 ∧ o = 0x40 then some (.EDGE_LEAD)
  else if p = 0 ∧ o = 0x44 then some (.EDGE_STAT)
  else if p = 0 ∧ o = 0x48 then some (.EDGE_EVT)
  else if p = 0 ∧ o = 0x50 then some (.EDGE_LATECNT)
  else if p = 0 ∧ o = 0x54 then some (.EDGE_LATEINFO)
  else if p = 0 ∧ o = 0x58 then some (.EDGE_LOAD)
  else if p = 0 ∧ o = 0x5c then some (.EDGE_BLKMASK)
  else if p = 0 ∧ o = 0x4c then some (.EDGE_EVTEN)
  else if p = 0 ∧ 0x400 ≤ o ∧ o < 0x440 ∧ (o - 0x400) % 8 = 0 then some (.EDGE_DTP_A ((o - 0x400) / 8))
  else if p = 0 ∧ 0x404 ≤ o ∧ o < 0x444 ∧ (o - 0x404) % 8 = 0 then some (.EDGE_DTP_B ((o - 0x404) / 8))
  else if 1 ≤ p ∧ p < 3 ∧ 0x40 ≤ o ∧ o < 0xc0 then some (.EDGE_CAR_PERIOD (32 * (p - 1) + (o - 0x40) / 4))
  else if 1 ≤ p ∧ p < 3 ∧ 0xc0 ≤ o ∧ o < 0x140 then some (.EDGE_CAR_CTRL (32 * (p - 1) + (o - 0xc0) / 4))
  else if 1 ≤ p ∧ p < 3 ∧ 0x140 ≤ o ∧ o < 0x1c0 then some (.EDGE_CAR_START_NS (32 * (p - 1) + (o - 0x140) / 4))
  else if 1 ≤ p ∧ p < 3 ∧ 0x1c0 ≤ o ∧ o < 0x240 then some (.EDGE_CAR_START_SEC (32 * (p - 1) + (o - 0x1c0) / 4))
  else if 1 ≤ p ∧ p < 3 ∧ 0x240 ≤ o ∧ o < 0x2c0 then some (.EDGE_CAR_XFER (32 * (p - 1) + (o - 0x240) / 4))
  else if 1 ≤ p ∧ p < 3 ∧ 0x2c0 ≤ o ∧ o < 0x340 then some (.EDGE_CAR_STAT (32 * (p - 1) + (o - 0x2c0) / 4))
  else if 1 ≤ p ∧ p < 3 ∧ 0x340 ≤ o ∧ o < 0x3c0 then some (.EDGE_CAR_PSTART_NS (32 * (p - 1) + (o - 0x340) / 4))
  else if 1 ≤ p ∧ p < 3 ∧ 0x400 ≤ o ∧ o < 0x480 then some (.EDGE_CAR_PSTART_SEC (32 * (p - 1) + (o - 0x400) / 4))
  else if 3 ≤ p ∧ p < 7 ∧ 0x40 ≤ o ∧ o < 0x240 then some (.EDGE_TRG_CMP (128 * (p - 3) + (o - 0x40) / 4))
  else if 7 ≤ p ∧ p < 29 ∧ 0x40 ≤ o ∧ o < 0x100 ∧ (p < 28 ∨ o < 0x80) then some (.EDGE_LEG_DUTY (48 * (p - 7) + (o - 0x40) / 4))
  else if 7 ≤ p ∧ p < 29 ∧ 0x100 ≤ o ∧ o < 0x1c0 ∧ (p < 28 ∨ o < 0x140) then some (.EDGE_LEG_OFFSET (48 * (p - 7) + (o - 0x100) / 4))
  else if 7 ≤ p ∧ p < 29 ∧ 0x1c0 ≤ o ∧ o < 0x280 ∧ (p < 28 ∨ o < 0x200) then some (.EDGE_LEG_DT (48 * (p - 7) + (o - 0x1c0) / 4))
  else if 7 ≤ p ∧ p < 29 ∧ 0x280 ≤ o ∧ o < 0x340 ∧ (p < 28 ∨ o < 0x2c0) then some (.EDGE_LEG_MINP (48 * (p - 7) + (o - 0x280) / 4))
  else if 7 ≤ p ∧ p < 29 ∧ 0x340 ≤ o ∧ o < 0x400 ∧ (p < 28 ∨ o < 0x380) then some (.EDGE_LEG_CTRL (48 * (p - 7) + (o - 0x340) / 4))
  else if 7 ≤ p ∧ p < 29 ∧ 0x400 ≤ o ∧ o < 0x4c0 ∧ (p < 28 ∨ o < 0x440) then some (.EDGE_LEG_DTLIM (48 * (p - 7) + (o - 0x400) / 4))
  else if 7 ≤ p ∧ p < 29 ∧ 0x4c0 ≤ o ∧ o < 0x580 ∧ (p < 28 ∨ o < 0x500) then some (.EDGE_LEG_ADT (48 * (p - 7) + (o - 0x4c0) / 4))
  else if 7 ≤ p ∧ p < 29 ∧ 0x580 ≤ o ∧ o < 0x640 ∧ (p < 28 ∨ o < 0x5c0) then some (.EDGE_LEG_DSTAT (48 * (p - 7) + (o - 0x580) / 4))
  else if 7 ≤ p ∧ p < 29 ∧ 0x640 ≤ o ∧ o < 0x700 ∧ (p < 28 ∨ o < 0x680) then some (.EDGE_LEG_PSTAT (48 * (p - 7) + (o - 0x640) / 4))
  else if 7 ≤ p ∧ p < 29 ∧ 0x700 ≤ o ∧ o < 0x7c0 ∧ (p < 28 ∨ o < 0x740) then some (.EDGE_LEG_CARRY (48 * (p - 7) + (o - 0x700) / 4))
  else if 7 ≤ p ∧ p < 29 ∧ 0x7c0 ≤ o ∧ o < 0x880 ∧ (p < 28 ∨ o < 0x800) then some (.EDGE_LEG_ESEQ (48 * (p - 7) + (o - 0x7c0) / 4))
  else none

/-- The register of the ADC block at a word offset of one of its pages; none where the offset is reserved. -/
def regAtADC (p o : Nat) : Option Reg :=
  if p = 0 ∧ o = 0x40 then some (.ADC_REF)
  else if p = 0 ∧ o = 0x44 then some (.ADC_GRPINJ)
  else if 1 ≤ p ∧ p < 17 ∧ o = 0x40 then some (.ADC_CTRL (p - 1))
  else if 1 ≤ p ∧ p < 17 ∧ o = 0x44 then some (.ADC_SEL (p - 1))
  else if 1 ≤ p ∧ p < 17 ∧ o = 0x48 then some (.ADC_QSTAT (p - 1))
  else if 1 ≤ p ∧ p < 17 ∧ o = 0x4c then some (.ADC_INJ (p - 1))
  else if 1 ≤ p ∧ p < 17 ∧ o = 0x50 then some (.ADC_INJRES (p - 1))
  else if 1 ≤ p ∧ p < 17 ∧ o = 0x54 then some (.ADC_INJTS (p - 1))
  else if 1 ≤ p ∧ p < 17 ∧ o = 0x58 then some (.ADC_FMT (p - 1))
  else if 1 ≤ p ∧ p < 17 ∧ o = 0x5c then some (.ADC_RES (p - 1))
  else if 1 ≤ p ∧ p < 17 ∧ o = 0x60 then some (.ADC_FSTAT (p - 1))
  else if 1 ≤ p ∧ p < 17 ∧ o = 0x64 then some (.ADC_CAL (p - 1))
  else if 1 ≤ p ∧ p < 17 ∧ o = 0x6c then some (.ADC_STAT (p - 1))
  else if 1 ≤ p ∧ p < 17 ∧ o = 0x70 then some (.ADC_EVT (p - 1))
  else if 1 ≤ p ∧ p < 17 ∧ o = 0x400 then some (.ADC_XCFG (p - 1))
  else if 1 ≤ p ∧ p < 17 ∧ o = 0x68 then some (.ADC_CALVAL (p - 1))
  else if 1 ≤ p ∧ p < 17 ∧ o = 0x74 then some (.ADC_EVTEN (p - 1))
  else if 17 ≤ p ∧ p < 25 ∧ o = 0x40 then some (.ADC_PAIR_TOL (p - 17))
  else if 17 ≤ p ∧ p < 25 ∧ o = 0x44 then some (.ADC_DAC (p - 17))
  else if 17 ≤ p ∧ p < 25 ∧ o = 0x48 then some (.ADC_DIAG_CFG (p - 17))
  else if 17 ≤ p ∧ p < 25 ∧ o = 0x58 then some (.ADC_PEVT (p - 17))
  else if 17 ≤ p ∧ p < 25 ∧ o = 0x4c then some (.ADC_DIAG_LO (p - 17))
  else if 17 ≤ p ∧ p < 25 ∧ o = 0x50 then some (.ADC_DIAG_HI (p - 17))
  else if 17 ≤ p ∧ p < 25 ∧ o = 0x54 then some (.ADC_PSTAT (p - 17))
  else if 17 ≤ p ∧ p < 25 ∧ o = 0x5c then some (.ADC_PEVTEN (p - 17))
  else if p = 25 ∧ 0x40 ≤ o ∧ o < 0x2e0 ∧ (o - 0x40) % 8 = 0 ∧ (o < 0x280 ∨ 0x2c0 ≤ o) then some (.ADC_CHRES ((o - 0x40) / 8))
  else if p = 25 ∧ 0x44 ≤ o ∧ o < 0x2e4 ∧ (o - 0x44) % 8 = 0 ∧ (o < 0x280 ∨ 0x2c0 ≤ o) then some (.ADC_CHTS ((o - 0x44) / 8))
  else none

/-- The register of the LOOP block at a word offset of one of its pages; none where the offset is reserved. -/
def regAtLOOP (p o : Nat) : Option Reg :=
  if p < 8 ∧ o = 0x40 then some (.LOOP_CTRL p)
  else if p < 8 ∧ o = 0x44 then some (.LOOP_STAT p)
  else if p < 8 ∧ o = 0x48 then some (.LOOP_DEADLINE p)
  else if p < 8 ∧ o = 0x54 then some (.LOOP_CNT p)
  else if p < 8 ∧ o = 0x58 then some (.LOOP_MISSINFO p)
  else if p < 8 ∧ o = 0x5c then some (.LOOP_NANINFO p)
  else if p < 8 ∧ o = 0x60 then some (.LOOP_EVT p)
  else if p < 8 ∧ o = 0x80 then some (.LOOP_TRACE_CFG p)
  else if p < 8 ∧ o = 0x84 then some (.LOOP_TRACE_TRIG p)
  else if p < 8 ∧ o = 0x88 then some (.LOOP_TRACE_LEVEL p)
  else if p < 8 ∧ o = 0x8c then some (.LOOP_TRACE_CTRL p)
  else if p < 8 ∧ o = 0x90 then some (.LOOP_TRACE_STAT p)
  else if p < 8 ∧ o = 0x400 then some (.LOOP_XCFG p)
  else if p < 8 ∧ o = 0x4c then some (.LOOP_RUNTIME p)
  else if p < 8 ∧ o = 0x50 then some (.LOOP_RUNMAX p)
  else if p < 8 ∧ o = 0x64 then some (.LOOP_EVTEN p)
  else if p < 8 ∧ 0xC0 ≤ o ∧ o < 0x100 then some (.LOOP_TRACE_NODE p ((o - 0xC0) / 4))
  else if p = 8 ∧ o = 0x40 then some (.LOOP_SWAP)
  else if p = 8 ∧ 0x80 ≤ o ∧ o < 0xc0 then some (.LOOP_GRP_CFG ((o - 0x80) / 4))
  else if p = 8 ∧ 0x200 ≤ o ∧ o < 0x400 then some (.LOOP_CONST ((o - 0x200) / 4))
  else if 12 ≤ p ∧ p < 16 ∧ 0x40 ≤ o ∧ o < 0x240 then some (.LOOP_SET (128 * (p - 12) + (o - 0x40) / 4))
  else none

/-- The register of the DMA block at a word offset of one of its pages; none where the offset is reserved. -/
def regAtDMA (p o : Nat) : Option Reg :=
  if p = 0 ∧ o = 0x40 then some (.DMA_CFG)
  else if p = 0 ∧ o = 0x44 then some (.DMA_ERRSUM)
  else if 1 ≤ p ∧ p < 5 ∧ 0x40 ≤ o ∧ o < 0x140 ∧ (o - 0x40) % 0x20 = 0 then some (.DMA_CH_CTRL (8 * (p - 1) + (o - 0x40) / 0x20))
  else if 1 ≤ p ∧ p < 5 ∧ 0x44 ≤ o ∧ o < 0x144 ∧ (o - 0x44) % 0x20 = 0 then some (.DMA_CH_DESC (8 * (p - 1) + (o - 0x44) / 0x20))
  else if 1 ≤ p ∧ p < 5 ∧ 0x48 ≤ o ∧ o < 0x148 ∧ (o - 0x48) % 0x20 = 0 then some (.DMA_CH_BW (8 * (p - 1) + (o - 0x48) / 0x20))
  else if 1 ≤ p ∧ p < 5 ∧ 0x4c ≤ o ∧ o < 0x14c ∧ (o - 0x4c) % 0x20 = 0 then some (.DMA_CH_STAT (8 * (p - 1) + (o - 0x4c) / 0x20))
  else if 1 ≤ p ∧ p < 5 ∧ 0x50 ≤ o ∧ o < 0x150 ∧ (o - 0x50) % 0x20 = 0 then some (.DMA_CH_CUR (8 * (p - 1) + (o - 0x50) / 0x20))
  else if 1 ≤ p ∧ p < 5 ∧ 0x54 ≤ o ∧ o < 0x154 ∧ (o - 0x54) % 0x20 = 0 then some (.DMA_CH_CNT (8 * (p - 1) + (o - 0x54) / 0x20))
  else if 1 ≤ p ∧ p < 5 ∧ 0x58 ≤ o ∧ o < 0x158 ∧ (o - 0x58) % 0x20 = 0 then some (.DMA_CH_EVT (8 * (p - 1) + (o - 0x58) / 0x20))
  else if 1 ≤ p ∧ p < 5 ∧ 0x5c ≤ o ∧ o < 0x15c ∧ (o - 0x5c) % 0x20 = 0 then some (.DMA_CH_EVTEN (8 * (p - 1) + (o - 0x5c) / 0x20))
  else if 1 ≤ p ∧ p < 5 ∧ 0x400 ≤ o ∧ o < 0x420 then some (.DMA_CH_HOPLIM (8 * (p - 1) + (o - 0x400) / 4))
  else none

/-- The register of the IR block at a word offset of one of its pages; none where the offset is reserved. -/
def regAtIR (p o : Nat) : Option Reg :=
  if 1 ≤ p ∧ p < 3 ∧ 0x40 ≤ o ∧ o < 0x240 then some (.IR_SRC_ROUTE (128 * (p - 1) + (o - 0x40) / 4))
  else if p = 0 ∧ 0x40 ≤ o ∧ o < 0x60 then some (.IR_PEND ((o - 0x40) / 4))
  else if p = 0 ∧ o = 0x60 then some (.IR_SWI)
  else if p = 0 ∧ o = 0x80 then some (.IR_ERRNEXT)
  else if p = 0 ∧ 0x100 ≤ o ∧ o < 0x190 ∧ (o - 0x100) % 0x10 = 0 then some (.IR_TGT_THRESH ((o - 0x100) / 0x10))
  else if p = 0 ∧ 0x104 ≤ o ∧ o < 0x194 ∧ (o - 0x104) % 0x10 = 0 then some (.IR_TGT_CLAIM ((o - 0x104) / 0x10))
  else none

/-- The register of the XSPI block at a word offset of one of its pages; none where the offset is reserved. -/
def regAtXSPI (o : Nat) : Option Reg :=
  if o = 0x40 then some (.XSPI_CFG)
  else if o = 0x44 then some (.XSPI_CMD)
  else if o = 0x48 then some (.XSPI_ADDR)
  else if o = 0x4c then some (.XSPI_LEN)
  else if o = 0x50 then some (.XSPI_DATA)
  else if o = 0x54 then some (.XSPI_STAT)
  else if o = 0x58 then some (.XSPI_BANKA)
  else if o = 0x5c then some (.XSPI_BANKB)
  else if o = 0x60 then some (.XSPI_BANKSEL)
  else none

/-- The register of the SVCPORT block at a word offset of one of its pages; none where the offset is reserved. -/
def regAtSVCPORT (o : Nat) : Option Reg :=
  if o = 0x40 then some (.SVCPORT_ID0)
  else if o = 0x44 then some (.SVCPORT_ID1)
  else if o = 0x48 then some (.SVCPORT_ID2)
  else if o = 0x4c then some (.SVCPORT_ID3)
  else if o = 0x50 then some (.SVCPORT_BOOT)
  else if o = 0x54 then some (.SVCPORT_GO)
  else if o = 0x60 then some (.SVCPORT_CAUSE)
  else if o = 0x64 then some (.SVCPORT_STRAP)
  else if o = 0x68 then some (.SVCPORT_ROOTSTAT)
  else if o = 0x70 then some (.SVCPORT_LAST_LO)
  else if o = 0x74 then some (.SVCPORT_LAST_HI)
  else none

/-- The register of the FC block at a word offset of one of its pages; none where the offset is reserved. -/
def regAtFC (o : Nat) : Option Reg :=
  if o = 0x40 then some (.FC_SCORE_LO)
  else if o = 0x44 then some (.FC_SCORE_HI)
  else if o = 0x48 then some (.FC_HELD_LO)
  else if o = 0x4c then some (.FC_HELD_HI)
  else if o = 0x50 then some (.FC_LIVE_LO)
  else if o = 0x54 then some (.FC_LIVE_HI)
  else if o = 0x58 then some (.FC_FORCE_LO)
  else if o = 0x5c then some (.FC_FORCE_HI)
  else if o = 0x60 then some (.FC_QUIET)
  else if o = 0x64 then some (.FC_RECOVERIES)
  else if o = 0x68 then some (.FC_RECOV_CFG)
  else if o = 0x6c then some (.FC_STATE)
  else if o = 0x70 then some (.FC_CTRL)
  else if o = 0x74 then some (.FC_CFG)
  else if o = 0x78 then some (.FC_STAT)
  else if o = 0x80 then some (.FC_LAST_LO)
  else if o = 0x84 then some (.FC_LAST_HI)
  else if o = 0x88 then some (.FC_FIRST)
  else if o = 0x8c then some (.FC_FIRST_NS)
  else if 0x100 ≤ o ∧ o < 0x200 then some (.FC_CLASS ((o - 0x100) / 4))
  else none

/-- The register of the THERM block at a word offset of one of its pages; none where the offset is reserved. -/
def regAtTHERM (o : Nat) : Option Reg :=
  if o = 0x40 then some (.THERM_MAX)
  else if o = 0x44 then some (.THERM_VALID)
  else if o = 0x48 then some (.THERM_ALARM)
  else if o = 0x4c then some (.THERM_THROTTLE)
  else if o = 0x50 then some (.THERM_STAT)
  else if o = 0x54 then some (.THERM_EVT)
  else if o = 0x58 then some (.THERM_EVTEN)
  else if 0x80 ≤ o ∧ o < 0xe0 then some (.THERM_TS ((o - 0x80) / 4))
  else none

/-- The register of the SAFE block at a word offset of one of its pages; none where the offset is reserved. -/
def regAtSAFE (o : Nat) : Option Reg :=
  if o = 0x40 then some (.SAFE_CLAIM_LO)
  else if o = 0x44 then some (.SAFE_CLAIM_HI)
  else if o = 0x48 then some (.SAFE_CLAIM_CTRL)
  else if o = 0x4c then some (.SAFE_CLAIM_STAT)
  else if o = 0x50 then some (.SAFE_SEEN_LO)
  else if o = 0x54 then some (.SAFE_SEEN_HI)
  else if o = 0x60 then some (.SAFE_ALIVE)
  else if o = 0x68 then some (.SAFE_ALIVE_HALF)
  else if o = 0x6c then some (.SAFE_TRIP)
  else if o = 0x70 then some (.SAFE_TRIP_CFG)
  else if o = 0x74 then some (.SAFE_TRIP_STAT)
  else if o = 0x78 then some (.SAFE_BLOCK)
  else if o = 0x64 then some (.SAFE_ALIVE_KICK)
  else if o = 0x7c then some (.SAFE_BLOCK_CFG)
  else if o = 0x80 then some (.SAFE_BLOCK_STAT)
  else none

/-- The register of the KEYS block at a word offset of one of its pages; none where the offset is reserved. -/
def regAtKEYS (p o : Nat) : Option Reg :=
  if p = 0 ∧ o = 0x40 then some (.KEYS_OWNER)
  else if p = 0 ∧ o = 0x44 then some (.KEYS_RB_LO)
  else if p = 0 ∧ o = 0x48 then some (.KEYS_RB_HI)
  else if p = 0 ∧ o = 0x4c then some (.KEYS_PATCH)
  else if p = 0 ∧ o = 0x50 then some (.KEYS_PATCH_STAT)
  else if p = 0 ∧ o = 0x54 then some (.KEYS_OTP_CTRL)
  else if p = 0 ∧ o = 0x58 then some (.KEYS_OTP_STAT)
  else if p = 0 ∧ 0x80 ≤ o ∧ o < 0xa0 then some (.KEYS_DIK_HASH ((o - 0x80) / 4))
  else if p = 1 ∧ o = 0x40 then some (.KEYS_V_ADDR)
  else if p = 1 ∧ o = 0x44 then some (.KEYS_V_LEN)
  else if p = 1 ∧ o = 0x48 then some (.KEYS_V_CTRL)
  else if p = 1 ∧ o = 0x4c then some (.KEYS_V_STAT)
  else if p = 1 ∧ o = 0x50 then some (.KEYS_V_INFO)
  else if p = 1 ∧ o = 0x54 then some (.KEYS_V_VER)
  else if p = 1 ∧ o = 0x58 then some (.KEYS_V_LOAD)
  else if p = 1 ∧ o = 0x5c then some (.KEYS_V_ARG)
  else if p = 1 ∧ o = 0x60 then some (.KEYS_V_PLEN)
  else if p = 1 ∧ 0x80 ≤ o ∧ o < 0xa0 then some (.KEYS_V_PDIG ((o - 0x80) / 4))
  else if p = 1 ∧ 0xa0 ≤ o ∧ o < 0xc0 then some (.KEYS_V_HDIG ((o - 0xa0) / 4))
  else if p = 2 ∧ 0x40 ≤ o ∧ o < 0x60 then some (.KEYS_A_NONCE ((o - 0x40) / 4))
  else if p = 2 ∧ o = 0x60 then some (.KEYS_A_DST)
  else if p = 2 ∧ o = 0x64 then some (.KEYS_A_CTRL)
  else if p = 2 ∧ o = 0x68 then some (.KEYS_A_STAT)
  else if p = 2 ∧ 0x100 ≤ o ∧ o < 0x2c0 ∧ (o - 0x100) % 0x40 = 0 then some (.KEYS_MEAS_VER ((o - 0x100) / 0x40))
  else if p = 2 ∧ 0x104 ≤ o ∧ o < 0x2c4 ∧ (o - 0x104) % 0x40 = 0 then some (.KEYS_MEAS_INFO ((o - 0x104) / 0x40))
  else if p = 2 ∧ 0x100 ≤ o ∧ o < 0x2C0 ∧ 8 ≤ (o - 0x100) % 0x40 ∧ (o - 0x100) % 0x40 < 0x28 then some (.KEYS_MEAS_DIG ((o - 0x100) / 0x40) (((o - 0x100) % 0x40 - 8) / 4))
  else none

/-- The register of the PROT block at a word offset of one of its pages; none where the offset is reserved. -/
def regAtPROT (o : Nat) : Option Reg :=
  if o = 0x40 then some (.PROT_STAT)
  else if o = 0x44 then some (.PROT_CTRL)
  else none

/-- The register at word offset `o` of page `pg`; none where the offset is reserved. -/
def Page.regAt (pg : Page) (o : Nat) : Option Reg :=
  if o < 0x40 then pg.headerAt o else
  match pg with
  | .SYS q => regAtSYS q o
  | .CLK => regAtCLK o
  | .PWR => regAtPWR o
  | .RST => regAtRST o
  | .TIME q => regAtTIME q o
  | .STATION q => regAtSTATION q o
  | .TANDEM q => regAtTANDEM q o
  | .RIM q => regAtRIM q o
  | .SPOKE q => regAtSPOKE q o
  | .EDGE q => regAtEDGE q o
  | .ADC q => regAtADC q o
  | .LOOP q => regAtLOOP q o
  | .DMA q => regAtDMA q o
  | .IR q => regAtIR q o
  | .XSPI => regAtXSPI o
  | .SVCPORT => regAtSVCPORT o
  | .FC => regAtFC o
  | .THERM => regAtTHERM o
  | .SAFE => regAtSAFE o
  | .KEYS q => regAtKEYS q o
  | .PROT => regAtPROT o

/-- The register at an address: none outside the pages of R25, and none at a reserved offset. -/
def regAt (a : Nat) : Option Reg :=
  match Page.atAddr a with
  | none => none
  | some pg => pg.regAt (a % 0x1000 / 4 * 4)

end Sys2Proof.Machine
end

