-- ==== Sys2Proof/Machine/RegFields.lean ====
section
/-!
DEFINITION. Sys2Proof/Machine/RegFields.lean: the fields of every register with the bits, access code, reset value
and Kept-by letters that its register table gives. Reserved bits are listed nowhere: they read 0 and ignore writes (R3).
-/
namespace Sys2Proof.Machine

/-- The reset dividers of PLL-M's outputs (R59). -/
def outDivReset (n : Nat) : Nat := [4, 5, 10, 20, 40, 25, 32, 25].getD n 0

/-- Whether interrupt source `s` is a level source (R44). A GPIO source is taken as a level source (assumption 12).
(PRESUMED, log 12.) -/
def srcLevel (s : Nat) : Nat :=
  if s < 32 ∨ (66 ≤ s ∧ s ≤ 73) ∨ (106 ≤ s ∧ s ≤ 108) ∨ (117 ≤ s ∧ s ≤ 119) ∨ s = 123 ∨ s = 124
    ∨ (129 ≤ s ∧ s ≤ 131) ∨ s = 134 ∨ (141 ≤ s ∧ s ≤ 182) then 1 else 0

/-- The fixed minimum class of a Scoreboard source (R276). -/
def srcMinClass (n : Nat) : Nat := if n = 49 then 7 else if n = 56 then 5 else 0

/-- The reset class of a Scoreboard source (R276). -/
def srcResetClass (n : Nat) : Nat :=
  if n = 43 then 0
  else if n = 34 ∨ n = 37 ∨ n = 38 ∨ n = 48 ∨ n = 51 ∨ n = 53 then 2
  else if n = 50 then 3
  else if n = 52 then 4
  else if n = 56 then 5
  else if n = 49 then 7
  else 1

/-- Kept by no reset. -/
def kNone : List Keep := []
/-- Kept by B. -/
def kB : List Keep := [.B]
/-- Kept by B L. -/
def kBL : List Keep := [.B, .L]
/-- Kept by B V L. -/
def kBVL : List Keep := [.B, .V, .L]
/-- Kept by P H S V B L. -/
def kPHSVBL : List Keep := [.P, .H, .S, .V, .B, .L]
/-- Kept by S V B L. -/
def kSVBL : List Keep := [.S, .V, .B, .L]
/-- Kept by S V L. -/
def kSVL : List Keep := [.S, .V, .L]
/-- Kept by V B L. -/
def kVBL : List Keep := [.V, .B, .L]
/-- Kept by V L. -/
def kVL : List Keep := [.V, .L]

/-- The fields of a register, from its register table. (PRESUMED, log 12.) -/
def Reg.fields : Reg → List Field
  | .PG_ID p => [
      ⟨31, 16, .RO, p.typeCode, kPHSVBL⟩, ⟨15, 8, .RO, p.inst, kPHSVBL⟩, ⟨7, 0, .RO, p.number, kPHSVBL⟩]
  | .PG_VER _ => [
      ⟨31, 16, .RO, 1, kPHSVBL⟩, ⟨15, 0, .RO, 0, kPHSVBL⟩]
  | .PG_CTRL _ => [
      ⟨2, 2, .W1C, 0, kNone⟩, ⟨1, 1, .W1S, 0, kNone⟩, ⟨0, 0, .RW, 0, kB⟩]
  | .PG_STAT _ => [
      ⟨31, 16, .RO, 0, kNone⟩, ⟨2, 2, .RO, 0, kNone⟩, ⟨1, 1, .RO, 0, kNone⟩, ⟨0, 0, .RO, 0, kNone⟩]
  | .PG_ERR _ => [
      ⟨31, 16, .W1C, 0, kNone⟩, ⟨2, 2, .W1C, 0, kNone⟩, ⟨1, 1, .W1C, 0, kNone⟩, ⟨0, 0, .W1C, 0, kNone⟩]
  | .PG_ERRFORCE _ => [
      ⟨31, 16, .W1S, 0, kNone⟩, ⟨2, 2, .W1S, 0, kNone⟩, ⟨1, 1, .W1S, 0, kNone⟩, ⟨0, 0, .W1S, 0, kNone⟩]
  | .PG_ERREN _ => [
      ⟨31, 16, .RW, 0, kB⟩, ⟨2, 2, .RW, 0, kB⟩, ⟨1, 1, .RW, 0, kB⟩, ⟨0, 0, .RW, 0, kB⟩]
  | .PG_PROG _ => [
      ⟨31, 16, .RO, 0, kNone⟩, ⟨15, 8, .RO, 0, kNone⟩, ⟨7, 0, .RO, 0, kNone⟩]
  | .PG_KEY _ => [
      ⟨31, 0, .WO, 0, kNone⟩]
  | .PG_LOCK _ => [
      ⟨2, 2, .W1S, 0, kB⟩, ⟨1, 1, .W1S, 0, kB⟩, ⟨0, 0, .W1S, 0, kB⟩]
  | .CLK_OUT_CFG n => [
      ⟨16, 16, .RW, 1, kPHSVBL⟩, ⟨15, 8, .RW, 0, kPHSVBL⟩, ⟨7, 0, .RW, outDivReset n, kPHSVBL⟩]
  | .TIME_ALARM_NS _ => [
      ⟨29, 0, .RW, 0, kNone⟩]
  | .TIME_ALARM_SEC_LO _ => [
      ⟨31, 0, .RW, 0, kNone⟩]
  | .TIME_ALARM_SEC_HI _ => [
      ⟨31, 0, .RW, 0, kNone⟩]
  | .TIME_ALARM_CTRL _ => [
      ⟨31, 16, .RW, 0, kNone⟩, ⟨13, 13, .RW, 0, kNone⟩, ⟨12, 8, .RW, 0, kNone⟩, ⟨3, 1, .RW, 0, kNone⟩,
      ⟨0, 0, .RW, 0, kNone⟩]
  | .TIME_PORT_CFG _ => [
      ⟨4, 4, .RW, 0, kNone⟩, ⟨3, 3, .RW, 0, kNone⟩, ⟨2, 2, .RW, 0, kNone⟩, ⟨1, 1, .RW, 0, kNone⟩,
      ⟨0, 0, .RW, 0, kNone⟩]
  | .TIME_PORT_TXLAT _ => [
      ⟨19, 0, .RW, 0, kPHSVBL⟩]
  | .TIME_PORT_RXLAT _ => [
      ⟨19, 0, .RW, 0, kPHSVBL⟩]
  | .TIME_PORT_ASYM _ => [
      ⟨31, 0, .RW, 0, kPHSVBL⟩]
  | .TIME_PORT_LINKDLY _ => [
      ⟨31, 0, .RW, 0, kNone⟩]
  | .TIME_PORT_TSQ_STAT _ => [
      ⟨31, 16, .RO, 0, kNone⟩, ⟨6, 0, .RO, 0, kNone⟩]
  | .TIME_PORT_TSQ_W0 _ => [
      ⟨31, 31, .RO, 0, kNone⟩, ⟨29, 0, .RO, 0, kNone⟩]
  | .TIME_PORT_TSQ_W1 _ => [
      ⟨31, 0, .RO, 0, kNone⟩]
  | .TIME_PORT_TSQ_W2 _ => [
      ⟨31, 16, .RO, 0, kNone⟩, ⟨15, 0, .RO, 0, kNone⟩]
  | .TIME_PORT_TSQ_W3 _ => [
      ⟨27, 20, .RO, 0, kNone⟩, ⟨19, 16, .RO, 0, kNone⟩, ⟨15, 0, .RO, 0, kNone⟩]
  | .TIME_PORT_TC_CNT _ => [
      ⟨31, 16, .RO, 0, kNone⟩, ⟨15, 0, .RO, 0, kNone⟩]
  | .STATION_PORT_CFG _ => [
      ⟨3, 3, .RW, 1, kVL⟩, ⟨2, 2, .RW, 0, kVL⟩, ⟨1, 1, .RW, 0, kVL⟩, ⟨0, 0, .RW, 0, kVL⟩]
  | .STATION_PORT_STAT _ => [
      ⟨2, 2, .RO, 0, kNone⟩, ⟨1, 1, .RO, 0, kNone⟩, ⟨0, 0, .RO, 0, kNone⟩]
  | .STATION_PORT_MAC_LO _ => [
      ⟨31, 0, .RW, 0, kVL⟩]
  | .STATION_PORT_MAC_HI _ => [
      ⟨31, 0, .RW, 0, kVL⟩]
  | .STATION_PORT_FIFO _ => [
      ⟨30, 16, .RO, 0x4000, kNone⟩, ⟨8, 0, .RO, 0, kNone⟩]
  | .STATION_PORT_EVT _ => [
      ⟨4, 4, .W1C, 0, kNone⟩, ⟨3, 3, .W1C, 0, kNone⟩, ⟨2, 2, .W1C, 0, kNone⟩, ⟨1, 1, .W1C, 0, kNone⟩,
      ⟨0, 0, .W1C, 0, kNone⟩]
  | .STATION_PORT_EVTEN _ => [
      ⟨4, 4, .RW, 0, kVL⟩, ⟨3, 3, .RW, 0, kVL⟩, ⟨2, 2, .RW, 0, kVL⟩, ⟨1, 1, .RW, 0, kVL⟩, ⟨0, 0, .RW, 0, kVL⟩]
  | .STATION_PORT_RXD0 _ => [
      ⟨31, 0, .RO, 0, kNone⟩]
  | .STATION_PORT_RXD1 _ => [
      ⟨31, 0, .RO, 0, kNone⟩]
  | .STATION_PORT_RXD2 _ => [
      ⟨31, 0, .RO, 0, kNone⟩]
  | .STATION_PORT_RXD3 _ => [
      ⟨31, 0, .RO, 0, kNone⟩]
  | .STATION_PORT_RXDATA _ => [
      ⟨31, 0, .RO, 0, kNone⟩]
  | .STATION_PORT_TXD0 _ => [
      ⟨31, 0, .RW, 0, kNone⟩]
  | .STATION_PORT_TXD1 _ => [
      ⟨31, 0, .RW, 0, kNone⟩]
  | .STATION_PORT_TXD2 _ => [
      ⟨31, 0, .RW, 0, kNone⟩]
  | .STATION_PORT_TXDATA _ => [
      ⟨31, 0, .WO, 0, kNone⟩]
  | .STATION_PORT_CNT0 _ => [
      ⟨31, 16, .RO, 0, kNone⟩, ⟨15, 0, .RO, 0, kNone⟩]
  | .STATION_PORT_CNT1 _ => [
      ⟨31, 16, .RO, 0, kNone⟩, ⟨15, 0, .RO, 0, kNone⟩]
  | .STATION_SUB_CFG _ => [
      ⟨31, 31, .RW, 0, kVL⟩, ⟨30, 30, .RW, 0, kVL⟩, ⟨29, 29, .RW, 0, kVL⟩, ⟨27, 24, .RW, 4, kVL⟩,
      ⟨23, 20, .RW, 8, kVL⟩, ⟨15, 0, .RW, 0x4000, kVL⟩]
  | .STATION_SUB_MAC_LO _ => [
      ⟨31, 0, .RW, 0, kVL⟩]
  | .STATION_SUB_MAC_HI _ => [
      ⟨31, 0, .RW, 0, kVL⟩]
  | .STATION_SUB_IDCRC _ => [
      ⟨31, 0, .RW, 0, kVL⟩]
  | .STATION_SUB_CONFREV _ => [
      ⟨31, 0, .RW, 0, kVL⟩]
  | .STATION_SUB_CSCALE _ => [
      ⟨31, 0, .RW, 0x3A83126F, kVL⟩]
  | .STATION_SUB_VSCALE _ => [
      ⟨31, 0, .RW, 0x3C23D70A, kVL⟩]
  | .STATION_SUB_TIMING _ => [
      ⟨31, 16, .RW, 0xfa0, kVL⟩, ⟨15, 0, .RW, 0x3e8, kVL⟩]
  | .STATION_SUB_STAT _ => [
      ⟨31, 31, .RO, 0, kNone⟩, ⟨29, 28, .RO, 0, kNone⟩, ⟨23, 16, .RO, 0, kNone⟩, ⟨15, 0, .RO, 0, kNone⟩]
  | .STATION_SUB_LOST _ => [
      ⟨23, 0, .RO, 0, kNone⟩]
  | .STATION_SUB_RING _ _ => [
      ⟨31, 0, .RO, 0, kNone⟩]
  | .STATION_GSUB_CFG _ => [
      ⟨31, 31, .RW, 0, kVL⟩, ⟨30, 30, .RW, 0, kVL⟩, ⟨29, 29, .RW, 0, kVL⟩, ⟨28, 28, .RW, 0, kVL⟩,
      ⟨15, 0, .RW, 0, kVL⟩]
  | .STATION_GSUB_MAC_LO _ => [
      ⟨31, 0, .RW, 0, kVL⟩]
  | .STATION_GSUB_MAC_HI _ => [
      ⟨31, 0, .RW, 0, kVL⟩]
  | .STATION_GSUB_REFCRC _ => [
      ⟨31, 0, .RW, 0, kVL⟩]
  | .STATION_GSUB_CONFREV _ => [
      ⟨31, 0, .RW, 0, kVL⟩]
  | .STATION_GSUB_DEFAULT _ => [
      ⟨31, 0, .RW, 0, kVL⟩]
  | .STATION_GSUB_BITS _ => [
      ⟨31, 0, .RO, 0, kNone⟩]
  | .STATION_GSUB_STAT _ => [
      ⟨31, 31, .RO, 0, kNone⟩, ⟨30, 30, .RO, 0, kNone⟩, ⟨29, 29, .RO, 0, kNone⟩, ⟨23, 16, .RO, 0, kNone⟩,
      ⟨15, 0, .RO, 0, kNone⟩]
  | .STATION_PUB_CTRL _ => [
      ⟨31, 23, .RW, 0, kVL⟩, ⟨19, 16, .RW, 2, kVL⟩, ⟨13, 8, .RW, 0, kVL⟩, ⟨3, 3, .RW, 1, kVL⟩,
      ⟨2, 2, .RW, 1, kVL⟩, ⟨1, 1, .SRW, 0, kVL⟩, ⟨0, 0, .RW, 0, kVL⟩]
  | .STATION_PUB_TIMING _ => [
      ⟨31, 16, .RW, 0x3e8, kVL⟩, ⟨15, 0, .RW, 0x7d0, kVL⟩]
  | .STATION_PUB_DATA _ => [
      ⟨31, 0, .RW, 0, kVL⟩]
  | .STATION_PUB_STNUM _ => [
      ⟨31, 0, .RO, 0, kNone⟩]
  | .STATION_PUB_SQNUM _ => [
      ⟨31, 0, .RO, 0, kNone⟩]
  | .STATION_PUB_TPL _ _ => [
      ⟨31, 0, .RW, 0, kVL⟩]
  | .STATION_SES_CTRL _ => [
      ⟨31, 16, .RW, 0, kNone⟩, ⟨2, 2, .RW, 0, kNone⟩, ⟨1, 1, .RW, 0, kNone⟩, ⟨0, 0, .RW, 0, kNone⟩]
  | .STATION_SES_PEER_LO _ => [
      ⟨31, 0, .RW, 0, kNone⟩]
  | .STATION_SES_PEER_HI _ => [
      ⟨31, 0, .RW, 0, kNone⟩]
  | .STATION_SES_SALT _ => [
      ⟨31, 0, .RW, 0, kNone⟩]
  | .STATION_SES_WBASE _ => [
      ⟨31, 0, .RW, 0, kNone⟩]
  | .STATION_SES_WSIZE _ => [
      ⟨31, 0, .RW, 0, kNone⟩]
  | .STATION_SES_SEQ_LO _ => [
      ⟨31, 0, .RO, 0, kNone⟩]
  | .STATION_SES_SEQ_HI _ => [
      ⟨31, 0, .RO, 0, kNone⟩]
  | .STATION_SES_STAT _ => [
      ⟨31, 24, .RO, 0, kNone⟩, ⟨23, 16, .RO, 0, kNone⟩, ⟨15, 8, .RO, 0, kNone⟩, ⟨7, 0, .RO, 0, kNone⟩]
  | .STATION_SES_KEY _ _ => [
      ⟨31, 0, .WO, 0, kNone⟩]
  | .TANDEM_TRANS _ => [
      ⟨31, 31, .RO, 0, kNone⟩, ⟨15, 0, .RO, 0, kNone⟩]
  | .RIM_CTRL _ => [
      ⟨11, 11, .RW, 1, kSVL⟩, ⟨10, 10, .RW, 0, kSVL⟩, ⟨9, 9, .RW, 0, kSVL⟩, ⟨8, 8, .W1S, 0, kNone⟩,
      ⟨3, 0, .RW, 8, kSVL⟩]
  | .RIM_STAT _ => [
      ⟨15, 12, .RO, 0, kNone⟩, ⟨11, 8, .RO, 0, kNone⟩, ⟨6, 6, .RO, 0, kNone⟩, ⟨5, 5, .RO, 0, kNone⟩,
      ⟨4, 4, .RO, 0, kNone⟩, ⟨3, 3, .RO, 0, kNone⟩, ⟨2, 2, .RO, 0, kNone⟩, ⟨1, 1, .RO, 0, kNone⟩,
      ⟨0, 0, .RO, 0, kNone⟩]
  | .RIM_LATENCY _ => [
      ⟨16, 16, .RO, 0, kVL⟩, ⟨15, 0, .RO, 0, kVL⟩]
  | .RIM_TCFG _ => [
      ⟨31, 16, .RW, 0x1388, kSVL⟩, ⟨15, 15, .RW, 0, kSVL⟩, ⟨8, 0, .RW, 0, kSVL⟩]
  | .RIM_PEER_CLAIM_LO _ => [
      ⟨31, 0, .RO, 0, kVL⟩]
  | .RIM_PEER_CLAIM_HI _ => [
      ⟨31, 0, .RO, 0, kVL⟩]
  | .RIM_CNT _ => [
      ⟨31, 16, .RO, 0, kNone⟩, ⟨15, 0, .RO, 0, kNone⟩]
  | .RIM_EVT _ => [
      ⟨6, 6, .W1C, 0, kNone⟩, ⟨5, 5, .W1C, 0, kNone⟩, ⟨4, 4, .W1C, 0, kNone⟩, ⟨3, 3, .W1C, 0, kNone⟩,
      ⟨2, 2, .W1C, 0, kNone⟩, ⟨1, 1, .W1C, 0, kNone⟩, ⟨0, 0, .W1C, 0, kNone⟩]
  | .RIM_FW_SRC _ => [
      ⟨31, 0, .RW, 0, kNone⟩]
  | .RIM_FW_LEN _ => [
      ⟨31, 0, .RW, 0, kNone⟩]
  | .RIM_FW_CTRL _ => [
      ⟨10, 10, .W1S, 0, kNone⟩, ⟨9, 9, .W1S, 0, kNone⟩, ⟨8, 8, .W1S, 0, kNone⟩, ⟨7, 0, .RW, 0, kNone⟩]
  | .RIM_FW_STAT _ => [
      ⟨15, 8, .RO, 0, kNone⟩, ⟨7, 0, .RO, 0, kNone⟩]
  | .RIM_XCFG _ => [
      ⟨31, 24, .RWE, 8, kSVL⟩, ⟨23, 16, .RWE, 0x14, kSVL⟩, ⟨15, 8, .RWE, 0xa, kSVL⟩, ⟨7, 0, .RWE, 0x10, kSVL⟩]
  | .RIM_EVTEN _ => [
      ⟨6, 6, .RW, 0, kSVL⟩, ⟨5, 5, .RW, 0, kSVL⟩, ⟨4, 4, .RW, 0, kSVL⟩, ⟨3, 3, .RW, 0, kSVL⟩,
      ⟨2, 2, .RW, 0, kSVL⟩, ⟨1, 1, .RW, 0, kSVL⟩, ⟨0, 0, .RW, 0, kSVL⟩]
  | .RIM_FW_DIGEST _ _ => [
      ⟨31, 0, .RW, 0, kNone⟩]
  | .SPOKE_STATE _ => [
      ⟨7, 4, .RO, 0, kVL⟩, ⟨2, 0, .RO, 0, kVL⟩]
  | .SPOKE_CTRL _ => [
      ⟨3, 3, .W1S, 0, kNone⟩, ⟨2, 2, .W1S, 0, kNone⟩, ⟨1, 1, .W1S, 0, kNone⟩, ⟨0, 0, .W1S, 0, kNone⟩]
  | .SPOKE_UID_LO _ => [
      ⟨31, 0, .RO, 0, kVL⟩]
  | .SPOKE_UID_HI _ => [
      ⟨31, 0, .RO, 0, kVL⟩]
  | .SPOKE_TYPE _ => [
      ⟨31, 0, .RO, 0, kVL⟩]
  | .SPOKE_SAFE_STATE _ => [
      ⟨0, 0, .RW, 1, kSVL⟩]
  | .SPOKE_WDOG _ => [
      ⟨23, 16, .RW, 0x14, kSVL⟩, ⟨15, 0, .RW, 0x1f40, kSVL⟩]
  | .SPOKE_DLY _ => [
      ⟨31, 0, .RO, 0, kVL⟩]
  | .SPOKE_HOPDLY _ => [
      ⟨31, 0, .RO, 0, kVL⟩]
  | .SPOKE_CLAIM_LO _ => [
      ⟨31, 0, .RO, 0, kVL⟩]
  | .SPOKE_CLAIM_HI _ => [
      ⟨31, 0, .RO, 0, kVL⟩]
  | .SPOKE_FAULT _ => [
      ⟨31, 0, .RO, 0, kVL⟩]
  | .SPOKE_FWVER _ => [
      ⟨31, 0, .RO, 0, kVL⟩]
  | .SPOKE_NSTAT _ => [
      ⟨31, 0, .RO, 0, kVL⟩]
  | .SPOKE_XUID_LO _ => [
      ⟨31, 0, .RWE, 0, kSVL⟩]
  | .SPOKE_XUID_HI _ => [
      ⟨31, 0, .RWE, 0, kSVL⟩]
  | .SPOKE_XTYPE _ => [
      ⟨31, 0, .RWE, 0, kSVL⟩]
  | .SPOKE_ASYM _ => [
      ⟨31, 0, .RWE, 0, kSVL⟩]
  | .SPOKE_PAR _ _ => [
      ⟨31, 0, .RWE, 0, kSVL⟩]
  | .EDGE_DTP_A _ => [
      ⟨31, 24, .RWE, 8, kVL⟩, ⟨18, 16, .RWE, 2, kVL⟩, ⟨15, 8, .RWE, 0x10, kVL⟩, ⟨7, 0, .RWE, 0x14, kVL⟩]
  | .EDGE_DTP_B _ => [
      ⟨7, 0, .RWE, 5, kVL⟩]
  | .EDGE_CAR_PERIOD _ => [
      ⟨23, 0, .RW, 0xc350, kVL⟩]
  | .EDGE_CAR_CTRL _ => [
      ⟨13, 8, .RW, 0, kVL⟩, ⟨2, 2, .RW, 0, kVL⟩, ⟨1, 1, .RW, 0, kVL⟩, ⟨0, 0, .RW, 0, kVL⟩]
  | .EDGE_CAR_START_NS _ => [
      ⟨31, 0, .RW, 0, kVL⟩]
  | .EDGE_CAR_START_SEC _ => [
      ⟨31, 0, .RW, 0, kVL⟩]
  | .EDGE_CAR_XFER _ => [
      ⟨31, 0, .WO, 0, kNone⟩]
  | .EDGE_CAR_STAT _ => [
      ⟨31, 8, .RO, 0, kNone⟩, ⟨2, 2, .RO, 0, kNone⟩, ⟨1, 1, .RO, 0, kNone⟩, ⟨0, 0, .RO, 0, kNone⟩]
  | .EDGE_CAR_PSTART_NS _ => [
      ⟨31, 0, .RO, 0, kNone⟩]
  | .EDGE_CAR_PSTART_SEC _ => [
      ⟨31, 0, .RO, 0, kNone⟩]
  | .EDGE_TRG_CMP _ => [
      ⟨31, 31, .RW, 0, kVL⟩, ⟨30, 24, .RW, 0, kVL⟩, ⟨23, 0, .RW, 0, kVL⟩]
  | .EDGE_LEG_DUTY _ => [
      ⟨23, 0, .RW, 0, kVL⟩]
  | .EDGE_LEG_OFFSET _ => [
      ⟨23, 0, .RW, 0, kVL⟩]
  | .EDGE_LEG_DT _ => [
      ⟨18, 16, .RW, 0, kVL⟩, ⟨12, 12, .RW, 0, kVL⟩, ⟨11, 0, .RW, 0x1f4, kVL⟩]
  | .EDGE_LEG_MINP _ => [
      ⟨13, 12, .RW, 0, kVL⟩, ⟨11, 0, .RW, 0xc8, kVL⟩]
  | .EDGE_LEG_CTRL _ => [
      ⟨13, 8, .RW, 0, kVL⟩, ⟨0, 0, .RW, 0, kVL⟩]
  | .EDGE_LEG_DTLIM _ => [
      ⟨27, 16, .RWE, 0x3e8, kVL⟩, ⟨11, 0, .RWE, 0x14, kVL⟩]
  | .EDGE_LEG_ADT _ => [
      ⟨29, 29, .RO, 0, kVL⟩, ⟨28, 28, .RO, 0, kVL⟩, ⟨27, 16, .RO, 0x1f4, kVL⟩, ⟨13, 13, .RO, 0, kVL⟩,
      ⟨12, 12, .RO, 0, kVL⟩, ⟨11, 0, .RO, 0x1f4, kVL⟩]
  | .EDGE_LEG_DSTAT _ => [
      ⟨26, 24, .RO, 0, kNone⟩, ⟨23, 16, .RO, 0, kNone⟩, ⟨15, 8, .RO, 0, kNone⟩, ⟨7, 0, .RO, 0, kNone⟩]
  | .EDGE_LEG_PSTAT _ => [
      ⟨15, 8, .RO, 0, kNone⟩, ⟨7, 0, .RO, 0, kNone⟩]
  | .EDGE_LEG_CARRY _ => [
      ⟨28, 16, .RO, 0, kNone⟩, ⟨12, 0, .RO, 0, kNone⟩]
  | .EDGE_LEG_ESEQ _ => [
      ⟨17, 16, .RO, 2, kNone⟩, ⟨15, 0, .RO, 0, kNone⟩]
  | .ADC_CTRL _ => [
      ⟨12, 12, .RW, 1, kVL⟩, ⟨10, 10, .W1S, 0, kNone⟩, ⟨9, 9, .W1S, 0, kNone⟩, ⟨8, 8, .RW, 0, kVL⟩,
      ⟨6, 4, .RW, 1, kVL⟩, ⟨1, 0, .RW, 0, kVL⟩]
  | .ADC_SEL _ => [
      ⟨31, 31, .RO, 1, kNone⟩, ⟨15, 15, .RW, 0, kNone⟩, ⟨14, 14, .RW, 0, kNone⟩, ⟨13, 8, .RW, 0, kNone⟩,
      ⟨6, 0, .RW, 0x52, kNone⟩]
  | .ADC_QSTAT _ => [
      ⟨3, 0, .RO, 0, kNone⟩]
  | .ADC_INJ _ => [
      ⟨31, 31, .RO, 0, kNone⟩, ⟨13, 8, .RW, 0, kNone⟩, ⟨6, 0, .RW, 0, kNone⟩]
  | .ADC_INJRES _ => [
      ⟨31, 0, .RO, 0, kNone⟩]
  | .ADC_INJTS _ => [
      ⟨31, 0, .RO, 0, kNone⟩]
  | .ADC_FMT _ => [
      ⟨4, 4, .RW, 0, kVL⟩, ⟨2, 2, .RW, 0, kVL⟩, ⟨1, 0, .RW, 0, kVL⟩]
  | .ADC_RES _ => [
      ⟨31, 0, .RO, 0, kNone⟩]
  | .ADC_FSTAT _ => [
      ⟨31, 16, .RO, 0, kNone⟩, ⟨5, 0, .RO, 0, kNone⟩]
  | .ADC_CAL _ => [
      ⟨9, 8, .RO, 0, kNone⟩, ⟨2, 2, .RO, 0, kNone⟩, ⟨1, 1, .RO, 0, kNone⟩, ⟨0, 0, .W1S, 0, kNone⟩]
  | .ADC_STAT _ => [
      ⟨31, 24, .RO, 0, kNone⟩, ⟨3, 3, .RO, 0, kNone⟩, ⟨2, 2, .RO, 0, kNone⟩, ⟨1, 1, .RO, 0, kNone⟩,
      ⟨0, 0, .RO, 0, kNone⟩]
  | .ADC_EVT _ => [
      ⟨6, 6, .W1C, 0, kNone⟩, ⟨5, 5, .W1C, 0, kNone⟩, ⟨4, 4, .W1C, 0, kNone⟩, ⟨3, 3, .W1C, 0, kNone⟩,
      ⟨2, 2, .W1C, 0, kNone⟩, ⟨1, 1, .W1C, 0, kNone⟩, ⟨0, 0, .W1C, 0, kNone⟩]
  | .ADC_XCFG _ => [
      ⟨0, 0, .RWE, 0, kVL⟩]
  | .ADC_CALVAL _ => [
      ⟨31, 16, .RO, 0x8000, kPHSVBL⟩, ⟨15, 0, .RO, 0, kPHSVBL⟩]
  | .ADC_EVTEN _ => [
      ⟨6, 6, .RW, 0, kVL⟩, ⟨5, 5, .RW, 0, kVL⟩, ⟨4, 4, .RW, 0, kVL⟩, ⟨3, 3, .RW, 0, kVL⟩,
      ⟨2, 2, .RW, 0, kVL⟩, ⟨1, 1, .RW, 0, kVL⟩, ⟨0, 0, .RW, 0, kVL⟩]
  | .ADC_PAIR_TOL _ => [
      ⟨16, 16, .RW, 1, kVL⟩, ⟨15, 0, .RW, 0x40, kVL⟩]
  | .ADC_DAC _ => [
      ⟨21, 16, .RW, 0, kNone⟩, ⟨13, 12, .RW, 0, kNone⟩, ⟨11, 0, .RW, 0x800, kNone⟩]
  | .ADC_DIAG_CFG _ => [
      ⟨0, 0, .RW, 0, kNone⟩]
  | .ADC_PEVT _ => [
      ⟨3, 3, .W1C, 0, kNone⟩, ⟨2, 2, .W1C, 0, kNone⟩, ⟨1, 1, .W1C, 0, kNone⟩, ⟨0, 0, .W1C, 0, kNone⟩]
  | .ADC_DIAG_LO _ => [
      ⟨31, 0, .RW, 0, kNone⟩]
  | .ADC_DIAG_HI _ => [
      ⟨31, 0, .RW, 0xFFFF, kNone⟩]
  | .ADC_PSTAT _ => [
      ⟨31, 16, .RO, 0, kNone⟩, ⟨15, 8, .RO, 0, kNone⟩, ⟨7, 0, .RO, 0, kNone⟩]
  | .ADC_PEVTEN _ => [
      ⟨3, 3, .RW, 0, kVL⟩, ⟨2, 2, .RW, 0, kVL⟩, ⟨1, 1, .RW, 0, kVL⟩, ⟨0, 0, .RW, 0, kVL⟩]
  | .ADC_CHRES _ => [
      ⟨31, 0, .RO, 0, kNone⟩]
  | .ADC_CHTS _ => [
      ⟨31, 0, .RO, 0, kNone⟩]
  | .LOOP_CTRL _ => [
      ⟨24, 16, .RW, 0, kVL⟩, ⟨12, 8, .RW, 0, kVL⟩, ⟨5, 4, .RW, 0, kVL⟩, ⟨1, 1, .W1S, 0, kNone⟩,
      ⟨0, 0, .RW, 0, kVL⟩]
  | .LOOP_STAT _ => [
      ⟨24, 16, .RO, 0, kNone⟩, ⟨11, 11, .W1C, 0, kNone⟩, ⟨10, 10, .W1C, 0, kNone⟩, ⟨9, 9, .W1C, 0, kNone⟩,
      ⟨8, 8, .RO, 0, kNone⟩, ⟨2, 2, .RO, 0, kNone⟩, ⟨1, 1, .RO, 0, kNone⟩]
  | .LOOP_DEADLINE _ => [
      ⟨17, 0, .RW, 0xafc8, kVL⟩]
  | .LOOP_CNT _ => [
      ⟨31, 16, .RO, 0, kNone⟩, ⟨15, 0, .RO, 0, kNone⟩]
  | .LOOP_MISSINFO _ => [
      ⟨31, 16, .RO, 0, kNone⟩, ⟨8, 0, .RO, 0, kNone⟩]
  | .LOOP_NANINFO _ => [
      ⟨31, 31, .W1C, 0, kNone⟩, ⟨27, 16, .RO, 0, kNone⟩, ⟨9, 0, .RO, 0, kNone⟩]
  | .LOOP_EVT _ => [
      ⟨6, 6, .W1C, 0, kNone⟩, ⟨5, 5, .W1C, 0, kNone⟩, ⟨4, 4, .W1C, 0, kNone⟩, ⟨3, 3, .W1C, 0, kNone⟩,
      ⟨2, 2, .W1C, 0, kNone⟩, ⟨1, 1, .W1C, 0, kNone⟩, ⟨0, 0, .W1C, 0, kNone⟩]
  | .LOOP_TRACE_CFG _ => [
      ⟨31, 16, .RW, 0, kVL⟩, ⟨15, 8, .RW, 1, kVL⟩, ⟨4, 0, .RW, 1, kVL⟩]
  | .LOOP_TRACE_TRIG _ => [
      ⟨13, 8, .RW, 0, kVL⟩, ⟨7, 4, .RW, 0, kVL⟩, ⟨3, 2, .RW, 0, kVL⟩, ⟨1, 0, .RW, 0, kVL⟩]
  | .LOOP_TRACE_LEVEL _ => [
      ⟨31, 0, .RW, 0, kVL⟩]
  | .LOOP_TRACE_CTRL _ => [
      ⟨2, 2, .W1S, 0, kNone⟩, ⟨1, 1, .W1S, 0, kNone⟩, ⟨0, 0, .W1S, 0, kNone⟩]
  | .LOOP_TRACE_STAT _ => [
      ⟨31, 30, .RO, 0, kNone⟩, ⟨27, 16, .RO, 0, kNone⟩, ⟨11, 0, .RO, 0, kNone⟩]
  | .LOOP_XCFG _ => [
      ⟨1, 1, .RWE, 1, kVL⟩, ⟨0, 0, .RWE, 1, kVL⟩]
  | .LOOP_RUNTIME _ => [
      ⟨17, 0, .RO, 0, kNone⟩]
  | .LOOP_RUNMAX _ => [
      ⟨31, 31, .W1S, 0, kNone⟩, ⟨17, 0, .RO, 0, kNone⟩]
  | .LOOP_EVTEN _ => [
      ⟨6, 6, .RW, 0, kVL⟩, ⟨5, 5, .RW, 0, kVL⟩, ⟨4, 4, .RW, 0, kVL⟩, ⟨3, 3, .RW, 0, kVL⟩,
      ⟨2, 2, .RW, 0, kVL⟩, ⟨1, 1, .RW, 0, kVL⟩, ⟨0, 0, .RW, 0, kVL⟩]
  | .LOOP_TRACE_NODE _ _ => [
      ⟨31, 30, .RW, 0, kVL⟩, ⟨19, 0, .RW, 0xfffff, kVL⟩]
  | .LOOP_GRP_CFG _ => [
      ⟨5, 4, .RW, 0, kVL⟩, ⟨2, 0, .RW, 0, kVL⟩]
  | .LOOP_CONST _ => [
      ⟨31, 0, .RW, 0, kVL⟩]
  | .LOOP_SET _ => [
      ⟨31, 0, .RW, 0, kVL⟩]
  | .DMA_CH_CTRL _ => [
      ⟨13, 12, .RW, 0, kVL⟩, ⟨8, 8, .RW, 0, kVL⟩, ⟨2, 2, .W1S, 0, kNone⟩, ⟨1, 1, .W1S, 0, kNone⟩,
      ⟨0, 0, .W1S, 0, kNone⟩]
  | .DMA_CH_DESC _ => [
      ⟨31, 0, .RW, 0, kVL⟩]
  | .DMA_CH_BW _ => [
      ⟨15, 8, .RW, 0, kVL⟩, ⟨7, 0, .RW, 0, kVL⟩]
  | .DMA_CH_STAT _ => [
      ⟨31, 31, .RO, 0, kNone⟩, ⟨30, 28, .RO, 0, kNone⟩, ⟨27, 27, .RO, 0, kNone⟩, ⟨26, 26, .RO, 0, kNone⟩,
      ⟨19, 16, .RO, 0, kNone⟩, ⟨15, 0, .RO, 0, kNone⟩]
  | .DMA_CH_CUR _ => [
      ⟨31, 0, .RO, 0, kNone⟩]
  | .DMA_CH_CNT _ => [
      ⟨31, 24, .RO, 0, kNone⟩, ⟨23, 0, .RO, 0, kNone⟩]
  | .DMA_CH_EVT _ => [
      ⟨4, 4, .W1C, 0, kNone⟩, ⟨3, 3, .W1C, 0, kNone⟩, ⟨2, 2, .W1C, 0, kNone⟩, ⟨1, 1, .W1C, 0, kNone⟩,
      ⟨0, 0, .W1C, 0, kNone⟩]
  | .DMA_CH_EVTEN _ => [
      ⟨4, 4, .RW, 0, kVL⟩, ⟨3, 3, .RW, 0, kVL⟩, ⟨2, 2, .RW, 0, kVL⟩, ⟨1, 1, .RW, 0, kVL⟩, ⟨0, 0, .RW, 0, kVL⟩]
  | .DMA_CH_HOPLIM _ => [
      ⟨15, 0, .RWE, 0x1000, kVL⟩]
  | .IR_SRC_ROUTE s => [
      ⟨19, 19, .RO, 0, kNone⟩, ⟨18, 18, .RO, srcLevel s, kPHSVBL⟩, ⟨17, 17, .RO, 0, kNone⟩,
      ⟨16, 16, .RO, 0, kNone⟩, ⟨11, 8, .RW, if s = 134 then 8 else 0, kNone⟩,
      ⟨3, 0, .RW, if s = 134 then 15 else 0, kNone⟩]
  | .IR_PEND _ => [
      ⟨31, 0, .RO, 0, kNone⟩]
  | .IR_TGT_THRESH j => [
      ⟨3, 0, (if j = 8 then .SRW else .RW), 0, kNone⟩]
  | .IR_TGT_CLAIM j => [
      ⟨8, 0, (if j = 8 then .SRW else .RW), 0x100, kNone⟩]
  | .FC_CLASS n => [
      ⟨10, 8, .RO, 0, kVL⟩, ⟨6, 4, .RO, srcMinClass n, kPHSVBL⟩, ⟨2, 0, .SRW, srcResetClass n, kVL⟩]
  | .THERM_TS _ => [
      ⟨31, 30, .RO, 0, kNone⟩, ⟨25, 21, .RO, 0, kNone⟩, ⟨15, 0, .RO, 0, kNone⟩]
  | .KEYS_DIK_HASH _ => [
      ⟨31, 0, .RO, 0, kNone⟩]
  | .KEYS_V_PDIG _ => [
      ⟨31, 0, .RO, 0, kVL⟩]
  | .KEYS_V_HDIG _ => [
      ⟨31, 0, .RO, 0, kVL⟩]
  | .KEYS_A_NONCE _ => [
      ⟨31, 0, .SRW, 0, kNone⟩]
  | .KEYS_MEAS_VER _ => [
      ⟨31, 0, .RO, 0, kBVL⟩]
  | .KEYS_MEAS_INFO _ => [
      ⟨31, 0, .RO, 0, kBVL⟩]
  | .KEYS_MEAS_DIG _ _ => [
      ⟨31, 0, .RO, 0, kBVL⟩]
  | .SYS_BERR_ADDR => [
      ⟨31, 0, .RO, 0, kSVBL⟩]
  | .SYS_BERR_INFO => [
      ⟨31, 31, .W1C, 0, kSVBL⟩, ⟨23, 16, .RO, 0, kSVBL⟩, ⟨13, 8, .RO, 0, kSVBL⟩, ⟨4, 4, .RO, 0, kSVBL⟩,
      ⟨3, 3, .RO, 0, kSVBL⟩, ⟨2, 0, .RO, 0, kSVBL⟩]
  | .SYS_TFORCE_LO => [
      ⟨31, 0, .RW, 0, kNone⟩]
  | .SYS_TFORCE_HI => [
      ⟨31, 0, .RW, 0, kNone⟩]
  | .SYS_THROTTLE_REQ => [
      ⟨2, 0, .RW, 0, kNone⟩]
  | .SYS_SVCFLT => [
      ⟨7, 4, .W1C, 0, kVL⟩, ⟨3, 0, .W1C, 0, kVL⟩]
  | .SYS_SCRUB_CFG => [
      ⟨31, 16, .RW, 0x40, kVL⟩, ⟨1, 1, .RW, 1, kVL⟩, ⟨0, 0, .RW, 1, kVL⟩]
  | .SYS_SCRUB_STAT => [
      ⟨31, 16, .RO, 0, kNone⟩, ⟨15, 0, .RO, 0, kNone⟩]
  | .SYS_ECC_CNT => [
      ⟨31, 16, .RO, 0, kNone⟩, ⟨15, 0, .RO, 0, kNone⟩]
  | .SYS_ECC_RATE => [
      ⟨31, 16, .RW, 0x3e8, kVL⟩, ⟨15, 0, .RW, 0x10, kVL⟩]
  | .SYS_ECC_ADDR => [
      ⟨31, 0, .RO, 0, kVL⟩]
  | .SYS_ECC_INFO => [
      ⟨31, 31, .W1C, 0, kVL⟩, ⟨23, 16, .RO, 0, kVL⟩, ⟨10, 8, .RO, 0, kVL⟩, ⟨7, 0, .RO, 0, kVL⟩]
  | .SYS_UPD_SET => [
      ⟨31, 31, .RW, 0, kNone⟩, ⟨27, 24, .RW, 0, kNone⟩, ⟨23, 16, .RW, 0, kNone⟩, ⟨7, 0, .RW, 0, kNone⟩]
  | .CLK_ROOT => [
      ⟨11, 7, .RW, 0x1f, kPHSVBL⟩, ⟨6, 6, .RW, 0, kPHSVBL⟩, ⟨5, 4, .RW, 0, kPHSVBL⟩, ⟨2, 0, .RW, 7, kPHSVBL⟩]
  | .CLK_ROOTSTAT => [
      ⟨31, 24, .RO, 0, kPHSVBL⟩, ⟨20, 18, .RO, 0, kPHSVBL⟩, ⟨17, 17, .RO, 1, kPHSVBL⟩,
      ⟨16, 16, .RO, 1, kPHSVBL⟩, ⟨12, 8, .RO, 0, kPHSVBL⟩, ⟨2, 0, .RO, 7, kPHSVBL⟩]
  | .CLK_PLLM_CFG => [
      ⟨0, 0, .W1S, 0, kNone⟩]
  | .CLK_PLLM_STAT => [
      ⟨31, 16, .RO, 0, kPHSVBL⟩, ⟨5, 5, .RO, 0, kPHSVBL⟩, ⟨4, 4, .RO, 0, kPHSVBL⟩, ⟨3, 3, .RO, 0, kPHSVBL⟩,
      ⟨2, 2, .RO, 0, kPHSVBL⟩, ⟨1, 1, .RO, 0, kPHSVBL⟩, ⟨0, 0, .RO, 0, kPHSVBL⟩]
  | .CLK_PLLS_CFG => [
      ⟨0, 0, .SRW, 0, kNone⟩]
  | .CLK_PLLS_STAT => [
      ⟨2, 2, .RO, 0, kPHSVBL⟩, ⟨1, 1, .RO, 0, kPHSVBL⟩, ⟨0, 0, .RO, 0, kPHSVBL⟩]
  | .CLK_PLL_XCFG => [
      ⟨3, 2, .RWE, 0, kPHSVBL⟩, ⟨1, 0, .RWE, 0, kPHSVBL⟩]
  | .CLK_PHASE_POLICY => [
      ⟨8, 8, .W1S, 0, kNone⟩, ⟨7, 4, .RW, 0xa, kPHSVBL⟩, ⟨1, 0, .RW, 0, kPHSVBL⟩]
  | .CLK_PHASE_ERR => [
      ⟨31, 16, .RO, 0, kPHSVBL⟩, ⟨15, 0, .RO, 0, kPHSVBL⟩]
  | .CLK_PHASE_OFS => [
      ⟨15, 0, .RO, 0, kPHSVBL⟩]
  | .CLK_DOMSEL => [
      ⟨21, 16, .RO, 0, kPHSVBL⟩, ⟨11, 10, .RW, 0, kPHSVBL⟩, ⟨9, 8, .RW, 0, kPHSVBL⟩, ⟨7, 6, .RW, 0, kPHSVBL⟩,
      ⟨5, 4, .RW, 0, kPHSVBL⟩, ⟨3, 2, .RW, 0, kPHSVBL⟩, ⟨1, 0, .RW, 0, kPHSVBL⟩]
  | .CLK_GATE => [
      ⟨20, 20, .RW, 0, kNone⟩, ⟨19, 19, .RW, 0, kNone⟩, ⟨18, 18, .RW, 0, kNone⟩, ⟨17, 16, .RW, 0, kNone⟩,
      ⟨15, 15, .RW, 0, kNone⟩, ⟨14, 14, .RW, 0, kNone⟩, ⟨13, 12, .RW, 0, kNone⟩, ⟨11, 4, .RW, 0, kNone⟩,
      ⟨3, 0, .RW, 0, kNone⟩]
  | .CLK_GATE_STAT => [
      ⟨31, 31, .RO, 0, kNone⟩, ⟨30, 26, .RO, 0, kNone⟩, ⟨20, 0, .RO, 0, kNone⟩]
  | .CLK_FMON_CFG => [
      ⟨31, 12, .RW, 0, kNone⟩, ⟨10, 10, .RW, 0, kNone⟩, ⟨9, 9, .RW, 0, kNone⟩, ⟨8, 8, .W1S, 0, kNone⟩,
      ⟨7, 4, .RW, 0, kNone⟩, ⟨3, 0, .RW, 0, kNone⟩]
  | .CLK_FMON_RES => [
      ⟨31, 31, .RO, 0, kNone⟩, ⟨30, 30, .RO, 0, kNone⟩, ⟨29, 29, .RO, 0, kNone⟩, ⟨27, 0, .RO, 0, kNone⟩]
  | .CLK_FMON_LO => [
      ⟨27, 0, .RW, 0, kNone⟩]
  | .CLK_FMON_HI => [
      ⟨27, 0, .RW, 0xFFFFFFF, kNone⟩]
  | .CLK_EVT => [
      ⟨9, 9, .W1C, 0, kNone⟩, ⟨8, 8, .W1C, 0, kNone⟩, ⟨7, 7, .W1C, 0, kNone⟩, ⟨6, 6, .W1C, 0, kNone⟩,
      ⟨5, 5, .W1C, 0, kNone⟩, ⟨4, 4, .W1C, 0, kNone⟩, ⟨3, 3, .W1C, 0, kNone⟩, ⟨2, 2, .W1C, 0, kNone⟩,
      ⟨1, 1, .W1C, 0, kNone⟩, ⟨0, 0, .W1C, 0, kNone⟩]
  | .CLK_EVTEN => [
      ⟨9, 9, .RW, 0, kPHSVBL⟩, ⟨8, 8, .RW, 0, kPHSVBL⟩, ⟨7, 7, .RW, 0, kPHSVBL⟩, ⟨6, 6, .RW, 0, kPHSVBL⟩,
      ⟨5, 5, .RW, 0, kPHSVBL⟩, ⟨4, 4, .RW, 0, kPHSVBL⟩, ⟨3, 3, .RW, 0, kPHSVBL⟩, ⟨2, 2, .RW, 0, kPHSVBL⟩,
      ⟨1, 1, .RW, 0, kPHSVBL⟩, ⟨0, 0, .RW, 0, kPHSVBL⟩]
  | .PWR_STATE => [
      ⟨31, 31, .RO, 0, kNone⟩, ⟨27, 24, .RO, 0, kNone⟩, ⟨18, 16, .RO, 0, kNone⟩, ⟨2, 0, .SRW, 0, kNone⟩]
  | .PWR_DOM_STAT => [
      ⟨25, 16, .RO, 0, kNone⟩, ⟨9, 0, .RO, 0, kNone⟩]
  | .PWR_STBY_OFF => [
      ⟨9, 3, .SRW, 0, kPHSVBL⟩]
  | .PWR_VMON => [
      ⟨31, 31, .RO, 0, kNone⟩, ⟨30, 30, .RO, 0, kNone⟩, ⟨12, 0, .RO, 0, kNone⟩]
  | .PWR_VMON_CNT => [
      ⟨31, 16, .RO, 0, kPHSVBL⟩, ⟨15, 0, .RO, 0, kPHSVBL⟩]
  | .PWR_VMIN => [
      ⟨31, 31, .W1S, 0, kNone⟩, ⟨12, 0, .RO, 0x1fff, kPHSVBL⟩]
  | .PWR_IVR => [
      ⟨10, 8, .W1C, 0, kVL⟩, ⟨2, 0, .RO, 0, kNone⟩]
  | .PWR_DOM => [
      ⟨17, 17, .RW, 0, kPHSVBL⟩, ⟨16, 16, .RW, 0, kPHSVBL⟩, ⟨9, 2, .RW, 0xFF, kSVBL⟩, ⟨1, 0, .RO, 3, kSVBL⟩]
  | .PWR_EVT => [
      ⟨5, 5, .W1C, 0, kNone⟩, ⟨4, 4, .W1C, 0, kNone⟩, ⟨3, 3, .W1C, 0, kNone⟩, ⟨2, 2, .W1C, 0, kNone⟩,
      ⟨1, 1, .W1C, 0, kNone⟩, ⟨0, 0, .W1C, 0, kNone⟩]
  | .PWR_EVTEN => [
      ⟨5, 5, .RW, 0, kVL⟩, ⟨4, 4, .RW, 0, kVL⟩, ⟨3, 3, .RW, 0, kVL⟩, ⟨2, 2, .RW, 0, kVL⟩,
      ⟨1, 1, .RW, 0, kVL⟩, ⟨0, 0, .RW, 0, kVL⟩]
  | .RST_CAUSE => [
      ⟨16, 16, .RO, 0, kBL⟩, ⟨12, 12, .RO, 0, kBL⟩, ⟨9, 8, .RO, 0, kBL⟩, ⟨4, 0, .RO, 0, kBL⟩]
  | .RST_REQ => [
      ⟨31, 16, .WO, 0, kNone⟩, ⟨6, 5, .WO, 0, kNone⟩, ⟨4, 4, .WO, 0, kNone⟩, ⟨2, 0, .WO, 0, kNone⟩]
  | .RST_STRAP => [
      ⟨9, 8, .RO, 0, kBL⟩, ⟨4, 4, .RO, 0, kPHSVBL⟩, ⟨1, 0, .RO, 0, kPHSVBL⟩]
  | .RST_SVC_ENTRY => [
      ⟨31, 0, .SRW, 0, kVBL⟩]
  | .RST_RELEASE => [
      ⟨0, 0, .SRW, 0, kVBL⟩]
  | .RST_COUNT => [
      ⟨31, 24, .RO, 0, kPHSVBL⟩, ⟨23, 16, .RO, 0, kPHSVBL⟩, ⟨15, 8, .RO, 0, kPHSVBL⟩, ⟨7, 0, .RO, 0, kPHSVBL⟩]
  | .TIME_NOW_NS => [
      ⟨29, 0, .RO, 0, kPHSVBL⟩]
  | .TIME_NOW_SUB => [
      ⟨15, 0, .RO, 0, kPHSVBL⟩]
  | .TIME_NOW_SEC_LO => [
      ⟨31, 0, .RO, 0, kPHSVBL⟩]
  | .TIME_NOW_SEC_HI => [
      ⟨31, 0, .RO, 0, kPHSVBL⟩]
  | .TIME_ADDEND => [
      ⟨31, 0, .RW, 0x80000000, kPHSVBL⟩]
  | .TIME_ADDEND_EFF => [
      ⟨31, 0, .RO, 0x80000000, kPHSVBL⟩]
  | .TIME_ADJ_NS => [
      ⟨31, 0, .RW, 0, kPHSVBL⟩]
  | .TIME_ADJ_CFG => [
      ⟨7, 0, .RW, 0x64, kPHSVBL⟩]
  | .TIME_ADJ_REMAIN => [
      ⟨31, 0, .RO, 0, kPHSVBL⟩]
  | .TIME_STEP => [
      ⟨31, 31, .RO, 0, kNone⟩, ⟨1, 0, .WO, 0, kNone⟩]
  | .TIME_SET_NS => [
      ⟨31, 0, .RW, 0, kNone⟩]
  | .TIME_SET_SEC_LO => [
      ⟨31, 0, .RW, 0, kNone⟩]
  | .TIME_SET_SEC_HI => [
      ⟨31, 0, .RW, 0, kNone⟩]
  | .TIME_DIST => [
      ⟨2, 0, .RW, 0, kPHSVBL⟩]
  | .TIME_STAT => [
      ⟨11, 11, .W1C, 0, kNone⟩, ⟨10, 10, .W1C, 0, kNone⟩, ⟨9, 9, .W1C, 0, kNone⟩, ⟨8, 8, .W1C, 0, kNone⟩,
      ⟨4, 4, .RO, 0, kNone⟩, ⟨3, 3, .RO, 0, kNone⟩, ⟨2, 2, .RO, 0, kPHSVBL⟩, ⟨1, 1, .RO, 0, kNone⟩,
      ⟨0, 0, .RO, 0, kNone⟩]
  | .TIME_CLKSTEP => [
      ⟨12, 0, .RO, 0, kPHSVBL⟩]
  | .TIME_WD_CFG => [
      ⟨16, 16, .RW, 0, kNone⟩, ⟨9, 0, .RW, 0x3e8, kNone⟩]
  | .TIME_WD_KICK => [
      ⟨31, 0, .WO, 0, kNone⟩]
  | .STATION_RED_CFG => [
      ⟨31, 16, .RW, 0x7d0, kVL⟩, ⟨15, 4, .RW, 0x190, kVL⟩, ⟨3, 3, .RW, 0, kVL⟩, ⟨1, 0, .RW, 0, kVL⟩]
  | .STATION_RED_SEQ => [
      ⟨15, 0, .RO, 0, kNone⟩]
  | .STATION_RED_CNT0 => [
      ⟨31, 16, .RO, 0, kNone⟩, ⟨15, 0, .RO, 0, kNone⟩]
  | .STATION_RED_CNT1 => [
      ⟨31, 16, .RO, 0, kNone⟩, ⟨15, 0, .RO, 0, kNone⟩]
  | .STATION_SV_EVT => [
      ⟨31, 0, .W1C, 0, kNone⟩]
  | .STATION_SV_EVTEN => [
      ⟨31, 0, .RW, 0, kVL⟩]
  | .STATION_SV_TEVT => [
      ⟨31, 0, .W1C, 0, kNone⟩]
  | .STATION_SV_TEVTEN => [
      ⟨31, 0, .RW, 0, kVL⟩]
  | .STATION_SV_LIVE => [
      ⟨31, 0, .RO, 0, kNone⟩]
  | .STATION_GOOSE_EVT => [
      ⟨31, 16, .W1C, 0, kNone⟩, ⟨15, 0, .W1C, 0, kNone⟩]
  | .STATION_GOOSE_EVTEN => [
      ⟨31, 16, .RW, 0, kVL⟩, ⟨15, 0, .RW, 0, kVL⟩]
  | .STATION_GOOSE_TQ => [
      ⟨31, 16, .RW, 0x25, kVL⟩, ⟨7, 0, .RW, 0x20, kVL⟩]
  | .STATION_RRA_CFG => [
      ⟨31, 16, .RW, 0x88b5, kVL⟩, ⟨0, 0, .RW, 0, kVL⟩]
  | .STATION_RRA_EVT => [
      ⟨2, 2, .W1C, 0, kNone⟩, ⟨1, 1, .W1C, 0, kNone⟩, ⟨0, 0, .W1C, 0, kNone⟩]
  | .STATION_RRA_EVTEN => [
      ⟨2, 2, .RW, 0, kVL⟩, ⟨1, 1, .RW, 0, kVL⟩, ⟨0, 0, .RW, 0, kVL⟩]
  | .STATION_RRA_CNT => [
      ⟨31, 16, .RO, 0, kNone⟩, ⟨15, 0, .RO, 0, kNone⟩]
  | .TANDEM_LINK => [
      ⟨31, 16, .RO, 0, kNone⟩, ⟨10, 8, .RO, 0, kNone⟩, ⟨5, 5, .RO, 0, kNone⟩, ⟨4, 4, .RO, 0, kNone⟩,
      ⟨3, 3, .RO, 0, kNone⟩, ⟨2, 2, .RO, 1, kNone⟩, ⟨1, 1, .RO, 0, kNone⟩, ⟨0, 0, .RO, 0, kNone⟩]
  | .TANDEM_CFG => [
      ⟨4, 4, .RW, 0, kVL⟩, ⟨3, 3, .RW, 1, kVL⟩, ⟨2, 2, .RW, 1, kVL⟩, ⟨1, 1, .RW, 1, kVL⟩, ⟨0, 0, .RW, 1, kVL⟩]
  | .TANDEM_STAT => [
      ⟨13, 8, .RO, 0, kNone⟩, ⟨7, 3, .RO, 0, kNone⟩, ⟨2, 2, .RO, 0, kNone⟩, ⟨1, 1, .RO, 0, kNone⟩,
      ⟨0, 0, .RO, 0, kNone⟩]
  | .TANDEM_SILENT => [
      ⟨31, 0, .RO, 0xffffffff, kNone⟩]
  | .TANDEM_TAKEBOUND => [
      ⟨31, 31, .RO, 0, kNone⟩, ⟨15, 0, .RO, 0, kNone⟩]
  | .TANDEM_TKINFO_NS => [
      ⟨31, 0, .RO, 0, kSVL⟩]
  | .TANDEM_TKINFO_SEC => [
      ⟨31, 0, .RO, 0, kSVL⟩]
  | .TANDEM_TKINFO => [
      ⟨31, 0, .RO, 0, kSVL⟩]
  | .TANDEM_MIRROR_LIST => [
      ⟨31, 0, .RW, 0, kVL⟩]
  | .TANDEM_MLIST_CNT => [
      ⟨31, 0, .RW, 0, kVL⟩]
  | .TANDEM_MCFG => [
      ⟨24, 24, .RW, 0, kVL⟩, ⟨19, 16, .RW, 4, kVL⟩, ⟨15, 8, .RW, 0xff, kVL⟩, ⟨7, 0, .RW, 1, kVL⟩]
  | .TANDEM_MCTRL => [
      ⟨0, 0, .W1S, 0, kNone⟩]
  | .TANDEM_MBUF => [
      ⟨31, 0, .RW, 0, kVL⟩]
  | .TANDEM_MBUF_SIZE => [
      ⟨31, 0, .RW, 0, kVL⟩]
  | .TANDEM_EPOCH => [
      ⟨31, 16, .RO, 0, kNone⟩, ⟨15, 0, .RO, 0, kNone⟩]
  | .TANDEM_MSTAT => [
      ⟨31, 31, .RO, 0, kNone⟩, ⟨30, 30, .RO, 0, kNone⟩, ⟨29, 29, .RO, 0, kNone⟩, ⟨27, 24, .RO, 0, kNone⟩,
      ⟨20, 0, .RO, 0, kNone⟩]
  | .TANDEM_MCNT => [
      ⟨31, 24, .RO, 0, kNone⟩, ⟨23, 16, .RO, 0, kNone⟩, ⟨15, 0, .RO, 0, kNone⟩]
  | .TANDEM_EVT => [
      ⟨12, 12, .W1C, 0, kNone⟩, ⟨11, 11, .W1C, 0, kNone⟩, ⟨10, 10, .W1C, 0, kNone⟩, ⟨9, 9, .W1C, 0, kNone⟩,
      ⟨8, 8, .W1C, 0, kNone⟩, ⟨6, 6, .W1C, 0, kNone⟩, ⟨5, 5, .W1C, 0, kNone⟩, ⟨4, 4, .W1C, 0, kNone⟩,
      ⟨3, 3, .W1C, 0, kNone⟩, ⟨2, 2, .W1C, 0, kNone⟩, ⟨1, 1, .W1C, 0, kNone⟩, ⟨0, 0, .W1C, 0, kNone⟩]
  | .TANDEM_EVTEN => [
      ⟨12, 12, .RW, 0, kVL⟩, ⟨11, 11, .RW, 0, kVL⟩, ⟨10, 10, .RW, 0, kVL⟩, ⟨9, 9, .RW, 0, kVL⟩,
      ⟨8, 8, .RW, 0, kVL⟩, ⟨6, 6, .RW, 0, kVL⟩, ⟨5, 5, .RW, 0, kVL⟩, ⟨4, 4, .RW, 0, kVL⟩,
      ⟨3, 3, .RW, 0, kVL⟩, ⟨2, 2, .RW, 0, kVL⟩, ⟨1, 1, .RW, 0, kVL⟩, ⟨0, 0, .RW, 0, kVL⟩]
  | .TANDEM_LINKDLY => [
      ⟨31, 0, .RO, 0, kNone⟩]
  | .TANDEM_TASYM => [
      ⟨31, 0, .RW, 0, kVL⟩]
  | .TANDEM_TFERR => [
      ⟨31, 0, .RO, 0, kNone⟩]
  | .EDGE_LEAD => [
      ⟨14, 0, .RW, 0x1770, kVL⟩]
  | .EDGE_STAT => [
      ⟨2, 2, .RO, 0, kNone⟩, ⟨1, 1, .RO, 1, kNone⟩, ⟨0, 0, .RO, 0, kNone⟩]
  | .EDGE_EVT => [
      ⟨12, 12, .W1C, 0, kNone⟩, ⟨11, 11, .W1C, 0, kNone⟩, ⟨10, 10, .W1C, 0, kNone⟩, ⟨9, 9, .W1C, 0, kNone⟩,
      ⟨8, 8, .W1C, 0, kNone⟩, ⟨3, 3, .W1C, 0, kNone⟩, ⟨2, 2, .W1C, 0, kNone⟩, ⟨1, 1, .W1C, 0, kNone⟩,
      ⟨0, 0, .W1C, 0, kNone⟩]
  | .EDGE_LATECNT => [
      ⟨31, 16, .RO, 0, kNone⟩, ⟨15, 0, .RO, 0, kNone⟩]
  | .EDGE_LATEINFO => [
      ⟨31, 31, .W1C, 0, kNone⟩, ⟨16, 16, .RO, 0, kNone⟩, ⟨9, 0, .RO, 0, kNone⟩]
  | .EDGE_LOAD => [
      ⟨18, 0, .RO, 0, kNone⟩]
  | .EDGE_BLKMASK => [
      ⟨31, 0, .RO, 0, kNone⟩]
  | .EDGE_EVTEN => [
      ⟨12, 12, .RW, 0, kVL⟩, ⟨11, 11, .RW, 0, kVL⟩, ⟨10, 10, .RW, 0, kVL⟩, ⟨9, 9, .RW, 0, kVL⟩,
      ⟨8, 8, .RW, 0, kVL⟩, ⟨3, 3, .RW, 0, kVL⟩, ⟨2, 2, .RW, 0, kVL⟩, ⟨1, 1, .RW, 0, kVL⟩, ⟨0, 0, .RW, 0, kVL⟩]
  | .ADC_REF => [
      ⟨0, 0, .RW, 0, kVL⟩]
  | .ADC_GRPINJ => [
      ⟨13, 8, .W1C, 0, kNone⟩, ⟨5, 0, .RO, 0, kNone⟩]
  | .LOOP_SWAP => [
      ⟨31, 16, .RO, 0, kBVL⟩, ⟨15, 0, .W1S, 0, kNone⟩]
  | .DMA_CFG => [
      ⟨15, 8, .RW, 0, kVL⟩, ⟨7, 0, .RW, 0xa, kVL⟩]
  | .DMA_ERRSUM => [
      ⟨31, 0, .RO, 0, kNone⟩]
  | .IR_SWI => [
      ⟨4, 4, .W1S, 0, kNone⟩, ⟨3, 0, .W1S, 0, kNone⟩]
  | .IR_ERRNEXT => [
      ⟨31, 0, .RO, 0xffffffff, kNone⟩]
  | .XSPI_CFG => [
      ⟨31, 31, .SRW, 1, kNone⟩, ⟨23, 16, .RW, 5, kNone⟩, ⟨11, 8, .RW, 8, kNone⟩, ⟨1, 1, .RW, 0, kNone⟩,
      ⟨0, 0, .RW, 0, kNone⟩]
  | .XSPI_CMD => [
      ⟨31, 28, .RW, 0, kNone⟩, ⟨27, 27, .RW, 0, kNone⟩, ⟨20, 16, .RW, 0, kNone⟩, ⟨7, 0, .RW, 0, kNone⟩]
  | .XSPI_ADDR => [
      ⟨31, 0, .RW, 0, kNone⟩]
  | .XSPI_LEN => [
      ⟨31, 0, .RW, 0, kNone⟩]
  | .XSPI_DATA => [
      ⟨31, 0, .RW, 0, kNone⟩]
  | .XSPI_STAT => [
      ⟨31, 31, .RO, 0, kNone⟩, ⟨30, 30, .W1C, 0, kNone⟩, ⟨29, 29, .W1C, 0, kNone⟩, ⟨8, 0, .RO, 0, kNone⟩]
  | .XSPI_BANKA => [
      ⟨31, 16, .SRW, 0, kPHSVBL⟩, ⟨15, 0, .SRW, 0, kPHSVBL⟩]
  | .XSPI_BANKB => [
      ⟨31, 16, .SRW, 0, kPHSVBL⟩, ⟨15, 0, .SRW, 0, kPHSVBL⟩]
  | .XSPI_BANKSEL => [
      ⟨0, 0, .SRW, 0, kPHSVBL⟩]
  | .SVCPORT_ID0 => [
      ⟨31, 0, .RO, 0x725600b1, kPHSVBL⟩]
  | .SVCPORT_ID1 => [
      ⟨31, 0, .RO, 0x10000, kPHSVBL⟩]
  | .SVCPORT_ID2 => [
      ⟨31, 0, .RO, 0, kPHSVBL⟩]
  | .SVCPORT_ID3 => [
      ⟨31, 0, .RO, 0, kPHSVBL⟩]
  | .SVCPORT_BOOT => [
      ⟨15, 8, .RO, 0, kNone⟩, ⟨3, 0, .RO, 0, kNone⟩]
  | .SVCPORT_GO => [
      ⟨31, 0, .WO, 0, kNone⟩]
  | .SVCPORT_CAUSE => [
      ⟨31, 0, .RO, 0, kNone⟩]
  | .SVCPORT_STRAP => [
      ⟨31, 0, .RO, 0, kNone⟩]
  | .SVCPORT_ROOTSTAT => [
      ⟨31, 0, .RO, 0, kNone⟩]
  | .SVCPORT_LAST_LO => [
      ⟨31, 0, .RO, 0, kNone⟩]
  | .SVCPORT_LAST_HI => [
      ⟨31, 0, .RO, 0, kNone⟩]
  | .FC_SCORE_LO => [
      ⟨31, 0, .W1C, 0, kVL⟩]
  | .FC_SCORE_HI => [
      ⟨31, 0, .W1C, 0, kVL⟩]
  | .FC_HELD_LO => [
      ⟨31, 0, .RO, 0, kVL⟩]
  | .FC_HELD_HI => [
      ⟨31, 0, .RO, 0, kVL⟩]
  | .FC_LIVE_LO => [
      ⟨31, 0, .RO, 0, kNone⟩]
  | .FC_LIVE_HI => [
      ⟨31, 0, .RO, 0, kNone⟩]
  | .FC_FORCE_LO => [
      ⟨31, 0, .SRW, 0, kNone⟩]
  | .FC_FORCE_HI => [
      ⟨31, 0, .SRW, 0, kNone⟩]
  | .FC_QUIET => [
      ⟨15, 0, .SRW, 0x64, kVL⟩]
  | .FC_RECOVERIES => [
      ⟨15, 0, .RO, 0, kVL⟩]
  | .FC_RECOV_CFG => [
      ⟨27, 16, .SRW, 0x3c, kVL⟩, ⟨3, 0, .SRW, 3, kVL⟩]
  | .FC_STATE => [
      ⟨31, 16, .RO, 0, kNone⟩, ⟨6, 4, .RO, 0, kVL⟩, ⟨1, 0, .RO, 0, kVL⟩]
  | .FC_CTRL => [
      ⟨2, 2, .W1S, 0, kNone⟩, ⟨1, 1, .W1S, 0, kNone⟩, ⟨0, 0, .W1S, 0, kNone⟩]
  | .FC_CFG => [
      ⟨15, 8, .SRW, 0xff, kVL⟩, ⟨1, 1, .SRW, 0, kVL⟩, ⟨0, 0, .SRW, 0, kVL⟩]
  | .FC_STAT => [
      ⟨0, 0, .RO, 0, kPHSVBL⟩]
  | .FC_LAST_LO => [
      ⟨31, 0, .RO, 0, kPHSVBL⟩]
  | .FC_LAST_HI => [
      ⟨31, 0, .RO, 0, kPHSVBL⟩]
  | .FC_FIRST => [
      ⟨31, 31, .W1C, 0, kVL⟩, ⟨5, 0, .RO, 0, kVL⟩]
  | .FC_FIRST_NS => [
      ⟨31, 0, .RO, 0, kVL⟩]
  | .THERM_MAX => [
      ⟨28, 24, .RO, 0, kNone⟩, ⟨16, 16, .RO, 0, kNone⟩, ⟨15, 0, .RO, 0, kNone⟩]
  | .THERM_VALID => [
      ⟨23, 0, .RO, 0xffffff, kNone⟩]
  | .THERM_ALARM => [
      ⟨31, 16, .SRW, 0x910, kVL⟩, ⟨15, 0, .SRW, 0x960, kVL⟩]
  | .THERM_THROTTLE => [
      ⟨18, 16, .RO, 0, kVL⟩, ⟨8, 8, .SRW, 0, kVL⟩, ⟨2, 0, .SRW, 0, kVL⟩]
  | .THERM_STAT => [
      ⟨1, 1, .RO, 0, kNone⟩, ⟨0, 0, .RO, 0, kSVBL⟩]
  | .THERM_EVT => [
      ⟨3, 3, .W1C, 0, kNone⟩, ⟨2, 2, .W1C, 0, kNone⟩, ⟨1, 1, .W1C, 0, kNone⟩, ⟨0, 0, .W1C, 0, kNone⟩]
  | .THERM_EVTEN => [
      ⟨3, 3, .SRW, 0, kVL⟩, ⟨2, 2, .SRW, 0, kVL⟩, ⟨1, 1, .SRW, 0, kVL⟩, ⟨0, 0, .SRW, 0, kVL⟩]
  | .SAFE_CLAIM_LO => [
      ⟨31, 0, .RO, 0, kPHSVBL⟩]
  | .SAFE_CLAIM_HI => [
      ⟨31, 0, .RO, 0, kPHSVBL⟩]
  | .SAFE_CLAIM_CTRL => [
      ⟨10, 10, .SRW, 0, kNone⟩, ⟨9, 9, .SRW, 0, kNone⟩, ⟨2, 2, .SRW, 1, kPHSVBL⟩, ⟨1, 1, .SRW, 1, kPHSVBL⟩,
      ⟨0, 0, .SRW, 1, kPHSVBL⟩]
  | .SAFE_CLAIM_STAT => [
      ⟨15, 8, .RO, 0, kPHSVBL⟩, ⟨5, 5, .RO, 0, kPHSVBL⟩, ⟨4, 4, .RO, 0, kNone⟩, ⟨2, 0, .RO, 0, kNone⟩]
  | .SAFE_SEEN_LO => [
      ⟨31, 0, .RO, 0, kPHSVBL⟩]
  | .SAFE_SEEN_HI => [
      ⟨31, 0, .RO, 0, kPHSVBL⟩]
  | .SAFE_ALIVE => [
      ⟨23, 16, .SRW, 0xa, kVL⟩, ⟨10, 10, .RO, 0, kNone⟩, ⟨9, 9, .SRW, 0, kVL⟩, ⟨8, 8, .SRW, 1, kVL⟩]
  | .SAFE_ALIVE_HALF => [
      ⟨8, 0, .SRW, 0x32, kVL⟩]
  | .SAFE_TRIP => [
      ⟨7, 0, .SRW, 0, kVL⟩]
  | .SAFE_TRIP_CFG => [
      ⟨15, 8, .SRW, 0, kVL⟩, ⟨7, 0, .SRW, 0, kVL⟩]
  | .SAFE_TRIP_STAT => [
      ⟨15, 8, .RO, 0, kNone⟩, ⟨7, 0, .RO, 0, kNone⟩]
  | .SAFE_BLOCK => [
      ⟨31, 0, .SRW, 0, kVL⟩]
  | .SAFE_ALIVE_KICK => [
      ⟨31, 0, .WO, 0, kNone⟩]
  | .SAFE_BLOCK_CFG => [
      ⟨0, 0, .SRW, 0, kVL⟩]
  | .SAFE_BLOCK_STAT => [
      ⟨31, 0, .RO, 0, kNone⟩]
  | .KEYS_OWNER => [
      ⟨11, 8, .RO, 0, kPHSVBL⟩, ⟨7, 0, .RO, 0, kPHSVBL⟩]
  | .KEYS_RB_LO => [
      ⟨31, 0, .RO, 0, kPHSVBL⟩]
  | .KEYS_RB_HI => [
      ⟨31, 0, .RO, 0, kPHSVBL⟩]
  | .KEYS_PATCH => [
      ⟨31, 16, .RO, 0, kPHSVBL⟩, ⟨15, 0, .RO, 0, kPHSVBL⟩]
  | .KEYS_PATCH_STAT => [
      ⟨31, 16, .RO, 0, kVL⟩, ⟨15, 0, .RO, 0, kVL⟩]
  | .KEYS_OTP_CTRL => [
      ⟨15, 8, .SRW, 0, kNone⟩, ⟨6, 4, .SRW, 0, kNone⟩, ⟨2, 0, .SRW, 0, kNone⟩]
  | .KEYS_OTP_STAT => [
      ⟨31, 31, .RO, 0, kNone⟩, ⟨1, 0, .RO, 0, kNone⟩]
  | .KEYS_V_ADDR => [
      ⟨31, 0, .SRW, 0, kVL⟩]
  | .KEYS_V_LEN => [
      ⟨31, 0, .SRW, 0, kVL⟩]
  | .KEYS_V_CTRL => [
      ⟨4, 4, .W1S, 0, kNone⟩, ⟨3, 3, .W1S, 0, kNone⟩, ⟨2, 2, .W1S, 0, kNone⟩, ⟨1, 1, .W1S, 0, kNone⟩,
      ⟨0, 0, .W1S, 0, kNone⟩]
  | .KEYS_V_STAT => [
      ⟨31, 31, .RO, 0, kNone⟩, ⟨30, 30, .RO, 0, kVL⟩, ⟨29, 29, .RO, 0, kVL⟩, ⟨3, 0, .RO, 0, kVL⟩]
  | .KEYS_V_INFO => [
      ⟨31, 0, .RO, 0, kVL⟩]
  | .KEYS_V_VER => [
      ⟨31, 0, .RO, 0, kVL⟩]
  | .KEYS_V_LOAD => [
      ⟨31, 0, .RO, 0, kVL⟩]
  | .KEYS_V_ARG => [
      ⟨31, 0, .RO, 0, kVL⟩]
  | .KEYS_V_PLEN => [
      ⟨31, 0, .RO, 0, kVL⟩]
  | .KEYS_A_DST => [
      ⟨31, 0, .SRW, 0, kNone⟩]
  | .KEYS_A_CTRL => [
      ⟨1, 1, .W1S, 0, kNone⟩, ⟨0, 0, .W1S, 0, kNone⟩]
  | .KEYS_A_STAT => [
      ⟨31, 31, .RO, 0, kNone⟩, ⟨1, 0, .RO, 0, kNone⟩]
  | .PROT_STAT => [
      ⟨31, 16, .RO, 0, kVL⟩, ⟨1, 1, .RO, 0, kNone⟩, ⟨0, 0, .RO, 0, kVL⟩]
  | .PROT_CTRL => [
      ⟨0, 0, .W1S, 0, kNone⟩]

namespace F
abbrev PG_ID_TYPE (p : Page) : FRef := ⟨(.PG_ID p), 16, 16⟩
abbrev PG_ID_INST (p : Page) : FRef := ⟨(.PG_ID p), 8, 8⟩
abbrev PG_ID_PAGE (p : Page) : FRef := ⟨(.PG_ID p), 0, 8⟩
abbrev PG_VER_MAJOR (p : Page) : FRef := ⟨(.PG_VER p), 16, 16⟩
abbrev PG_VER_MINOR (p : Page) : FRef := ⟨(.PG_VER p), 0, 16⟩
abbrev PG_CTRL_EXPERT_EN (p : Page) : FRef := ⟨(.PG_CTRL p), 2, 1⟩
abbrev PG_CTRL_SOFT_RESET (p : Page) : FRef := ⟨(.PG_CTRL p), 1, 1⟩
abbrev PG_CTRL_ENABLE (p : Page) : FRef := ⟨(.PG_CTRL p), 0, 1⟩
abbrev PG_STAT_BLK (p : Page) : FRef := ⟨(.PG_STAT p), 16, 16⟩
abbrev PG_STAT_DEGRADED (p : Page) : FRef := ⟨(.PG_STAT p), 2, 1⟩
abbrev PG_STAT_READY (p : Page) : FRef := ⟨(.PG_STAT p), 1, 1⟩
abbrev PG_STAT_BUSY (p : Page) : FRef := ⟨(.PG_STAT p), 0, 1⟩
abbrev PG_ERR_BLK (p : Page) : FRef := ⟨(.PG_ERR p), 16, 16⟩
abbrev PG_ERR_LOCKED (p : Page) : FRef := ⟨(.PG_ERR p), 2, 1⟩
abbrev PG_ERR_KEY_FAIL (p : Page) : FRef := ⟨(.PG_ERR p), 1, 1⟩
abbrev PG_ERR_EXPERT_DENIED (p : Page) : FRef := ⟨(.PG_ERR p), 0, 1⟩
abbrev PG_ERRFORCE_BLK (p : Page) : FRef := ⟨(.PG_ERRFORCE p), 16, 16⟩
abbrev PG_ERRFORCE_LOCKED (p : Page) : FRef := ⟨(.PG_ERRFORCE p), 2, 1⟩
abbrev PG_ERRFORCE_KEY_FAIL (p : Page) : FRef := ⟨(.PG_ERRFORCE p), 1, 1⟩
abbrev PG_ERRFORCE_EXPERT_DENIED (p : Page) : FRef := ⟨(.PG_ERRFORCE p), 0, 1⟩
abbrev PG_ERREN_BLK (p : Page) : FRef := ⟨(.PG_ERREN p), 16, 16⟩
abbrev PG_ERREN_LOCKED (p : Page) : FRef := ⟨(.PG_ERREN p), 2, 1⟩
abbrev PG_ERREN_KEY_FAIL (p : Page) : FRef := ⟨(.PG_ERREN p), 1, 1⟩
abbrev PG_ERREN_EXPERT_DENIED (p : Page) : FRef := ⟨(.PG_ERREN p), 0, 1⟩
abbrev PG_PROG_POSITION (p : Page) : FRef := ⟨(.PG_PROG p), 16, 16⟩
abbrev PG_PROG_SEQ (p : Page) : FRef := ⟨(.PG_PROG p), 8, 8⟩
abbrev PG_PROG_PERCENT (p : Page) : FRef := ⟨(.PG_PROG p), 0, 8⟩
abbrev PG_KEY_KEY (p : Page) : FRef := ⟨(.PG_KEY p), 0, 32⟩
abbrev PG_LOCK_LOCK_CTRL (p : Page) : FRef := ⟨(.PG_LOCK p), 2, 1⟩
abbrev PG_LOCK_LOCK_BASIC (p : Page) : FRef := ⟨(.PG_LOCK p), 1, 1⟩
abbrev PG_LOCK_LOCK_EXPERT (p : Page) : FRef := ⟨(.PG_LOCK p), 0, 1⟩
abbrev CLK_OUT_CFG_EN (n : Nat) : FRef := ⟨(.CLK_OUT_CFG n), 16, 1⟩
abbrev CLK_OUT_CFG_DELAY (n : Nat) : FRef := ⟨(.CLK_OUT_CFG n), 8, 8⟩
abbrev CLK_OUT_CFG_DIV (n : Nat) : FRef := ⟨(.CLK_OUT_CFG n), 0, 8⟩
abbrev TIME_ALARM_NS_NS (n : Nat) : FRef := ⟨(.TIME_ALARM_NS n), 0, 30⟩
abbrev TIME_ALARM_SEC_LO_SEC (n : Nat) : FRef := ⟨(.TIME_ALARM_SEC_LO n), 0, 32⟩
abbrev TIME_ALARM_SEC_HI_SEC (n : Nat) : FRef := ⟨(.TIME_ALARM_SEC_HI n), 0, 32⟩
abbrev TIME_ALARM_CTRL_WIDTH (n : Nat) : FRef := ⟨(.TIME_ALARM_CTRL n), 16, 16⟩
abbrev TIME_ALARM_CTRL_GPIO_EN (n : Nat) : FRef := ⟨(.TIME_ALARM_CTRL n), 13, 1⟩
abbrev TIME_ALARM_CTRL_GPIO (n : Nat) : FRef := ⟨(.TIME_ALARM_CTRL n), 8, 5⟩
abbrev TIME_ALARM_CTRL_REP (n : Nat) : FRef := ⟨(.TIME_ALARM_CTRL n), 1, 3⟩
abbrev TIME_ALARM_CTRL_EN (n : Nat) : FRef := ⟨(.TIME_ALARM_CTRL n), 0, 1⟩
abbrev TIME_PORT_CFG_UDP_EN (x : Nat) : FRef := ⟨(.TIME_PORT_CFG x), 4, 1⟩
abbrev TIME_PORT_CFG_TC_MODE (x : Nat) : FRef := ⟨(.TIME_PORT_CFG x), 3, 1⟩
abbrev TIME_PORT_CFG_TC_EN (x : Nat) : FRef := ⟨(.TIME_PORT_CFG x), 2, 1⟩
abbrev TIME_PORT_CFG_ONESTEP_EN (x : Nat) : FRef := ⟨(.TIME_PORT_CFG x), 1, 1⟩
abbrev TIME_PORT_CFG_TS_EN (x : Nat) : FRef := ⟨(.TIME_PORT_CFG x), 0, 1⟩
abbrev TIME_PORT_TXLAT_LAT (x : Nat) : FRef := ⟨(.TIME_PORT_TXLAT x), 0, 20⟩
abbrev TIME_PORT_RXLAT_LAT (x : Nat) : FRef := ⟨(.TIME_PORT_RXLAT x), 0, 20⟩
abbrev TIME_PORT_ASYM_ASYM (x : Nat) : FRef := ⟨(.TIME_PORT_ASYM x), 0, 32⟩
abbrev TIME_PORT_LINKDLY_DLY (x : Nat) : FRef := ⟨(.TIME_PORT_LINKDLY x), 0, 32⟩
abbrev TIME_PORT_TSQ_STAT_OVF (x : Nat) : FRef := ⟨(.TIME_PORT_TSQ_STAT x), 16, 16⟩
abbrev TIME_PORT_TSQ_STAT_COUNT (x : Nat) : FRef := ⟨(.TIME_PORT_TSQ_STAT x), 0, 7⟩
abbrev TIME_PORT_TSQ_W0_VALID (x : Nat) : FRef := ⟨(.TIME_PORT_TSQ_W0 x), 31, 1⟩
abbrev TIME_PORT_TSQ_W0_NS (x : Nat) : FRef := ⟨(.TIME_PORT_TSQ_W0 x), 0, 30⟩
abbrev TIME_PORT_TSQ_W1_SEC (x : Nat) : FRef := ⟨(.TIME_PORT_TSQ_W1 x), 0, 32⟩
abbrev TIME_PORT_TSQ_W2_SUB (x : Nat) : FRef := ⟨(.TIME_PORT_TSQ_W2 x), 16, 16⟩
abbrev TIME_PORT_TSQ_W2_SEC_HI (x : Nat) : FRef := ⟨(.TIME_PORT_TSQ_W2 x), 0, 16⟩
abbrev TIME_PORT_TSQ_W3_DOMAIN (x : Nat) : FRef := ⟨(.TIME_PORT_TSQ_W3 x), 20, 8⟩
abbrev TIME_PORT_TSQ_W3_TYPE (x : Nat) : FRef := ⟨(.TIME_PORT_TSQ_W3 x), 16, 4⟩
abbrev TIME_PORT_TSQ_W3_SEQID (x : Nat) : FRef := ⟨(.TIME_PORT_TSQ_W3 x), 0, 16⟩
abbrev TIME_PORT_TC_CNT_SATURATED (x : Nat) : FRef := ⟨(.TIME_PORT_TC_CNT x), 16, 16⟩
abbrev TIME_PORT_TC_CNT_CORRECTED (x : Nat) : FRef := ⟨(.TIME_PORT_TC_CNT x), 0, 16⟩
abbrev STATION_PORT_CFG_ANEG (x : Nat) : FRef := ⟨(.STATION_PORT_CFG x), 3, 1⟩
abbrev STATION_PORT_CFG_HOST_UNMATCHED (x : Nat) : FRef := ⟨(.STATION_PORT_CFG x), 2, 1⟩
abbrev STATION_PORT_CFG_MCAST_ALL (x : Nat) : FRef := ⟨(.STATION_PORT_CFG x), 1, 1⟩
abbrev STATION_PORT_CFG_MODE (x : Nat) : FRef := ⟨(.STATION_PORT_CFG x), 0, 1⟩
abbrev STATION_PORT_STAT_ANEG_DONE (x : Nat) : FRef := ⟨(.STATION_PORT_STAT x), 2, 1⟩
abbrev STATION_PORT_STAT_LINK (x : Nat) : FRef := ⟨(.STATION_PORT_STAT x), 1, 1⟩
abbrev STATION_PORT_STAT_RXLOCK (x : Nat) : FRef := ⟨(.STATION_PORT_STAT x), 0, 1⟩
abbrev STATION_PORT_MAC_LO_MAC (x : Nat) : FRef := ⟨(.STATION_PORT_MAC_LO x), 0, 32⟩
abbrev STATION_PORT_MAC_HI_MAC (x : Nat) : FRef := ⟨(.STATION_PORT_MAC_HI x), 0, 32⟩
abbrev STATION_PORT_FIFO_TXFREE (x : Nat) : FRef := ⟨(.STATION_PORT_FIFO x), 16, 15⟩
abbrev STATION_PORT_FIFO_RXFRAMES (x : Nat) : FRef := ⟨(.STATION_PORT_FIFO x), 0, 9⟩
abbrev STATION_PORT_EVT_TXERR (x : Nat) : FRef := ⟨(.STATION_PORT_EVT x), 4, 1⟩
abbrev STATION_PORT_EVT_LINK_CHANGE (x : Nat) : FRef := ⟨(.STATION_PORT_EVT x), 3, 1⟩
abbrev STATION_PORT_EVT_RXOVF (x : Nat) : FRef := ⟨(.STATION_PORT_EVT x), 2, 1⟩
abbrev STATION_PORT_EVT_TX_EMPTY (x : Nat) : FRef := ⟨(.STATION_PORT_EVT x), 1, 1⟩
abbrev STATION_PORT_EVT_RX (x : Nat) : FRef := ⟨(.STATION_PORT_EVT x), 0, 1⟩
abbrev STATION_PORT_EVTEN_TXERR (x : Nat) : FRef := ⟨(.STATION_PORT_EVTEN x), 4, 1⟩
abbrev STATION_PORT_EVTEN_LINK_CHANGE (x : Nat) : FRef := ⟨(.STATION_PORT_EVTEN x), 3, 1⟩
abbrev STATION_PORT_EVTEN_RXOVF (x : Nat) : FRef := ⟨(.STATION_PORT_EVTEN x), 2, 1⟩
abbrev STATION_PORT_EVTEN_TX_EMPTY (x : Nat) : FRef := ⟨(.STATION_PORT_EVTEN x), 1, 1⟩
abbrev STATION_PORT_EVTEN_RX (x : Nat) : FRef := ⟨(.STATION_PORT_EVTEN x), 0, 1⟩
abbrev STATION_PORT_RXD0_DATA (x : Nat) : FRef := ⟨(.STATION_PORT_RXD0 x), 0, 32⟩
abbrev STATION_PORT_RXD1_DATA (x : Nat) : FRef := ⟨(.STATION_PORT_RXD1 x), 0, 32⟩
abbrev STATION_PORT_RXD2_DATA (x : Nat) : FRef := ⟨(.STATION_PORT_RXD2 x), 0, 32⟩
abbrev STATION_PORT_RXD3_DATA (x : Nat) : FRef := ⟨(.STATION_PORT_RXD3 x), 0, 32⟩
abbrev STATION_PORT_RXDATA_DATA (x : Nat) : FRef := ⟨(.STATION_PORT_RXDATA x), 0, 32⟩
abbrev STATION_PORT_TXD0_DATA (x : Nat) : FRef := ⟨(.STATION_PORT_TXD0 x), 0, 32⟩
abbrev STATION_PORT_TXD1_DATA (x : Nat) : FRef := ⟨(.STATION_PORT_TXD1 x), 0, 32⟩
abbrev STATION_PORT_TXD2_DATA (x : Nat) : FRef := ⟨(.STATION_PORT_TXD2 x), 0, 32⟩
abbrev STATION_PORT_TXDATA_DATA (x : Nat) : FRef := ⟨(.STATION_PORT_TXDATA x), 0, 32⟩
abbrev STATION_PORT_CNT0_RXERR (x : Nat) : FRef := ⟨(.STATION_PORT_CNT0 x), 16, 16⟩
abbrev STATION_PORT_CNT0_RXOK (x : Nat) : FRef := ⟨(.STATION_PORT_CNT0 x), 0, 16⟩
abbrev STATION_PORT_CNT1_RXDROP (x : Nat) : FRef := ⟨(.STATION_PORT_CNT1 x), 16, 16⟩
abbrev STATION_PORT_CNT1_TXOK (x : Nat) : FRef := ⟨(.STATION_PORT_CNT1 x), 0, 16⟩
abbrev STATION_SUB_CFG_EN (s : Nat) : FRef := ⟨(.STATION_SUB_CFG s), 31, 1⟩
abbrev STATION_SUB_CFG_SIM_EN (s : Nat) : FRef := ⟨(.STATION_SUB_CFG s), 30, 1⟩
abbrev STATION_SUB_CFG_SRCSEL (s : Nat) : FRef := ⟨(.STATION_SUB_CFG s), 29, 1⟩
abbrev STATION_SUB_CFG_NCUR (s : Nat) : FRef := ⟨(.STATION_SUB_CFG s), 24, 4⟩
abbrev STATION_SUB_CFG_NCH (s : Nat) : FRef := ⟨(.STATION_SUB_CFG s), 20, 4⟩
abbrev STATION_SUB_CFG_APPID (s : Nat) : FRef := ⟨(.STATION_SUB_CFG s), 0, 16⟩
abbrev STATION_SUB_MAC_LO_MAC (s : Nat) : FRef := ⟨(.STATION_SUB_MAC_LO s), 0, 32⟩
abbrev STATION_SUB_MAC_HI_MAC (s : Nat) : FRef := ⟨(.STATION_SUB_MAC_HI s), 0, 32⟩
abbrev STATION_SUB_IDCRC_VAL (s : Nat) : FRef := ⟨(.STATION_SUB_IDCRC s), 0, 32⟩
abbrev STATION_SUB_CONFREV_VAL (s : Nat) : FRef := ⟨(.STATION_SUB_CONFREV s), 0, 32⟩
abbrev STATION_SUB_CSCALE_VAL (s : Nat) : FRef := ⟨(.STATION_SUB_CSCALE s), 0, 32⟩
abbrev STATION_SUB_VSCALE_VAL (s : Nat) : FRef := ⟨(.STATION_SUB_VSCALE s), 0, 32⟩
abbrev STATION_SUB_TIMING_SMPWRAP (s : Nat) : FRef := ⟨(.STATION_SUB_TIMING s), 16, 16⟩
abbrev STATION_SUB_TIMING_TIMEOUT (s : Nat) : FRef := ⟨(.STATION_SUB_TIMING s), 0, 16⟩
abbrev STATION_SUB_STAT_LIVE (s : Nat) : FRef := ⟨(.STATION_SUB_STAT s), 31, 1⟩
abbrev STATION_SUB_STAT_WIDX (s : Nat) : FRef := ⟨(.STATION_SUB_STAT s), 28, 2⟩
abbrev STATION_SUB_STAT_REJECT (s : Nat) : FRef := ⟨(.STATION_SUB_STAT s), 16, 8⟩
abbrev STATION_SUB_STAT_SMPCNT (s : Nat) : FRef := ⟨(.STATION_SUB_STAT s), 0, 16⟩
abbrev STATION_SUB_LOST_LOST (s : Nat) : FRef := ⟨(.STATION_SUB_LOST s), 0, 24⟩
abbrev STATION_SUB_RING_VAL (s w : Nat) : FRef := ⟨(.STATION_SUB_RING s w), 0, 32⟩
abbrev STATION_GSUB_CFG_EN (g : Nat) : FRef := ⟨(.STATION_GSUB_CFG g), 31, 1⟩
abbrev STATION_GSUB_CFG_SIM_EN (g : Nat) : FRef := ⟨(.STATION_GSUB_CFG g), 30, 1⟩
abbrev STATION_GSUB_CFG_SRCSEL (g : Nat) : FRef := ⟨(.STATION_GSUB_CFG g), 29, 1⟩
abbrev STATION_GSUB_CFG_COPY_HOST (g : Nat) : FRef := ⟨(.STATION_GSUB_CFG g), 28, 1⟩
abbrev STATION_GSUB_CFG_APPID (g : Nat) : FRef := ⟨(.STATION_GSUB_CFG g), 0, 16⟩
abbrev STATION_GSUB_MAC_LO_MAC (g : Nat) : FRef := ⟨(.STATION_GSUB_MAC_LO g), 0, 32⟩
abbrev STATION_GSUB_MAC_HI_MAC (g : Nat) : FRef := ⟨(.STATION_GSUB_MAC_HI g), 0, 32⟩
abbrev STATION_GSUB_REFCRC_VAL (g : Nat) : FRef := ⟨(.STATION_GSUB_REFCRC g), 0, 32⟩
abbrev STATION_GSUB_CONFREV_VAL (g : Nat) : FRef := ⟨(.STATION_GSUB_CONFREV g), 0, 32⟩
abbrev STATION_GSUB_DEFAULT_VAL (g : Nat) : FRef := ⟨(.STATION_GSUB_DEFAULT g), 0, 32⟩
abbrev STATION_GSUB_BITS_BITS (g : Nat) : FRef := ⟨(.STATION_GSUB_BITS g), 0, 32⟩
abbrev STATION_GSUB_STAT_LIVE (g : Nat) : FRef := ⟨(.STATION_GSUB_STAT g), 31, 1⟩
abbrev STATION_GSUB_STAT_SIM (g : Nat) : FRef := ⟨(.STATION_GSUB_STAT g), 30, 1⟩
abbrev STATION_GSUB_STAT_NDS (g : Nat) : FRef := ⟨(.STATION_GSUB_STAT g), 29, 1⟩
abbrev STATION_GSUB_STAT_REJECT (g : Nat) : FRef := ⟨(.STATION_GSUB_STAT g), 16, 8⟩
abbrev STATION_GSUB_STAT_STNUM (g : Nat) : FRef := ⟨(.STATION_GSUB_STAT g), 0, 16⟩
abbrev STATION_PUB_CTRL_TLEN (u : Nat) : FRef := ⟨(.STATION_PUB_CTRL u), 23, 9⟩
abbrev STATION_PUB_CTRL_TALMUL (u : Nat) : FRef := ⟨(.STATION_PUB_CTRL u), 16, 4⟩
abbrev STATION_PUB_CTRL_NB (u : Nat) : FRef := ⟨(.STATION_PUB_CTRL u), 8, 6⟩
abbrev STATION_PUB_CTRL_PORTB (u : Nat) : FRef := ⟨(.STATION_PUB_CTRL u), 3, 1⟩
abbrev STATION_PUB_CTRL_PORTA (u : Nat) : FRef := ⟨(.STATION_PUB_CTRL u), 2, 1⟩
abbrev STATION_PUB_CTRL_SAFE_ONLY (u : Nat) : FRef := ⟨(.STATION_PUB_CTRL u), 1, 1⟩
abbrev STATION_PUB_CTRL_EN (u : Nat) : FRef := ⟨(.STATION_PUB_CTRL u), 0, 1⟩
abbrev STATION_PUB_TIMING_TMAX (u : Nat) : FRef := ⟨(.STATION_PUB_TIMING u), 16, 16⟩
abbrev STATION_PUB_TIMING_TMIN (u : Nat) : FRef := ⟨(.STATION_PUB_TIMING u), 0, 16⟩
abbrev STATION_PUB_DATA_DATA (u : Nat) : FRef := ⟨(.STATION_PUB_DATA u), 0, 32⟩
abbrev STATION_PUB_STNUM_STNUM (u : Nat) : FRef := ⟨(.STATION_PUB_STNUM u), 0, 32⟩
abbrev STATION_PUB_SQNUM_SQNUM (u : Nat) : FRef := ⟨(.STATION_PUB_SQNUM u), 0, 32⟩
abbrev STATION_PUB_TPL_VAL (u w : Nat) : FRef := ⟨(.STATION_PUB_TPL u w), 0, 32⟩
abbrev STATION_SES_CTRL_SID (j : Nat) : FRef := ⟨(.STATION_SES_CTRL j), 16, 16⟩
abbrev STATION_SES_CTRL_STOP_ON_ERR (j : Nat) : FRef := ⟨(.STATION_SES_CTRL j), 2, 1⟩
abbrev STATION_SES_CTRL_WRITE (j : Nat) : FRef := ⟨(.STATION_SES_CTRL j), 1, 1⟩
abbrev STATION_SES_CTRL_EN (j : Nat) : FRef := ⟨(.STATION_SES_CTRL j), 0, 1⟩
abbrev STATION_SES_PEER_LO_VAL (j : Nat) : FRef := ⟨(.STATION_SES_PEER_LO j), 0, 32⟩
abbrev STATION_SES_PEER_HI_VAL (j : Nat) : FRef := ⟨(.STATION_SES_PEER_HI j), 0, 32⟩
abbrev STATION_SES_SALT_VAL (j : Nat) : FRef := ⟨(.STATION_SES_SALT j), 0, 32⟩
abbrev STATION_SES_WBASE_VAL (j : Nat) : FRef := ⟨(.STATION_SES_WBASE j), 0, 32⟩
abbrev STATION_SES_WSIZE_VAL (j : Nat) : FRef := ⟨(.STATION_SES_WSIZE j), 0, 32⟩
abbrev STATION_SES_SEQ_LO_SEQ (j : Nat) : FRef := ⟨(.STATION_SES_SEQ_LO j), 0, 32⟩
abbrev STATION_SES_SEQ_HI_SEQ (j : Nat) : FRef := ⟨(.STATION_SES_SEQ_HI j), 0, 32⟩
abbrev STATION_SES_STAT_STRIKES (j : Nat) : FRef := ⟨(.STATION_SES_STAT j), 24, 8⟩
abbrev STATION_SES_STAT_BADTAG (j : Nat) : FRef := ⟨(.STATION_SES_STAT j), 16, 8⟩
abbrev STATION_SES_STAT_REPLAY (j : Nat) : FRef := ⟨(.STATION_SES_STAT j), 8, 8⟩
abbrev STATION_SES_STAT_DONE (j : Nat) : FRef := ⟨(.STATION_SES_STAT j), 0, 8⟩
abbrev STATION_SES_KEY_KEY (j i : Nat) : FRef := ⟨(.STATION_SES_KEY j i), 0, 32⟩
abbrev TANDEM_TRANS_VALID (n : Nat) : FRef := ⟨(.TANDEM_TRANS n), 31, 1⟩
abbrev TANDEM_TRANS_NS (n : Nat) : FRef := ⟨(.TANDEM_TRANS n), 0, 16⟩
abbrev RIM_CTRL_TRACK_EN (n : Nat) : FRef := ⟨(.RIM_CTRL n), 11, 1⟩
abbrev RIM_CTRL_AUTO_RESCAN (n : Nat) : FRef := ⟨(.RIM_CTRL n), 10, 1⟩
abbrev RIM_CTRL_AUTO_ADMIT (n : Nat) : FRef := ⟨(.RIM_CTRL n), 9, 1⟩
abbrev RIM_CTRL_DISCOVER (n : Nat) : FRef := ⟨(.RIM_CTRL n), 8, 1⟩
abbrev RIM_CTRL_NODES (n : Nat) : FRef := ⟨(.RIM_CTRL n), 0, 4⟩
abbrev RIM_STAT_EXTRA (n : Nat) : FRef := ⟨(.RIM_STAT n), 12, 4⟩
abbrev RIM_STAT_PRESENT (n : Nat) : FRef := ⟨(.RIM_STAT n), 8, 4⟩
abbrev RIM_STAT_FW_BUSY (n : Nat) : FRef := ⟨(.RIM_STAT n), 6, 1⟩
abbrev RIM_STAT_DISC_BUSY (n : Nat) : FRef := ⟨(.RIM_STAT n), 5, 1⟩
abbrev RIM_STAT_PEER (n : Nat) : FRef := ⟨(.RIM_STAT n), 4, 1⟩
abbrev RIM_STAT_SIDE_VALID (n : Nat) : FRef := ⟨(.RIM_STAT n), 3, 1⟩
abbrev RIM_STAT_SIDE (n : Nat) : FRef := ⟨(.RIM_STAT n), 2, 1⟩
abbrev RIM_STAT_TXON (n : Nat) : FRef := ⟨(.RIM_STAT n), 1, 1⟩
abbrev RIM_STAT_RXLOCK (n : Nat) : FRef := ⟨(.RIM_STAT n), 0, 1⟩
abbrev RIM_LATENCY_VALID (n : Nat) : FRef := ⟨(.RIM_LATENCY n), 16, 1⟩
abbrev RIM_LATENCY_LAT (n : Nat) : FRef := ⟨(.RIM_LATENCY n), 0, 16⟩
abbrev RIM_TCFG_CUT_DLY (n : Nat) : FRef := ⟨(.RIM_TCFG n), 16, 16⟩
abbrev RIM_TCFG_TEN (n : Nat) : FRef := ⟨(.RIM_TCFG n), 15, 1⟩
abbrev RIM_TCFG_TRG (n : Nat) : FRef := ⟨(.RIM_TCFG n), 0, 9⟩
abbrev RIM_PEER_CLAIM_LO_CLAIM (n : Nat) : FRef := ⟨(.RIM_PEER_CLAIM_LO n), 0, 32⟩
abbrev RIM_PEER_CLAIM_HI_CLAIM (n : Nat) : FRef := ⟨(.RIM_PEER_CLAIM_HI n), 0, 32⟩
abbrev RIM_CNT_LATE (n : Nat) : FRef := ⟨(.RIM_CNT n), 16, 16⟩
abbrev RIM_CNT_CRC (n : Nat) : FRef := ⟨(.RIM_CNT n), 0, 16⟩
abbrev RIM_EVT_STALE (n : Nat) : FRef := ⟨(.RIM_EVT n), 6, 1⟩
abbrev RIM_EVT_CUT (n : Nat) : FRef := ⟨(.RIM_EVT n), 5, 1⟩
abbrev RIM_EVT_FW_DONE (n : Nat) : FRef := ⟨(.RIM_EVT n), 4, 1⟩
abbrev RIM_EVT_DISC_DONE (n : Nat) : FRef := ⟨(.RIM_EVT n), 3, 1⟩
abbrev RIM_EVT_FAULT (n : Nat) : FRef := ⟨(.RIM_EVT n), 2, 1⟩
abbrev RIM_EVT_SPOKE_CHANGE (n : Nat) : FRef := ⟨(.RIM_EVT n), 1, 1⟩
abbrev RIM_EVT_LINK_CHANGE (n : Nat) : FRef := ⟨(.RIM_EVT n), 0, 1⟩
abbrev RIM_FW_SRC_VAL (n : Nat) : FRef := ⟨(.RIM_FW_SRC n), 0, 32⟩
abbrev RIM_FW_LEN_VAL (n : Nat) : FRef := ⟨(.RIM_FW_LEN n), 0, 32⟩
abbrev RIM_FW_CTRL_ABORT (n : Nat) : FRef := ⟨(.RIM_FW_CTRL n), 10, 1⟩
abbrev RIM_FW_CTRL_ACTIVATE (n : Nat) : FRef := ⟨(.RIM_FW_CTRL n), 9, 1⟩
abbrev RIM_FW_CTRL_START (n : Nat) : FRef := ⟨(.RIM_FW_CTRL n), 8, 1⟩
abbrev RIM_FW_CTRL_MASK (n : Nat) : FRef := ⟨(.RIM_FW_CTRL n), 0, 8⟩
abbrev RIM_FW_STAT_FAIL (n : Nat) : FRef := ⟨(.RIM_FW_STAT n), 8, 8⟩
abbrev RIM_FW_STAT_DONE (n : Nat) : FRef := ⟨(.RIM_FW_STAT n), 0, 8⟩
abbrev RIM_XCFG_FW_PACE (n : Nat) : FRef := ⟨(.RIM_XCFG n), 24, 8⟩
abbrev RIM_XCFG_LOSS (n : Nat) : FRef := ⟨(.RIM_XCFG n), 16, 8⟩
abbrev RIM_XCFG_ECHO_INT (n : Nat) : FRef := ⟨(.RIM_XCFG n), 8, 8⟩
abbrev RIM_XCFG_CRC_LIMIT (n : Nat) : FRef := ⟨(.RIM_XCFG n), 0, 8⟩
abbrev RIM_EVTEN_STALE (n : Nat) : FRef := ⟨(.RIM_EVTEN n), 6, 1⟩
abbrev RIM_EVTEN_CUT (n : Nat) : FRef := ⟨(.RIM_EVTEN n), 5, 1⟩
abbrev RIM_EVTEN_FW_DONE (n : Nat) : FRef := ⟨(.RIM_EVTEN n), 4, 1⟩
abbrev RIM_EVTEN_DISC_DONE (n : Nat) : FRef := ⟨(.RIM_EVTEN n), 3, 1⟩
abbrev RIM_EVTEN_FAULT (n : Nat) : FRef := ⟨(.RIM_EVTEN n), 2, 1⟩
abbrev RIM_EVTEN_SPOKE_CHANGE (n : Nat) : FRef := ⟨(.RIM_EVTEN n), 1, 1⟩
abbrev RIM_EVTEN_LINK_CHANGE (n : Nat) : FRef := ⟨(.RIM_EVTEN n), 0, 1⟩
abbrev RIM_FW_DIGEST_D (n i : Nat) : FRef := ⟨(.RIM_FW_DIGEST n i), 0, 32⟩
abbrev SPOKE_STATE_CAUSE (k : Nat) : FRef := ⟨(.SPOKE_STATE k), 4, 4⟩
abbrev SPOKE_STATE_STATE (k : Nat) : FRef := ⟨(.SPOKE_STATE k), 0, 3⟩
abbrev SPOKE_CTRL_RESCAN (k : Nat) : FRef := ⟨(.SPOKE_CTRL k), 3, 1⟩
abbrev SPOKE_CTRL_UNBYPASS (k : Nat) : FRef := ⟨(.SPOKE_CTRL k), 2, 1⟩
abbrev SPOKE_CTRL_BYPASS (k : Nat) : FRef := ⟨(.SPOKE_CTRL k), 1, 1⟩
abbrev SPOKE_CTRL_ADMIT (k : Nat) : FRef := ⟨(.SPOKE_CTRL k), 0, 1⟩
abbrev SPOKE_UID_LO_VAL (k : Nat) : FRef := ⟨(.SPOKE_UID_LO k), 0, 32⟩
abbrev SPOKE_UID_HI_VAL (k : Nat) : FRef := ⟨(.SPOKE_UID_HI k), 0, 32⟩
abbrev SPOKE_TYPE_VAL (k : Nat) : FRef := ⟨(.SPOKE_TYPE k), 0, 32⟩
abbrev SPOKE_SAFE_STATE_SAFE (k : Nat) : FRef := ⟨(.SPOKE_SAFE_STATE k), 0, 1⟩
abbrev SPOKE_WDOG_INTERLOCK (k : Nat) : FRef := ⟨(.SPOKE_WDOG k), 16, 8⟩
abbrev SPOKE_WDOG_WDOG (k : Nat) : FRef := ⟨(.SPOKE_WDOG k), 0, 16⟩
abbrev SPOKE_DLY_VAL (k : Nat) : FRef := ⟨(.SPOKE_DLY k), 0, 32⟩
abbrev SPOKE_HOPDLY_VAL (k : Nat) : FRef := ⟨(.SPOKE_HOPDLY k), 0, 32⟩
abbrev SPOKE_CLAIM_LO_CLAIM (k : Nat) : FRef := ⟨(.SPOKE_CLAIM_LO k), 0, 32⟩
abbrev SPOKE_CLAIM_HI_CLAIM (k : Nat) : FRef := ⟨(.SPOKE_CLAIM_HI k), 0, 32⟩
abbrev SPOKE_FAULT_VAL (k : Nat) : FRef := ⟨(.SPOKE_FAULT k), 0, 32⟩
abbrev SPOKE_FWVER_VAL (k : Nat) : FRef := ⟨(.SPOKE_FWVER k), 0, 32⟩
abbrev SPOKE_NSTAT_VAL (k : Nat) : FRef := ⟨(.SPOKE_NSTAT k), 0, 32⟩
abbrev SPOKE_XUID_LO_VAL (k : Nat) : FRef := ⟨(.SPOKE_XUID_LO k), 0, 32⟩
abbrev SPOKE_XUID_HI_VAL (k : Nat) : FRef := ⟨(.SPOKE_XUID_HI k), 0, 32⟩
abbrev SPOKE_XTYPE_VAL (k : Nat) : FRef := ⟨(.SPOKE_XTYPE k), 0, 32⟩
abbrev SPOKE_ASYM_ASYM (k : Nat) : FRef := ⟨(.SPOKE_ASYM k), 0, 32⟩
abbrev SPOKE_PAR_VAL (k i : Nat) : FRef := ⟨(.SPOKE_PAR k i), 0, 32⟩
abbrev EDGE_DTP_A_MISS_LIM (q : Nat) : FRef := ⟨(.EDGE_DTP_A q), 24, 8⟩
abbrev EDGE_DTP_A_FILT (q : Nat) : FRef := ⟨(.EDGE_DTP_A q), 16, 3⟩
abbrev EDGE_DTP_A_STEP (q : Nat) : FRef := ⟨(.EDGE_DTP_A q), 8, 8⟩
abbrev EDGE_DTP_A_MARGIN (q : Nat) : FRef := ⟨(.EDGE_DTP_A q), 0, 8⟩
abbrev EDGE_DTP_B_Y_MIN (q : Nat) : FRef := ⟨(.EDGE_DTP_B q), 0, 8⟩
abbrev EDGE_CAR_PERIOD_PERIOD (c : Nat) : FRef := ⟨(.EDGE_CAR_PERIOD c), 0, 24⟩
abbrev EDGE_CAR_CTRL_REF (c : Nat) : FRef := ⟨(.EDGE_CAR_CTRL c), 8, 6⟩
abbrev EDGE_CAR_CTRL_GATED (c : Nat) : FRef := ⟨(.EDGE_CAR_CTRL c), 2, 1⟩
abbrev EDGE_CAR_CTRL_ALIGN (c : Nat) : FRef := ⟨(.EDGE_CAR_CTRL c), 1, 1⟩
abbrev EDGE_CAR_CTRL_EN (c : Nat) : FRef := ⟨(.EDGE_CAR_CTRL c), 0, 1⟩
abbrev EDGE_CAR_START_NS_VAL (c : Nat) : FRef := ⟨(.EDGE_CAR_START_NS c), 0, 32⟩
abbrev EDGE_CAR_START_SEC_VAL (c : Nat) : FRef := ⟨(.EDGE_CAR_START_SEC c), 0, 32⟩
abbrev EDGE_CAR_XFER_XFER (c : Nat) : FRef := ⟨(.EDGE_CAR_XFER c), 0, 32⟩
abbrev EDGE_CAR_STAT_CPERIOD (c : Nat) : FRef := ⟨(.EDGE_CAR_STAT c), 8, 24⟩
abbrev EDGE_CAR_STAT_XFER_PEND (c : Nat) : FRef := ⟨(.EDGE_CAR_STAT c), 2, 1⟩
abbrev EDGE_CAR_STAT_ARMED (c : Nat) : FRef := ⟨(.EDGE_CAR_STAT c), 1, 1⟩
abbrev EDGE_CAR_STAT_RUN (c : Nat) : FRef := ⟨(.EDGE_CAR_STAT c), 0, 1⟩
abbrev EDGE_CAR_PSTART_NS_VAL (c : Nat) : FRef := ⟨(.EDGE_CAR_PSTART_NS c), 0, 32⟩
abbrev EDGE_CAR_PSTART_SEC_VAL (c : Nat) : FRef := ⟨(.EDGE_CAR_PSTART_SEC c), 0, 32⟩
abbrev EDGE_TRG_CMP_EN (t : Nat) : FRef := ⟨(.EDGE_TRG_CMP t), 31, 1⟩
abbrev EDGE_TRG_CMP_ACTION (t : Nat) : FRef := ⟨(.EDGE_TRG_CMP t), 24, 7⟩
abbrev EDGE_TRG_CMP_CMP (t : Nat) : FRef := ⟨(.EDGE_TRG_CMP t), 0, 24⟩
abbrev EDGE_LEG_DUTY_DUTY (l : Nat) : FRef := ⟨(.EDGE_LEG_DUTY l), 0, 24⟩
abbrev EDGE_LEG_OFFSET_OFFSET (l : Nat) : FRef := ⟨(.EDGE_LEG_OFFSET l), 0, 24⟩
abbrev EDGE_LEG_DT_PROF (l : Nat) : FRef := ⟨(.EDGE_LEG_DT l), 16, 3⟩
abbrev EDGE_LEG_DT_ADAPT (l : Nat) : FRef := ⟨(.EDGE_LEG_DT l), 12, 1⟩
abbrev EDGE_LEG_DT_DT (l : Nat) : FRef := ⟨(.EDGE_LEG_DT l), 0, 12⟩
abbrev EDGE_LEG_MINP_POLICY (l : Nat) : FRef := ⟨(.EDGE_LEG_MINP l), 12, 2⟩
abbrev EDGE_LEG_MINP_MINP (l : Nat) : FRef := ⟨(.EDGE_LEG_MINP l), 0, 12⟩
abbrev EDGE_LEG_CTRL_CAR (l : Nat) : FRef := ⟨(.EDGE_LEG_CTRL l), 8, 6⟩
abbrev EDGE_LEG_CTRL_EN (l : Nat) : FRef := ⟨(.EDGE_LEG_CTRL l), 0, 1⟩
abbrev EDGE_LEG_DTLIM_DT_MAX (l : Nat) : FRef := ⟨(.EDGE_LEG_DTLIM l), 16, 12⟩
abbrev EDGE_LEG_DTLIM_DT_MIN (l : Nat) : FRef := ⟨(.EDGE_LEG_DTLIM l), 0, 12⟩
abbrev EDGE_LEG_ADT_LIM_F (l : Nat) : FRef := ⟨(.EDGE_LEG_ADT l), 29, 1⟩
abbrev EDGE_LEG_ADT_FB_F (l : Nat) : FRef := ⟨(.EDGE_LEG_ADT l), 28, 1⟩
abbrev EDGE_LEG_ADT_FALL (l : Nat) : FRef := ⟨(.EDGE_LEG_ADT l), 16, 12⟩
abbrev EDGE_LEG_ADT_LIM_R (l : Nat) : FRef := ⟨(.EDGE_LEG_ADT l), 13, 1⟩
abbrev EDGE_LEG_ADT_FB_R (l : Nat) : FRef := ⟨(.EDGE_LEG_ADT l), 12, 1⟩
abbrev EDGE_LEG_ADT_RISE (l : Nat) : FRef := ⟨(.EDGE_LEG_ADT l), 0, 12⟩
abbrev EDGE_LEG_DSTAT_LAST_CAUSE (l : Nat) : FRef := ⟨(.EDGE_LEG_DSTAT l), 24, 3⟩
abbrev EDGE_LEG_DSTAT_MISS_F (l : Nat) : FRef := ⟨(.EDGE_LEG_DSTAT l), 16, 8⟩
abbrev EDGE_LEG_DSTAT_MISS_R (l : Nat) : FRef := ⟨(.EDGE_LEG_DSTAT l), 8, 8⟩
abbrev EDGE_LEG_DSTAT_REJECTS (l : Nat) : FRef := ⟨(.EDGE_LEG_DSTAT l), 0, 8⟩
abbrev EDGE_LEG_PSTAT_DROPPED (l : Nat) : FRef := ⟨(.EDGE_LEG_PSTAT l), 8, 8⟩
abbrev EDGE_LEG_PSTAT_STRETCHED (l : Nat) : FRef := ⟨(.EDGE_LEG_PSTAT l), 0, 8⟩
abbrev EDGE_LEG_CARRY_LOWER (l : Nat) : FRef := ⟨(.EDGE_LEG_CARRY l), 16, 13⟩
abbrev EDGE_LEG_CARRY_UPPER (l : Nat) : FRef := ⟨(.EDGE_LEG_CARRY l), 0, 13⟩
abbrev EDGE_LEG_ESEQ_HELD (l : Nat) : FRef := ⟨(.EDGE_LEG_ESEQ l), 16, 2⟩
abbrev EDGE_LEG_ESEQ_LAST (l : Nat) : FRef := ⟨(.EDGE_LEG_ESEQ l), 0, 16⟩
abbrev ADC_CTRL_OVR_SRC (c : Nat) : FRef := ⟨(.ADC_CTRL c), 12, 1⟩
abbrev ADC_CTRL_FLUSH (c : Nat) : FRef := ⟨(.ADC_CTRL c), 10, 1⟩
abbrev ADC_CTRL_SWTRIG (c : Nat) : FRef := ⟨(.ADC_CTRL c), 9, 1⟩
abbrev ADC_CTRL_RING (c : Nat) : FRef := ⟨(.ADC_CTRL c), 8, 1⟩
abbrev ADC_CTRL_BURST (c : Nat) : FRef := ⟨(.ADC_CTRL c), 4, 3⟩
abbrev ADC_CTRL_MODE (c : Nat) : FRef := ⟨(.ADC_CTRL c), 0, 2⟩
abbrev ADC_SEL_EMPTY (c : Nat) : FRef := ⟨(.ADC_SEL c), 31, 1⟩
abbrev ADC_SEL_DIAG (c : Nat) : FRef := ⟨(.ADC_SEL c), 15, 1⟩
abbrev ADC_SEL_PAIRED (c : Nat) : FRef := ⟨(.ADC_SEL c), 14, 1⟩
abbrev ADC_SEL_ACQ (c : Nat) : FRef := ⟨(.ADC_SEL c), 8, 6⟩
abbrev ADC_SEL_CHAN (c : Nat) : FRef := ⟨(.ADC_SEL c), 0, 7⟩
abbrev ADC_QSTAT_COUNT (c : Nat) : FRef := ⟨(.ADC_QSTAT c), 0, 4⟩
abbrev ADC_INJ_PEND (c : Nat) : FRef := ⟨(.ADC_INJ c), 31, 1⟩
abbrev ADC_INJ_ACQ (c : Nat) : FRef := ⟨(.ADC_INJ c), 8, 6⟩
abbrev ADC_INJ_CHAN (c : Nat) : FRef := ⟨(.ADC_INJ c), 0, 7⟩
abbrev ADC_INJRES_VAL (c : Nat) : FRef := ⟨(.ADC_INJRES c), 0, 32⟩
abbrev ADC_INJTS_VAL (c : Nat) : FRef := ⟨(.ADC_INJTS c), 0, 32⟩
abbrev ADC_FMT_TS (c : Nat) : FRef := ⟨(.ADC_FMT c), 4, 1⟩
abbrev ADC_FMT_ALIGN (c : Nat) : FRef := ⟨(.ADC_FMT c), 2, 1⟩
abbrev ADC_FMT_RES (c : Nat) : FRef := ⟨(.ADC_FMT c), 0, 2⟩
abbrev ADC_RES_WORD (c : Nat) : FRef := ⟨(.ADC_RES c), 0, 32⟩
abbrev ADC_FSTAT_OVF (c : Nat) : FRef := ⟨(.ADC_FSTAT c), 16, 16⟩
abbrev ADC_FSTAT_LEVEL (c : Nat) : FRef := ⟨(.ADC_FSTAT c), 0, 6⟩
abbrev ADC_CAL_STATUS (c : Nat) : FRef := ⟨(.ADC_CAL c), 8, 2⟩
abbrev ADC_CAL_CAL_PEND (c : Nat) : FRef := ⟨(.ADC_CAL c), 2, 1⟩
abbrev ADC_CAL_BUSY (c : Nat) : FRef := ⟨(.ADC_CAL c), 1, 1⟩
abbrev ADC_CAL_START (c : Nat) : FRef := ⟨(.ADC_CAL c), 0, 1⟩
abbrev ADC_STAT_TRGOVR (c : Nat) : FRef := ⟨(.ADC_STAT c), 24, 8⟩
abbrev ADC_STAT_WAIT_PAIR (c : Nat) : FRef := ⟨(.ADC_STAT c), 3, 1⟩
abbrev ADC_STAT_CARRIED (c : Nat) : FRef := ⟨(.ADC_STAT c), 2, 1⟩
abbrev ADC_STAT_CARRYING (c : Nat) : FRef := ⟨(.ADC_STAT c), 1, 1⟩
abbrev ADC_STAT_BUSY (c : Nat) : FRef := ⟨(.ADC_STAT c), 0, 1⟩
abbrev ADC_EVT_OVR (c : Nat) : FRef := ⟨(.ADC_EVT c), 6, 1⟩
abbrev ADC_EVT_TRG_OVR (c : Nat) : FRef := ⟨(.ADC_EVT c), 5, 1⟩
abbrev ADC_EVT_FIFO_OVF (c : Nat) : FRef := ⟨(.ADC_EVT c), 4, 1⟩
abbrev ADC_EVT_QEMPTY (c : Nat) : FRef := ⟨(.ADC_EVT c), 3, 1⟩
abbrev ADC_EVT_CAL_DONE (c : Nat) : FRef := ⟨(.ADC_EVT c), 2, 1⟩
abbrev ADC_EVT_BURST_DONE (c : Nat) : FRef := ⟨(.ADC_EVT c), 1, 1⟩
abbrev ADC_EVT_INJ_DONE (c : Nat) : FRef := ⟨(.ADC_EVT c), 0, 1⟩
abbrev ADC_XCFG_SKIP_EMPTY (c : Nat) : FRef := ⟨(.ADC_XCFG c), 0, 1⟩
abbrev ADC_CALVAL_GAIN (c : Nat) : FRef := ⟨(.ADC_CALVAL c), 16, 16⟩
abbrev ADC_CALVAL_OFFSET (c : Nat) : FRef := ⟨(.ADC_CALVAL c), 0, 16⟩
abbrev ADC_EVTEN_OVR (c : Nat) : FRef := ⟨(.ADC_EVTEN c), 6, 1⟩
abbrev ADC_EVTEN_TRG_OVR (c : Nat) : FRef := ⟨(.ADC_EVTEN c), 5, 1⟩
abbrev ADC_EVTEN_FIFO_OVF (c : Nat) : FRef := ⟨(.ADC_EVTEN c), 4, 1⟩
abbrev ADC_EVTEN_QEMPTY (c : Nat) : FRef := ⟨(.ADC_EVTEN c), 3, 1⟩
abbrev ADC_EVTEN_CAL_DONE (c : Nat) : FRef := ⟨(.ADC_EVTEN c), 2, 1⟩
abbrev ADC_EVTEN_BURST_DONE (c : Nat) : FRef := ⟨(.ADC_EVTEN c), 1, 1⟩
abbrev ADC_EVTEN_INJ_DONE (c : Nat) : FRef := ⟨(.ADC_EVTEN c), 0, 1⟩
abbrev ADC_PAIR_TOL_EN (p : Nat) : FRef := ⟨(.ADC_PAIR_TOL p), 16, 1⟩
abbrev ADC_PAIR_TOL_TOL (p : Nat) : FRef := ⟨(.ADC_PAIR_TOL p), 0, 16⟩
abbrev ADC_DAC_PIN (p : Nat) : FRef := ⟨(.ADC_DAC p), 16, 6⟩
abbrev ADC_DAC_MODE (p : Nat) : FRef := ⟨(.ADC_DAC p), 12, 2⟩
abbrev ADC_DAC_CODE (p : Nat) : FRef := ⟨(.ADC_DAC p), 0, 12⟩
abbrev ADC_DIAG_CFG_MODE (p : Nat) : FRef := ⟨(.ADC_DIAG_CFG p), 0, 1⟩
abbrev ADC_PEVT_DIAG_PASS (p : Nat) : FRef := ⟨(.ADC_PEVT p), 3, 1⟩
abbrev ADC_PEVT_DIAG_FAIL (p : Nat) : FRef := ⟨(.ADC_PEVT p), 2, 1⟩
abbrev ADC_PEVT_PAIR_TIMEOUT (p : Nat) : FRef := ⟨(.ADC_PEVT p), 1, 1⟩
abbrev ADC_PEVT_PLAUS_FAIL (p : Nat) : FRef := ⟨(.ADC_PEVT p), 0, 1⟩
abbrev ADC_DIAG_LO_LIMIT (p : Nat) : FRef := ⟨(.ADC_DIAG_LO p), 0, 32⟩
abbrev ADC_DIAG_HI_LIMIT (p : Nat) : FRef := ⟨(.ADC_DIAG_HI p), 0, 32⟩
abbrev ADC_PSTAT_DIFF (p : Nat) : FRef := ⟨(.ADC_PSTAT p), 16, 16⟩
abbrev ADC_PSTAT_FAILS (p : Nat) : FRef := ⟨(.ADC_PSTAT p), 8, 8⟩
abbrev ADC_PSTAT_SKIPPED (p : Nat) : FRef := ⟨(.ADC_PSTAT p), 0, 8⟩
abbrev ADC_PEVTEN_DIAG_PASS (p : Nat) : FRef := ⟨(.ADC_PEVTEN p), 3, 1⟩
abbrev ADC_PEVTEN_DIAG_FAIL (p : Nat) : FRef := ⟨(.ADC_PEVTEN p), 2, 1⟩
abbrev ADC_PEVTEN_PAIR_TIMEOUT (p : Nat) : FRef := ⟨(.ADC_PEVTEN p), 1, 1⟩
abbrev ADC_PEVTEN_PLAUS_FAIL (p : Nat) : FRef := ⟨(.ADC_PEVTEN p), 0, 1⟩
abbrev ADC_CHRES_VAL (ch : Nat) : FRef := ⟨(.ADC_CHRES ch), 0, 32⟩
abbrev ADC_CHTS_VAL (ch : Nat) : FRef := ⟨(.ADC_CHTS ch), 0, 32⟩
abbrev LOOP_CTRL_PSTART (e : Nat) : FRef := ⟨(.LOOP_CTRL e), 16, 9⟩
abbrev LOOP_CTRL_CUTRIM (e : Nat) : FRef := ⟨(.LOOP_CTRL e), 8, 5⟩
abbrev LOOP_CTRL_SRC (e : Nat) : FRef := ⟨(.LOOP_CTRL e), 4, 2⟩
abbrev LOOP_CTRL_SWSTART (e : Nat) : FRef := ⟨(.LOOP_CTRL e), 1, 1⟩
abbrev LOOP_CTRL_EN (e : Nat) : FRef := ⟨(.LOOP_CTRL e), 0, 1⟩
abbrev LOOP_STAT_PC (e : Nat) : FRef := ⟨(.LOOP_STAT e), 16, 9⟩
abbrev LOOP_STAT_OVERRUN (e : Nat) : FRef := ⟨(.LOOP_STAT e), 11, 1⟩
abbrev LOOP_STAT_NAN (e : Nat) : FRef := ⟨(.LOOP_STAT e), 10, 1⟩
abbrev LOOP_STAT_MISS (e : Nat) : FRef := ⟨(.LOOP_STAT e), 9, 1⟩
abbrev LOOP_STAT_SAT (e : Nat) : FRef := ⟨(.LOOP_STAT e), 8, 1⟩
abbrev LOOP_STAT_WAITING (e : Nat) : FRef := ⟨(.LOOP_STAT e), 2, 1⟩
abbrev LOOP_STAT_RUNNING (e : Nat) : FRef := ⟨(.LOOP_STAT e), 1, 1⟩
abbrev LOOP_DEADLINE_DL (e : Nat) : FRef := ⟨(.LOOP_DEADLINE e), 0, 18⟩
abbrev LOOP_CNT_RUNS (e : Nat) : FRef := ⟨(.LOOP_CNT e), 16, 16⟩
abbrev LOOP_CNT_MISSES (e : Nat) : FRef := ⟨(.LOOP_CNT e), 0, 16⟩
abbrev LOOP_MISSINFO_ABANDONED (e : Nat) : FRef := ⟨(.LOOP_MISSINFO e), 16, 16⟩
abbrev LOOP_MISSINFO_PC (e : Nat) : FRef := ⟨(.LOOP_MISSINFO e), 0, 9⟩
abbrev LOOP_NANINFO_VALID (e : Nat) : FRef := ⟨(.LOOP_NANINFO e), 31, 1⟩
abbrev LOOP_NANINFO_SECTION (e : Nat) : FRef := ⟨(.LOOP_NANINFO e), 16, 12⟩
abbrev LOOP_NANINFO_CASCADE (e : Nat) : FRef := ⟨(.LOOP_NANINFO e), 0, 10⟩
abbrev LOOP_EVT_DONE (e : Nat) : FRef := ⟨(.LOOP_EVT e), 6, 1⟩
abbrev LOOP_EVT_TRIG (e : Nat) : FRef := ⟨(.LOOP_EVT e), 5, 1⟩
abbrev LOOP_EVT_SWAP (e : Nat) : FRef := ⟨(.LOOP_EVT e), 4, 1⟩
abbrev LOOP_EVT_OVERRUN (e : Nat) : FRef := ⟨(.LOOP_EVT e), 3, 1⟩
abbrev LOOP_EVT_NAN (e : Nat) : FRef := ⟨(.LOOP_EVT e), 2, 1⟩
abbrev LOOP_EVT_MISS (e : Nat) : FRef := ⟨(.LOOP_EVT e), 1, 1⟩
abbrev LOOP_EVT_END (e : Nat) : FRef := ⟨(.LOOP_EVT e), 0, 1⟩
abbrev LOOP_TRACE_CFG_PRE (e : Nat) : FRef := ⟨(.LOOP_TRACE_CFG e), 16, 16⟩
abbrev LOOP_TRACE_CFG_DECIM (e : Nat) : FRef := ⟨(.LOOP_TRACE_CFG e), 8, 8⟩
abbrev LOOP_TRACE_CFG_NODES (e : Nat) : FRef := ⟨(.LOOP_TRACE_CFG e), 0, 5⟩
abbrev LOOP_TRACE_TRIG_SRC (e : Nat) : FRef := ⟨(.LOOP_TRACE_TRIG e), 8, 6⟩
abbrev LOOP_TRACE_TRIG_TNODE (e : Nat) : FRef := ⟨(.LOOP_TRACE_TRIG e), 4, 4⟩
abbrev LOOP_TRACE_TRIG_DIR (e : Nat) : FRef := ⟨(.LOOP_TRACE_TRIG e), 2, 2⟩
abbrev LOOP_TRACE_TRIG_KIND (e : Nat) : FRef := ⟨(.LOOP_TRACE_TRIG e), 0, 2⟩
abbrev LOOP_TRACE_LEVEL_LEVEL (e : Nat) : FRef := ⟨(.LOOP_TRACE_LEVEL e), 0, 32⟩
abbrev LOOP_TRACE_CTRL_STOP (e : Nat) : FRef := ⟨(.LOOP_TRACE_CTRL e), 2, 1⟩
abbrev LOOP_TRACE_CTRL_FORCE (e : Nat) : FRef := ⟨(.LOOP_TRACE_CTRL e), 1, 1⟩
abbrev LOOP_TRACE_CTRL_ARM (e : Nat) : FRef := ⟨(.LOOP_TRACE_CTRL e), 0, 1⟩
abbrev LOOP_TRACE_STAT_STATE (e : Nat) : FRef := ⟨(.LOOP_TRACE_STAT e), 30, 2⟩
abbrev LOOP_TRACE_STAT_WPTR (e : Nat) : FRef := ⟨(.LOOP_TRACE_STAT e), 16, 12⟩
abbrev LOOP_TRACE_STAT_TRIGPTR (e : Nat) : FRef := ⟨(.LOOP_TRACE_STAT e), 0, 12⟩
abbrev LOOP_XCFG_NAN_SRC (e : Nat) : FRef := ⟨(.LOOP_XCFG e), 1, 1⟩
abbrev LOOP_XCFG_MISS_SRC (e : Nat) : FRef := ⟨(.LOOP_XCFG e), 0, 1⟩
abbrev LOOP_RUNTIME_LAST (e : Nat) : FRef := ⟨(.LOOP_RUNTIME e), 0, 18⟩
abbrev LOOP_RUNMAX_CLR (e : Nat) : FRef := ⟨(.LOOP_RUNMAX e), 31, 1⟩
abbrev LOOP_RUNMAX_MAX (e : Nat) : FRef := ⟨(.LOOP_RUNMAX e), 0, 18⟩
abbrev LOOP_EVTEN_DONE (e : Nat) : FRef := ⟨(.LOOP_EVTEN e), 6, 1⟩
abbrev LOOP_EVTEN_TRIG (e : Nat) : FRef := ⟨(.LOOP_EVTEN e), 5, 1⟩
abbrev LOOP_EVTEN_SWAP (e : Nat) : FRef := ⟨(.LOOP_EVTEN e), 4, 1⟩
abbrev LOOP_EVTEN_OVERRUN (e : Nat) : FRef := ⟨(.LOOP_EVTEN e), 3, 1⟩
abbrev LOOP_EVTEN_NAN (e : Nat) : FRef := ⟨(.LOOP_EVTEN e), 2, 1⟩
abbrev LOOP_EVTEN_MISS (e : Nat) : FRef := ⟨(.LOOP_EVTEN e), 1, 1⟩
abbrev LOOP_EVTEN_END (e : Nat) : FRef := ⟨(.LOOP_EVTEN e), 0, 1⟩
abbrev LOOP_TRACE_NODE_KIND (e i : Nat) : FRef := ⟨(.LOOP_TRACE_NODE e i), 30, 2⟩
abbrev LOOP_TRACE_NODE_INDEX (e i : Nat) : FRef := ⟨(.LOOP_TRACE_NODE e i), 0, 20⟩
abbrev LOOP_GRP_CFG_POLICY (g : Nat) : FRef := ⟨(.LOOP_GRP_CFG g), 4, 2⟩
abbrev LOOP_GRP_CFG_ENG (g : Nat) : FRef := ⟨(.LOOP_GRP_CFG g), 0, 3⟩
abbrev LOOP_CONST_VAL (k : Nat) : FRef := ⟨(.LOOP_CONST k), 0, 32⟩
abbrev LOOP_SET_VAL (j : Nat) : FRef := ⟨(.LOOP_SET j), 0, 32⟩
abbrev DMA_CH_CTRL_PRIO (h : Nat) : FRef := ⟨(.DMA_CH_CTRL h), 12, 2⟩
abbrev DMA_CH_CTRL_EXCL (h : Nat) : FRef := ⟨(.DMA_CH_CTRL h), 8, 1⟩
abbrev DMA_CH_CTRL_SWTRIG (h : Nat) : FRef := ⟨(.DMA_CH_CTRL h), 2, 1⟩
abbrev DMA_CH_CTRL_ABORT (h : Nat) : FRef := ⟨(.DMA_CH_CTRL h), 1, 1⟩
abbrev DMA_CH_CTRL_START (h : Nat) : FRef := ⟨(.DMA_CH_CTRL h), 0, 1⟩
abbrev DMA_CH_DESC_ADDR (h : Nat) : FRef := ⟨(.DMA_CH_DESC h), 0, 32⟩
abbrev DMA_CH_BW_CAP (h : Nat) : FRef := ⟨(.DMA_CH_BW h), 8, 8⟩
abbrev DMA_CH_BW_FLOOR (h : Nat) : FRef := ⟨(.DMA_CH_BW h), 0, 8⟩
abbrev DMA_CH_STAT_RUN (h : Nat) : FRef := ⟨(.DMA_CH_STAT h), 31, 1⟩
abbrev DMA_CH_STAT_STATE (h : Nat) : FRef := ⟨(.DMA_CH_STAT h), 28, 3⟩
abbrev DMA_CH_STAT_TRGPEND (h : Nat) : FRef := ⟨(.DMA_CH_STAT h), 27, 1⟩
abbrev DMA_CH_STAT_FLOOR_MISS (h : Nat) : FRef := ⟨(.DMA_CH_STAT h), 26, 1⟩
abbrev DMA_CH_STAT_CODE (h : Nat) : FRef := ⟨(.DMA_CH_STAT h), 16, 4⟩
abbrev DMA_CH_STAT_HOPS (h : Nat) : FRef := ⟨(.DMA_CH_STAT h), 0, 16⟩
abbrev DMA_CH_CUR_ADDR (h : Nat) : FRef := ⟨(.DMA_CH_CUR h), 0, 32⟩
abbrev DMA_CH_CNT_TRGOVR (h : Nat) : FRef := ⟨(.DMA_CH_CNT h), 24, 8⟩
abbrev DMA_CH_CNT_CNT (h : Nat) : FRef := ⟨(.DMA_CH_CNT h), 0, 24⟩
abbrev DMA_CH_EVT_FLOOR (h : Nat) : FRef := ⟨(.DMA_CH_EVT h), 4, 1⟩
abbrev DMA_CH_EVT_CHAIN_END (h : Nat) : FRef := ⟨(.DMA_CH_EVT h), 3, 1⟩
abbrev DMA_CH_EVT_ABORTED (h : Nat) : FRef := ⟨(.DMA_CH_EVT h), 2, 1⟩
abbrev DMA_CH_EVT_ERR (h : Nat) : FRef := ⟨(.DMA_CH_EVT h), 1, 1⟩
abbrev DMA_CH_EVT_DONE (h : Nat) : FRef := ⟨(.DMA_CH_EVT h), 0, 1⟩
abbrev DMA_CH_EVTEN_FLOOR (h : Nat) : FRef := ⟨(.DMA_CH_EVTEN h), 4, 1⟩
abbrev DMA_CH_EVTEN_CHAIN_END (h : Nat) : FRef := ⟨(.DMA_CH_EVTEN h), 3, 1⟩
abbrev DMA_CH_EVTEN_ABORTED (h : Nat) : FRef := ⟨(.DMA_CH_EVTEN h), 2, 1⟩
abbrev DMA_CH_EVTEN_ERR (h : Nat) : FRef := ⟨(.DMA_CH_EVTEN h), 1, 1⟩
abbrev DMA_CH_EVTEN_DONE (h : Nat) : FRef := ⟨(.DMA_CH_EVTEN h), 0, 1⟩
abbrev DMA_CH_HOPLIM_LIMIT (h : Nat) : FRef := ⟨(.DMA_CH_HOPLIM h), 0, 16⟩
abbrev IR_SRC_ROUTE_LINE (s : Nat) : FRef := ⟨(.IR_SRC_ROUTE s), 19, 1⟩
abbrev IR_SRC_ROUTE_LEVEL (s : Nat) : FRef := ⟨(.IR_SRC_ROUTE s), 18, 1⟩
abbrev IR_SRC_ROUTE_ACTIVE (s : Nat) : FRef := ⟨(.IR_SRC_ROUTE s), 17, 1⟩
abbrev IR_SRC_ROUTE_PEND (s : Nat) : FRef := ⟨(.IR_SRC_ROUTE s), 16, 1⟩
abbrev IR_SRC_ROUTE_TARGET (s : Nat) : FRef := ⟨(.IR_SRC_ROUTE s), 8, 4⟩
abbrev IR_SRC_ROUTE_PRIO (s : Nat) : FRef := ⟨(.IR_SRC_ROUTE s), 0, 4⟩
abbrev IR_PEND_PEND (n : Nat) : FRef := ⟨(.IR_PEND n), 0, 32⟩
abbrev IR_TGT_THRESH_THRESH (j : Nat) : FRef := ⟨(.IR_TGT_THRESH j), 0, 4⟩
abbrev IR_TGT_CLAIM_SOURCE (j : Nat) : FRef := ⟨(.IR_TGT_CLAIM j), 0, 9⟩
abbrev FC_CLASS_HCLASS (n : Nat) : FRef := ⟨(.FC_CLASS n), 8, 3⟩
abbrev FC_CLASS_MIN (n : Nat) : FRef := ⟨(.FC_CLASS n), 4, 3⟩
abbrev FC_CLASS_CLASS (n : Nat) : FRef := ⟨(.FC_CLASS n), 0, 3⟩
abbrev THERM_TS_STATE (n : Nat) : FRef := ⟨(.THERM_TS n), 30, 2⟩
abbrev THERM_TS_DEVCNT (n : Nat) : FRef := ⟨(.THERM_TS n), 21, 5⟩
abbrev THERM_TS_TEMP (n : Nat) : FRef := ⟨(.THERM_TS n), 0, 16⟩
abbrev KEYS_DIK_HASH_D (i : Nat) : FRef := ⟨(.KEYS_DIK_HASH i), 0, 32⟩
abbrev KEYS_V_PDIG_VAL (i : Nat) : FRef := ⟨(.KEYS_V_PDIG i), 0, 32⟩
abbrev KEYS_V_HDIG_VAL (i : Nat) : FRef := ⟨(.KEYS_V_HDIG i), 0, 32⟩
abbrev KEYS_A_NONCE_VAL (i : Nat) : FRef := ⟨(.KEYS_A_NONCE i), 0, 32⟩
abbrev KEYS_MEAS_VER_VAL (k : Nat) : FRef := ⟨(.KEYS_MEAS_VER k), 0, 32⟩
abbrev KEYS_MEAS_INFO_VAL (k : Nat) : FRef := ⟨(.KEYS_MEAS_INFO k), 0, 32⟩
abbrev KEYS_MEAS_DIG_VAL (k i : Nat) : FRef := ⟨(.KEYS_MEAS_DIG k i), 0, 32⟩
abbrev SYS_BERR_ADDR_ADDR : FRef := ⟨.SYS_BERR_ADDR, 0, 32⟩
abbrev SYS_BERR_INFO_VALID : FRef := ⟨.SYS_BERR_INFO, 31, 1⟩
abbrev SYS_BERR_INFO_COUNT : FRef := ⟨.SYS_BERR_INFO, 16, 8⟩
abbrev SYS_BERR_INFO_MASTER : FRef := ⟨.SYS_BERR_INFO, 8, 6⟩
abbrev SYS_BERR_INFO_SIZE : FRef := ⟨.SYS_BERR_INFO, 4, 1⟩
abbrev SYS_BERR_INFO_WRITE : FRef := ⟨.SYS_BERR_INFO, 3, 1⟩
abbrev SYS_BERR_INFO_CODE : FRef := ⟨.SYS_BERR_INFO, 0, 3⟩
abbrev SYS_TFORCE_LO_TFORCE : FRef := ⟨.SYS_TFORCE_LO, 0, 32⟩
abbrev SYS_TFORCE_HI_TFORCE : FRef := ⟨.SYS_TFORCE_HI, 0, 32⟩
abbrev SYS_THROTTLE_REQ_LEVEL : FRef := ⟨.SYS_THROTTLE_REQ, 0, 3⟩
abbrev SYS_SVCFLT_CACHE : FRef := ⟨.SYS_SVCFLT, 4, 4⟩
abbrev SYS_SVCFLT_HANG : FRef := ⟨.SYS_SVCFLT, 0, 4⟩
abbrev SYS_SCRUB_CFG_STRIDE : FRef := ⟨.SYS_SCRUB_CFG, 16, 16⟩
abbrev SYS_SCRUB_CFG_LOOP_EN : FRef := ⟨.SYS_SCRUB_CFG, 1, 1⟩
abbrev SYS_SCRUB_CFG_EN : FRef := ⟨.SYS_SCRUB_CFG, 0, 1⟩
abbrev SYS_SCRUB_STAT_SPASSES : FRef := ⟨.SYS_SCRUB_STAT, 16, 16⟩
abbrev SYS_SCRUB_STAT_PASSES : FRef := ⟨.SYS_SCRUB_STAT, 0, 16⟩
abbrev SYS_ECC_CNT_CORR : FRef := ⟨.SYS_ECC_CNT, 16, 16⟩
abbrev SYS_ECC_CNT_UNCORR : FRef := ⟨.SYS_ECC_CNT, 0, 16⟩
abbrev SYS_ECC_RATE_WIN : FRef := ⟨.SYS_ECC_RATE, 16, 16⟩
abbrev SYS_ECC_RATE_LIMIT : FRef := ⟨.SYS_ECC_RATE, 0, 16⟩
abbrev SYS_ECC_ADDR_ADDR : FRef := ⟨.SYS_ECC_ADDR, 0, 32⟩
abbrev SYS_ECC_INFO_VALID : FRef := ⟨.SYS_ECC_INFO, 31, 1⟩
abbrev SYS_ECC_INFO_COUNT : FRef := ⟨.SYS_ECC_INFO, 16, 8⟩
abbrev SYS_ECC_INFO_MEM : FRef := ⟨.SYS_ECC_INFO, 8, 3⟩
abbrev SYS_ECC_INFO_SYND : FRef := ⟨.SYS_ECC_INFO, 0, 8⟩
abbrev SYS_UPD_SET_NEW : FRef := ⟨.SYS_UPD_SET, 31, 1⟩
abbrev SYS_UPD_SET_KIND : FRef := ⟨.SYS_UPD_SET, 24, 4⟩
abbrev SYS_UPD_SET_STEP : FRef := ⟨.SYS_UPD_SET, 16, 8⟩
abbrev SYS_UPD_SET_PERCENT : FRef := ⟨.SYS_UPD_SET, 0, 8⟩
abbrev CLK_ROOT_FO_MASK : FRef := ⟨.CLK_ROOT, 7, 5⟩
abbrev CLK_ROOT_FAILOVER : FRef := ⟨.CLK_ROOT, 6, 1⟩
abbrev CLK_ROOT_REFDIV : FRef := ⟨.CLK_ROOT, 4, 2⟩
abbrev CLK_ROOT_SRC : FRef := ⟨.CLK_ROOT, 0, 3⟩
abbrev CLK_ROOTSTAT_FO_COUNT : FRef := ⟨.CLK_ROOTSTAT, 24, 8⟩
abbrev CLK_ROOTSTAT_CAUSE : FRef := ⟨.CLK_ROOTSTAT, 18, 3⟩
abbrev CLK_ROOTSTAT_CELLS_BLOCKED : FRef := ⟨.CLK_ROOTSTAT, 17, 1⟩
abbrev CLK_ROOTSTAT_HUNT : FRef := ⟨.CLK_ROOTSTAT, 16, 1⟩
abbrev CLK_ROOTSTAT_PRESENT : FRef := ⟨.CLK_ROOTSTAT, 8, 5⟩
abbrev CLK_ROOTSTAT_CUR : FRef := ⟨.CLK_ROOTSTAT, 0, 3⟩
abbrev CLK_PLLM_CFG_RESTART : FRef := ⟨.CLK_PLLM_CFG, 0, 1⟩
abbrev CLK_PLLM_STAT_RELOCKS : FRef := ⟨.CLK_PLLM_STAT, 16, 16⟩
abbrev CLK_PLLM_STAT_OFFSET_HELD : FRef := ⟨.CLK_PLLM_STAT, 5, 1⟩
abbrev CLK_PLLM_STAT_SLEWING : FRef := ⟨.CLK_PLLM_STAT, 4, 1⟩
abbrev CLK_PLLM_STAT_DETERM : FRef := ⟨.CLK_PLLM_STAT, 3, 1⟩
abbrev CLK_PLLM_STAT_FREEWHEEL : FRef := ⟨.CLK_PLLM_STAT, 2, 1⟩
abbrev CLK_PLLM_STAT_READY : FRef := ⟨.CLK_PLLM_STAT, 1, 1⟩
abbrev CLK_PLLM_STAT_LOCK : FRef := ⟨.CLK_PLLM_STAT, 0, 1⟩
abbrev CLK_PLLS_CFG_RESTART : FRef := ⟨.CLK_PLLS_CFG, 0, 1⟩
abbrev CLK_PLLS_STAT_FREEWHEEL : FRef := ⟨.CLK_PLLS_STAT, 2, 1⟩
abbrev CLK_PLLS_STAT_READY : FRef := ⟨.CLK_PLLS_STAT, 1, 1⟩
abbrev CLK_PLLS_STAT_LOCK : FRef := ⟨.CLK_PLLS_STAT, 0, 1⟩
abbrev CLK_PLL_XCFG_QUAL : FRef := ⟨.CLK_PLL_XCFG, 2, 2⟩
abbrev CLK_PLL_XCFG_BW_M : FRef := ⟨.CLK_PLL_XCFG, 0, 2⟩
abbrev CLK_PHASE_POLICY_DO_STEP : FRef := ⟨.CLK_PHASE_POLICY, 8, 1⟩
abbrev CLK_PHASE_POLICY_SLEW_RATE : FRef := ⟨.CLK_PHASE_POLICY, 4, 4⟩
abbrev CLK_PHASE_POLICY_POLICY : FRef := ⟨.CLK_PHASE_POLICY, 0, 2⟩
abbrev CLK_PHASE_ERR_REMAIN : FRef := ⟨.CLK_PHASE_ERR, 16, 16⟩
abbrev CLK_PHASE_ERR_MEAS : FRef := ⟨.CLK_PHASE_ERR, 0, 16⟩
abbrev CLK_PHASE_OFS_OFS : FRef := ⟨.CLK_PHASE_OFS, 0, 16⟩
abbrev CLK_DOMSEL_BUSY : FRef := ⟨.CLK_DOMSEL, 16, 6⟩
abbrev CLK_DOMSEL_XSPI : FRef := ⟨.CLK_DOMSEL, 10, 2⟩
abbrev CLK_DOMSEL_ADC : FRef := ⟨.CLK_DOMSEL, 8, 2⟩
abbrev CLK_DOMSEL_PER : FRef := ⟨.CLK_DOMSEL, 6, 2⟩
abbrev CLK_DOMSEL_MEM : FRef := ⟨.CLK_DOMSEL, 4, 2⟩
abbrev CLK_DOMSEL_LOOP : FRef := ⟨.CLK_DOMSEL, 2, 2⟩
abbrev CLK_DOMSEL_SVC : FRef := ⟨.CLK_DOMSEL, 0, 2⟩
abbrev CLK_GATE_ADC_HI : FRef := ⟨.CLK_GATE, 20, 1⟩
abbrev CLK_GATE_ADC_LO : FRef := ⟨.CLK_GATE, 19, 1⟩
abbrev CLK_GATE_TANDEM : FRef := ⟨.CLK_GATE, 18, 1⟩
abbrev CLK_GATE_STATION : FRef := ⟨.CLK_GATE, 16, 2⟩
abbrev CLK_GATE_XSPI : FRef := ⟨.CLK_GATE, 15, 1⟩
abbrev CLK_GATE_DMA : FRef := ⟨.CLK_GATE, 14, 1⟩
abbrev CLK_GATE_RIMENG : FRef := ⟨.CLK_GATE, 12, 2⟩
abbrev CLK_GATE_LOOP : FRef := ⟨.CLK_GATE, 4, 8⟩
abbrev CLK_GATE_SVC : FRef := ⟨.CLK_GATE, 0, 4⟩
abbrev CLK_GATE_STAT_DRAINING : FRef := ⟨.CLK_GATE_STAT, 31, 1⟩
abbrev CLK_GATE_STAT_LAST_FORCED : FRef := ⟨.CLK_GATE_STAT, 26, 5⟩
abbrev CLK_GATE_STAT_CLOSED : FRef := ⟨.CLK_GATE_STAT, 0, 21⟩
abbrev CLK_FMON_CFG_N : FRef := ⟨.CLK_FMON_CFG, 12, 20⟩
abbrev CLK_FMON_CFG_ALARM_EN : FRef := ⟨.CLK_FMON_CFG, 10, 1⟩
abbrev CLK_FMON_CFG_CONT : FRef := ⟨.CLK_FMON_CFG, 9, 1⟩
abbrev CLK_FMON_CFG_START : FRef := ⟨.CLK_FMON_CFG, 8, 1⟩
abbrev CLK_FMON_CFG_GATE : FRef := ⟨.CLK_FMON_CFG, 4, 4⟩
abbrev CLK_FMON_CFG_MEAS : FRef := ⟨.CLK_FMON_CFG, 0, 4⟩
abbrev CLK_FMON_RES_DONE : FRef := ⟨.CLK_FMON_RES, 31, 1⟩
abbrev CLK_FMON_RES_NOGATE : FRef := ⟨.CLK_FMON_RES, 30, 1⟩
abbrev CLK_FMON_RES_ALARM : FRef := ⟨.CLK_FMON_RES, 29, 1⟩
abbrev CLK_FMON_RES_COUNT : FRef := ⟨.CLK_FMON_RES, 0, 28⟩
abbrev CLK_FMON_LO_LIMIT : FRef := ⟨.CLK_FMON_LO, 0, 28⟩
abbrev CLK_FMON_HI_LIMIT : FRef := ⟨.CLK_FMON_HI, 0, 28⟩
abbrev CLK_EVT_FMON_ALARM : FRef := ⟨.CLK_EVT, 9, 1⟩
abbrev CLK_EVT_FMON_DONE : FRef := ⟨.CLK_EVT, 8, 1⟩
abbrev CLK_EVT_ROOT_CHANGE : FRef := ⟨.CLK_EVT, 7, 1⟩
abbrev CLK_EVT_DETERM_SET : FRef := ⟨.CLK_EVT, 6, 1⟩
abbrev CLK_EVT_READY_S : FRef := ⟨.CLK_EVT, 5, 1⟩
abbrev CLK_EVT_READY_M : FRef := ⟨.CLK_EVT, 4, 1⟩
abbrev CLK_EVT_FW_EXIT_S : FRef := ⟨.CLK_EVT, 3, 1⟩
abbrev CLK_EVT_FW_ENTER_S : FRef := ⟨.CLK_EVT, 2, 1⟩
abbrev CLK_EVT_FW_EXIT_M : FRef := ⟨.CLK_EVT, 1, 1⟩
abbrev CLK_EVT_FW_ENTER_M : FRef := ⟨.CLK_EVT, 0, 1⟩
abbrev CLK_EVTEN_FMON_ALARM : FRef := ⟨.CLK_EVTEN, 9, 1⟩
abbrev CLK_EVTEN_FMON_DONE : FRef := ⟨.CLK_EVTEN, 8, 1⟩
abbrev CLK_EVTEN_ROOT_CHANGE : FRef := ⟨.CLK_EVTEN, 7, 1⟩
abbrev CLK_EVTEN_DETERM_SET : FRef := ⟨.CLK_EVTEN, 6, 1⟩
abbrev CLK_EVTEN_READY_S : FRef := ⟨.CLK_EVTEN, 5, 1⟩
abbrev CLK_EVTEN_READY_M : FRef := ⟨.CLK_EVTEN, 4, 1⟩
abbrev CLK_EVTEN_FW_EXIT_S : FRef := ⟨.CLK_EVTEN, 3, 1⟩
abbrev CLK_EVTEN_FW_ENTER_S : FRef := ⟨.CLK_EVTEN, 2, 1⟩
abbrev CLK_EVTEN_FW_EXIT_M : FRef := ⟨.CLK_EVTEN, 1, 1⟩
abbrev CLK_EVTEN_FW_ENTER_M : FRef := ⟨.CLK_EVTEN, 0, 1⟩
abbrev PWR_STATE_BUSY : FRef := ⟨.PWR_STATE, 31, 1⟩
abbrev PWR_STATE_CAUSE : FRef := ⟨.PWR_STATE, 24, 4⟩
abbrev PWR_STATE_CUR : FRef := ⟨.PWR_STATE, 16, 3⟩
abbrev PWR_STATE_REQ : FRef := ⟨.PWR_STATE, 0, 3⟩
abbrev PWR_DOM_STAT_TRANS : FRef := ⟨.PWR_DOM_STAT, 16, 10⟩
abbrev PWR_DOM_STAT_UP : FRef := ⟨.PWR_DOM_STAT, 0, 10⟩
abbrev PWR_STBY_OFF_MASK : FRef := ⟨.PWR_STBY_OFF, 3, 7⟩
abbrev PWR_VMON_WARN : FRef := ⟨.PWR_VMON, 31, 1⟩
abbrev PWR_VMON_VDDA_LOW : FRef := ⟨.PWR_VMON, 30, 1⟩
abbrev PWR_VMON_VIN : FRef := ⟨.PWR_VMON, 0, 13⟩
abbrev PWR_VMON_CNT_LONG : FRef := ⟨.PWR_VMON_CNT, 16, 16⟩
abbrev PWR_VMON_CNT_DIPS : FRef := ⟨.PWR_VMON_CNT, 0, 16⟩
abbrev PWR_VMIN_CLR : FRef := ⟨.PWR_VMIN, 31, 1⟩
abbrev PWR_VMIN_MIN : FRef := ⟨.PWR_VMIN, 0, 13⟩
abbrev PWR_IVR_SEEN : FRef := ⟨.PWR_IVR, 8, 3⟩
abbrev PWR_IVR_FAULT : FRef := ⟨.PWR_IVR, 0, 3⟩
abbrev PWR_DOM_RET_MEM : FRef := ⟨.PWR_DOM, 17, 1⟩
abbrev PWR_DOM_RET_LOOP : FRef := ⟨.PWR_DOM, 16, 1⟩
abbrev PWR_DOM_ON : FRef := ⟨.PWR_DOM, 2, 8⟩
abbrev PWR_DOM_ON10 : FRef := ⟨.PWR_DOM, 0, 2⟩
abbrev PWR_EVT_DOM_DONE : FRef := ⟨.PWR_EVT, 5, 1⟩
abbrev PWR_EVT_IVR : FRef := ⟨.PWR_EVT, 4, 1⟩
abbrev PWR_EVT_VDDA_LOW : FRef := ⟨.PWR_EVT, 3, 1⟩
abbrev PWR_EVT_WARN_END : FRef := ⟨.PWR_EVT, 2, 1⟩
abbrev PWR_EVT_WARN : FRef := ⟨.PWR_EVT, 1, 1⟩
abbrev PWR_EVT_STATE_CHANGE : FRef := ⟨.PWR_EVT, 0, 1⟩
abbrev PWR_EVTEN_DOM_DONE : FRef := ⟨.PWR_EVTEN, 5, 1⟩
abbrev PWR_EVTEN_IVR : FRef := ⟨.PWR_EVTEN, 4, 1⟩
abbrev PWR_EVTEN_VDDA_LOW : FRef := ⟨.PWR_EVTEN, 3, 1⟩
abbrev PWR_EVTEN_WARN_END : FRef := ⟨.PWR_EVTEN, 2, 1⟩
abbrev PWR_EVTEN_WARN : FRef := ⟨.PWR_EVTEN, 1, 1⟩
abbrev PWR_EVTEN_STATE_CHANGE : FRef := ⟨.PWR_EVTEN, 0, 1⟩
abbrev RST_CAUSE_OVR : FRef := ⟨.RST_CAUSE, 16, 1⟩
abbrev RST_CAUSE_COOLED : FRef := ⟨.RST_CAUSE, 12, 1⟩
abbrev RST_CAUSE_HOSTSRC : FRef := ⟨.RST_CAUSE, 8, 2⟩
abbrev RST_CAUSE_KINDS : FRef := ⟨.RST_CAUSE, 0, 5⟩
abbrev RST_REQ_KEY : FRef := ⟨.RST_REQ, 16, 16⟩
abbrev RST_REQ_OVR_SRC : FRef := ⟨.RST_REQ, 5, 2⟩
abbrev RST_REQ_OVR_EN : FRef := ⟨.RST_REQ, 4, 1⟩
abbrev RST_REQ_KIND : FRef := ⟨.RST_REQ, 0, 3⟩
abbrev RST_STRAP_EFF_SRC : FRef := ⟨.RST_STRAP, 8, 2⟩
abbrev RST_STRAP_TANDEM_ID : FRef := ⟨.RST_STRAP, 4, 1⟩
abbrev RST_STRAP_BOOTSRC : FRef := ⟨.RST_STRAP, 0, 2⟩
abbrev RST_SVC_ENTRY_ADDR : FRef := ⟨.RST_SVC_ENTRY, 0, 32⟩
abbrev RST_RELEASE_SVC : FRef := ⟨.RST_RELEASE, 0, 1⟩
abbrev RST_COUNT_SERVICE : FRef := ⟨.RST_COUNT, 24, 8⟩
abbrev RST_COUNT_SAFETY : FRef := ⟨.RST_COUNT, 16, 8⟩
abbrev RST_COUNT_HOST : FRef := ⟨.RST_COUNT, 8, 8⟩
abbrev RST_COUNT_PIN : FRef := ⟨.RST_COUNT, 0, 8⟩
abbrev TIME_NOW_NS_NS : FRef := ⟨.TIME_NOW_NS, 0, 30⟩
abbrev TIME_NOW_SUB_SUB : FRef := ⟨.TIME_NOW_SUB, 0, 16⟩
abbrev TIME_NOW_SEC_LO_SEC : FRef := ⟨.TIME_NOW_SEC_LO, 0, 32⟩
abbrev TIME_NOW_SEC_HI_SEC : FRef := ⟨.TIME_NOW_SEC_HI, 0, 32⟩
abbrev TIME_ADDEND_ADDEND : FRef := ⟨.TIME_ADDEND, 0, 32⟩
abbrev TIME_ADDEND_EFF_EFF : FRef := ⟨.TIME_ADDEND_EFF, 0, 32⟩
abbrev TIME_ADJ_NS_OFS : FRef := ⟨.TIME_ADJ_NS, 0, 32⟩
abbrev TIME_ADJ_CFG_RATE : FRef := ⟨.TIME_ADJ_CFG, 0, 8⟩
abbrev TIME_ADJ_REMAIN_REMAIN : FRef := ⟨.TIME_ADJ_REMAIN, 0, 32⟩
abbrev TIME_STEP_BUSY : FRef := ⟨.TIME_STEP, 31, 1⟩
abbrev TIME_STEP_CMD : FRef := ⟨.TIME_STEP, 0, 2⟩
abbrev TIME_SET_NS_VAL : FRef := ⟨.TIME_SET_NS, 0, 32⟩
abbrev TIME_SET_SEC_LO_VAL : FRef := ⟨.TIME_SET_SEC_LO, 0, 32⟩
abbrev TIME_SET_SEC_HI_VAL : FRef := ⟨.TIME_SET_SEC_HI, 0, 32⟩
abbrev TIME_DIST_PERIOD : FRef := ⟨.TIME_DIST, 0, 3⟩
abbrev TIME_STAT_WD_EXP : FRef := ⟨.TIME_STAT, 11, 1⟩
abbrev TIME_STAT_ADJ_DONE : FRef := ⟨.TIME_STAT, 10, 1⟩
abbrev TIME_STAT_TIME_STEPPED : FRef := ⟨.TIME_STAT, 9, 1⟩
abbrev TIME_STAT_CLK_STEPPED : FRef := ⟨.TIME_STAT, 8, 1⟩
abbrev TIME_STAT_PERIOD_PEND : FRef := ⟨.TIME_STAT, 4, 1⟩
abbrev TIME_STAT_ADDEND_PEND : FRef := ⟨.TIME_STAT, 3, 1⟩
abbrev TIME_STAT_ADJ_BUSY : FRef := ⟨.TIME_STAT, 2, 1⟩
abbrev TIME_STAT_DETERM : FRef := ⟨.TIME_STAT, 1, 1⟩
abbrev TIME_STAT_HOLDOVER : FRef := ⟨.TIME_STAT, 0, 1⟩
abbrev TIME_CLKSTEP_D : FRef := ⟨.TIME_CLKSTEP, 0, 13⟩
abbrev TIME_WD_CFG_EN : FRef := ⟨.TIME_WD_CFG, 16, 1⟩
abbrev TIME_WD_CFG_TIMEOUT : FRef := ⟨.TIME_WD_CFG, 0, 10⟩
abbrev TIME_WD_KICK_KICK : FRef := ⟨.TIME_WD_KICK, 0, 32⟩
abbrev STATION_RED_CFG_LIFE : FRef := ⟨.STATION_RED_CFG, 16, 16⟩
abbrev STATION_RED_CFG_FORGET : FRef := ⟨.STATION_RED_CFG, 4, 12⟩
abbrev STATION_RED_CFG_SUP_HOST : FRef := ⟨.STATION_RED_CFG, 3, 1⟩
abbrev STATION_RED_CFG_MODE : FRef := ⟨.STATION_RED_CFG, 0, 2⟩
abbrev STATION_RED_SEQ_SEQ : FRef := ⟨.STATION_RED_SEQ, 0, 16⟩
abbrev STATION_RED_CNT0_WRONGLAN : FRef := ⟨.STATION_RED_CNT0, 16, 16⟩
abbrev STATION_RED_CNT0_DUP : FRef := ⟨.STATION_RED_CNT0, 0, 16⟩
abbrev STATION_RED_CNT1_FWDDROP : FRef := ⟨.STATION_RED_CNT1, 16, 16⟩
abbrev STATION_RED_CNT1_OVERWRITE : FRef := ⟨.STATION_RED_CNT1, 0, 16⟩
abbrev STATION_SV_EVT_SUB : FRef := ⟨.STATION_SV_EVT, 0, 32⟩
abbrev STATION_SV_EVTEN_SUB : FRef := ⟨.STATION_SV_EVTEN, 0, 32⟩
abbrev STATION_SV_TEVT_SUB : FRef := ⟨.STATION_SV_TEVT, 0, 32⟩
abbrev STATION_SV_TEVTEN_SUB : FRef := ⟨.STATION_SV_TEVTEN, 0, 32⟩
abbrev STATION_SV_LIVE_SUB : FRef := ⟨.STATION_SV_LIVE, 0, 32⟩
abbrev STATION_GOOSE_EVT_TIMEOUT : FRef := ⟨.STATION_GOOSE_EVT, 16, 16⟩
abbrev STATION_GOOSE_EVT_CHANGE : FRef := ⟨.STATION_GOOSE_EVT, 0, 16⟩
abbrev STATION_GOOSE_EVTEN_TIMEOUT : FRef := ⟨.STATION_GOOSE_EVTEN, 16, 16⟩
abbrev STATION_GOOSE_EVTEN_CHANGE : FRef := ⟨.STATION_GOOSE_EVTEN, 0, 16⟩
abbrev STATION_GOOSE_TQ_UTCOFS : FRef := ⟨.STATION_GOOSE_TQ, 16, 16⟩
abbrev STATION_GOOSE_TQ_QUAL : FRef := ⟨.STATION_GOOSE_TQ, 0, 8⟩
abbrev STATION_RRA_CFG_ETYPE : FRef := ⟨.STATION_RRA_CFG, 16, 16⟩
abbrev STATION_RRA_CFG_EN : FRef := ⟨.STATION_RRA_CFG, 0, 1⟩
abbrev STATION_RRA_EVT_SES_CLOSED : FRef := ⟨.STATION_RRA_EVT, 2, 1⟩
abbrev STATION_RRA_EVT_REJECT : FRef := ⟨.STATION_RRA_EVT, 1, 1⟩
abbrev STATION_RRA_EVT_DONE : FRef := ⟨.STATION_RRA_EVT, 0, 1⟩
abbrev STATION_RRA_EVTEN_SES_CLOSED : FRef := ⟨.STATION_RRA_EVTEN, 2, 1⟩
abbrev STATION_RRA_EVTEN_REJECT : FRef := ⟨.STATION_RRA_EVTEN, 1, 1⟩
abbrev STATION_RRA_EVTEN_DONE : FRef := ⟨.STATION_RRA_EVTEN, 0, 1⟩
abbrev STATION_RRA_CNT_NOSES : FRef := ⟨.STATION_RRA_CNT, 16, 16⟩
abbrev STATION_RRA_CNT_BUSY : FRef := ⟨.STATION_RRA_CNT, 0, 16⟩
abbrev TANDEM_LINK_HB_LOST : FRef := ⟨.TANDEM_LINK, 16, 16⟩
abbrev TANDEM_LINK_P_ROLE : FRef := ⟨.TANDEM_LINK, 8, 3⟩
abbrev TANDEM_LINK_P_TF_OK : FRef := ⟨.TANDEM_LINK, 5, 1⟩
abbrev TANDEM_LINK_P_RESIGN : FRef := ⟨.TANDEM_LINK, 4, 1⟩
abbrev TANDEM_LINK_P_TAKE_READY : FRef := ⟨.TANDEM_LINK, 3, 1⟩
abbrev TANDEM_LINK_HB_SILENT : FRef := ⟨.TANDEM_LINK, 2, 1⟩
abbrev TANDEM_LINK_L1_LOCK : FRef := ⟨.TANDEM_LINK, 1, 1⟩
abbrev TANDEM_LINK_L0_LOCK : FRef := ⟨.TANDEM_LINK, 0, 1⟩
abbrev TANDEM_CFG_STRICT : FRef := ⟨.TANDEM_CFG, 4, 1⟩
abbrev TANDEM_CFG_FWD : FRef := ⟨.TANDEM_CFG, 3, 1⟩
abbrev TANDEM_CFG_TFOLLOW : FRef := ⟨.TANDEM_CFG, 2, 1⟩
abbrev TANDEM_CFG_L1_EN : FRef := ⟨.TANDEM_CFG, 1, 1⟩
abbrev TANDEM_CFG_L0_EN : FRef := ⟨.TANDEM_CFG, 0, 1⟩
abbrev TANDEM_STAT_NSILENT : FRef := ⟨.TANDEM_STAT, 8, 6⟩
abbrev TANDEM_STAT_TF_RIM : FRef := ⟨.TANDEM_STAT, 3, 5⟩
abbrev TANDEM_STAT_TF_SRC : FRef := ⟨.TANDEM_STAT, 2, 1⟩
abbrev TANDEM_STAT_TF_OK : FRef := ⟨.TANDEM_STAT, 1, 1⟩
abbrev TANDEM_STAT_TAKE_READY : FRef := ⟨.TANDEM_STAT, 0, 1⟩
abbrev TANDEM_SILENT_RIMS : FRef := ⟨.TANDEM_SILENT, 0, 32⟩
abbrev TANDEM_TAKEBOUND_VALID : FRef := ⟨.TANDEM_TAKEBOUND, 31, 1⟩
abbrev TANDEM_TAKEBOUND_NS : FRef := ⟨.TANDEM_TAKEBOUND, 0, 16⟩
abbrev TANDEM_TKINFO_NS_VAL : FRef := ⟨.TANDEM_TKINFO_NS, 0, 32⟩
abbrev TANDEM_TKINFO_SEC_VAL : FRef := ⟨.TANDEM_TKINFO_SEC, 0, 32⟩
abbrev TANDEM_TKINFO_VAL : FRef := ⟨.TANDEM_TKINFO, 0, 32⟩
abbrev TANDEM_MIRROR_LIST_VAL : FRef := ⟨.TANDEM_MIRROR_LIST, 0, 32⟩
abbrev TANDEM_MLIST_CNT_VAL : FRef := ⟨.TANDEM_MLIST_CNT, 0, 32⟩
abbrev TANDEM_MCFG_MEN : FRef := ⟨.TANDEM_MCFG, 24, 1⟩
abbrev TANDEM_MCFG_MAX_LAG : FRef := ⟨.TANDEM_MCFG, 16, 4⟩
abbrev TANDEM_MCFG_ENGMASK : FRef := ⟨.TANDEM_MCFG, 8, 8⟩
abbrev TANDEM_MCFG_N : FRef := ⟨.TANDEM_MCFG, 0, 8⟩
abbrev TANDEM_MCTRL_LOAD : FRef := ⟨.TANDEM_MCTRL, 0, 1⟩
abbrev TANDEM_MBUF_VAL : FRef := ⟨.TANDEM_MBUF, 0, 32⟩
abbrev TANDEM_MBUF_SIZE_VAL : FRef := ⟨.TANDEM_MBUF_SIZE, 0, 32⟩
abbrev TANDEM_EPOCH_APPLIED : FRef := ⟨.TANDEM_EPOCH, 16, 16⟩
abbrev TANDEM_EPOCH_SENT : FRef := ⟨.TANDEM_EPOCH, 0, 16⟩
abbrev TANDEM_MSTAT_LIST_OK : FRef := ⟨.TANDEM_MSTAT, 31, 1⟩
abbrev TANDEM_MSTAT_STREAMING : FRef := ⟨.TANDEM_MSTAT, 30, 1⟩
abbrev TANDEM_MSTAT_APPLYING : FRef := ⟨.TANDEM_MSTAT, 29, 1⟩
abbrev TANDEM_MSTAT_LAG : FRef := ⟨.TANDEM_MSTAT, 24, 4⟩
abbrev TANDEM_MSTAT_EBYTES : FRef := ⟨.TANDEM_MSTAT, 0, 21⟩
abbrev TANDEM_MCNT_TORN : FRef := ⟨.TANDEM_MCNT, 24, 8⟩
abbrev TANDEM_MCNT_DISCARDED : FRef := ⟨.TANDEM_MCNT, 16, 8⟩
abbrev TANDEM_MCNT_APPLIED : FRef := ⟨.TANDEM_MCNT, 0, 16⟩
abbrev TANDEM_EVT_SWAP_LATE : FRef := ⟨.TANDEM_EVT, 12, 1⟩
abbrev TANDEM_EVT_MIRROR_CRC : FRef := ⟨.TANDEM_EVT, 11, 1⟩
abbrev TANDEM_EVT_MIRROR_TORN : FRef := ⟨.TANDEM_EVT, 10, 1⟩
abbrev TANDEM_EVT_MIRROR_APPLIED : FRef := ⟨.TANDEM_EVT, 9, 1⟩
abbrev TANDEM_EVT_MIRROR_LAG : FRef := ⟨.TANDEM_EVT, 8, 1⟩
abbrev TANDEM_EVT_TF_LOST : FRef := ⟨.TANDEM_EVT, 6, 1⟩
abbrev TANDEM_EVT_RESIGN_FAIL : FRef := ⟨.TANDEM_EVT, 5, 1⟩
abbrev TANDEM_EVT_RELINQUISHED : FRef := ⟨.TANDEM_EVT, 4, 1⟩
abbrev TANDEM_EVT_DEMOTED : FRef := ⟨.TANDEM_EVT, 3, 1⟩
abbrev TANDEM_EVT_TAKEOVER : FRef := ⟨.TANDEM_EVT, 2, 1⟩
abbrev TANDEM_EVT_HB_BACK : FRef := ⟨.TANDEM_EVT, 1, 1⟩
abbrev TANDEM_EVT_HB_LOST : FRef := ⟨.TANDEM_EVT, 0, 1⟩
abbrev TANDEM_EVTEN_SWAP_LATE : FRef := ⟨.TANDEM_EVTEN, 12, 1⟩
abbrev TANDEM_EVTEN_MIRROR_CRC : FRef := ⟨.TANDEM_EVTEN, 11, 1⟩
abbrev TANDEM_EVTEN_MIRROR_TORN : FRef := ⟨.TANDEM_EVTEN, 10, 1⟩
abbrev TANDEM_EVTEN_MIRROR_APPLIED : FRef := ⟨.TANDEM_EVTEN, 9, 1⟩
abbrev TANDEM_EVTEN_MIRROR_LAG : FRef := ⟨.TANDEM_EVTEN, 8, 1⟩
abbrev TANDEM_EVTEN_TF_LOST : FRef := ⟨.TANDEM_EVTEN, 6, 1⟩
abbrev TANDEM_EVTEN_RESIGN_FAIL : FRef := ⟨.TANDEM_EVTEN, 5, 1⟩
abbrev TANDEM_EVTEN_RELINQUISHED : FRef := ⟨.TANDEM_EVTEN, 4, 1⟩
abbrev TANDEM_EVTEN_DEMOTED : FRef := ⟨.TANDEM_EVTEN, 3, 1⟩
abbrev TANDEM_EVTEN_TAKEOVER : FRef := ⟨.TANDEM_EVTEN, 2, 1⟩
abbrev TANDEM_EVTEN_HB_BACK : FRef := ⟨.TANDEM_EVTEN, 1, 1⟩
abbrev TANDEM_EVTEN_HB_LOST : FRef := ⟨.TANDEM_EVTEN, 0, 1⟩
abbrev TANDEM_LINKDLY_VAL : FRef := ⟨.TANDEM_LINKDLY, 0, 32⟩
abbrev TANDEM_TASYM_VAL : FRef := ⟨.TANDEM_TASYM, 0, 32⟩
abbrev TANDEM_TFERR_VAL : FRef := ⟨.TANDEM_TFERR, 0, 32⟩
abbrev EDGE_LEAD_LEAD : FRef := ⟨.EDGE_LEAD, 0, 15⟩
abbrev EDGE_STAT_ANY_LEG : FRef := ⟨.EDGE_STAT, 2, 1⟩
abbrev EDGE_STAT_CELLS_BLOCKED : FRef := ⟨.EDGE_STAT, 1, 1⟩
abbrev EDGE_STAT_GEN_BUSY : FRef := ⟨.EDGE_STAT, 0, 1⟩
abbrev EDGE_EVT_FORCED_STRETCH : FRef := ⟨.EDGE_EVT, 12, 1⟩
abbrev EDGE_EVT_DT_REJECT : FRef := ⟨.EDGE_EVT, 11, 1⟩
abbrev EDGE_EVT_DT_FALLBACK : FRef := ⟨.EDGE_EVT, 10, 1⟩
abbrev EDGE_EVT_LATE_SENT : FRef := ⟨.EDGE_EVT, 9, 1⟩
abbrev EDGE_EVT_LATE_DROP : FRef := ⟨.EDGE_EVT, 8, 1⟩
abbrev EDGE_EVT_NOXFER : FRef := ⟨.EDGE_EVT, 3, 1⟩
abbrev EDGE_EVT_XFER_TAKEN : FRef := ⟨.EDGE_EVT, 2, 1⟩
abbrev EDGE_EVT_CAR_STOP : FRef := ⟨.EDGE_EVT, 1, 1⟩
abbrev EDGE_EVT_CAR_START : FRef := ⟨.EDGE_EVT, 0, 1⟩
abbrev EDGE_LATECNT_DROPPED : FRef := ⟨.EDGE_LATECNT, 16, 16⟩
abbrev EDGE_LATECNT_SENT_LATE : FRef := ⟨.EDGE_LATECNT, 0, 16⟩
abbrev EDGE_LATEINFO_VALID : FRef := ⟨.EDGE_LATEINFO, 31, 1⟩
abbrev EDGE_LATEINFO_KIND : FRef := ⟨.EDGE_LATEINFO, 16, 1⟩
abbrev EDGE_LATEINFO_LEG : FRef := ⟨.EDGE_LATEINFO, 0, 10⟩
abbrev EDGE_LOAD_EPMS : FRef := ⟨.EDGE_LOAD, 0, 19⟩
abbrev EDGE_BLKMASK_RIMS : FRef := ⟨.EDGE_BLKMASK, 0, 32⟩
abbrev EDGE_EVTEN_FORCED_STRETCH : FRef := ⟨.EDGE_EVTEN, 12, 1⟩
abbrev EDGE_EVTEN_DT_REJECT : FRef := ⟨.EDGE_EVTEN, 11, 1⟩
abbrev EDGE_EVTEN_DT_FALLBACK : FRef := ⟨.EDGE_EVTEN, 10, 1⟩
abbrev EDGE_EVTEN_LATE_SENT : FRef := ⟨.EDGE_EVTEN, 9, 1⟩
abbrev EDGE_EVTEN_LATE_DROP : FRef := ⟨.EDGE_EVTEN, 8, 1⟩
abbrev EDGE_EVTEN_NOXFER : FRef := ⟨.EDGE_EVTEN, 3, 1⟩
abbrev EDGE_EVTEN_XFER_TAKEN : FRef := ⟨.EDGE_EVTEN, 2, 1⟩
abbrev EDGE_EVTEN_CAR_STOP : FRef := ⟨.EDGE_EVTEN, 1, 1⟩
abbrev EDGE_EVTEN_CAR_START : FRef := ⟨.EDGE_EVTEN, 0, 1⟩
abbrev ADC_REF_SRC : FRef := ⟨.ADC_REF, 0, 1⟩
abbrev ADC_GRPINJ_SEEN : FRef := ⟨.ADC_GRPINJ, 8, 6⟩
abbrev ADC_GRPINJ_ACTIVE : FRef := ⟨.ADC_GRPINJ, 0, 6⟩
abbrev LOOP_SWAP_BANK : FRef := ⟨.LOOP_SWAP, 16, 16⟩
abbrev LOOP_SWAP_REQ : FRef := ⟨.LOOP_SWAP, 0, 16⟩
abbrev DMA_CFG_AGG_CAP : FRef := ⟨.DMA_CFG, 8, 8⟩
abbrev DMA_CFG_WIN : FRef := ⟨.DMA_CFG, 0, 8⟩
abbrev DMA_ERRSUM_CH : FRef := ⟨.DMA_ERRSUM, 0, 32⟩
abbrev IR_SWI_SWI4 : FRef := ⟨.IR_SWI, 4, 1⟩
abbrev IR_SWI_SWI : FRef := ⟨.IR_SWI, 0, 4⟩
abbrev IR_ERRNEXT_PAGE : FRef := ⟨.IR_ERRNEXT, 0, 32⟩
abbrev XSPI_CFG_PROT_BOOTED : FRef := ⟨.XSPI_CFG, 31, 1⟩
abbrev XSPI_CFG_POLL_OP : FRef := ⟨.XSPI_CFG, 16, 8⟩
abbrev XSPI_CFG_DIV : FRef := ⟨.XSPI_CFG, 8, 4⟩
abbrev XSPI_CFG_PAGE : FRef := ⟨.XSPI_CFG, 1, 1⟩
abbrev XSPI_CFG_PROTO : FRef := ⟨.XSPI_CFG, 0, 1⟩
abbrev XSPI_CMD_KIND : FRef := ⟨.XSPI_CMD, 28, 4⟩
abbrev XSPI_CMD_ADDR_EN : FRef := ⟨.XSPI_CMD, 27, 1⟩
abbrev XSPI_CMD_DUMMY : FRef := ⟨.XSPI_CMD, 16, 5⟩
abbrev XSPI_CMD_OPCODE : FRef := ⟨.XSPI_CMD, 0, 8⟩
abbrev XSPI_ADDR_VAL : FRef := ⟨.XSPI_ADDR, 0, 32⟩
abbrev XSPI_LEN_VAL : FRef := ⟨.XSPI_LEN, 0, 32⟩
abbrev XSPI_DATA_VAL : FRef := ⟨.XSPI_DATA, 0, 32⟩
abbrev XSPI_STAT_BUSY : FRef := ⟨.XSPI_STAT, 31, 1⟩
abbrev XSPI_STAT_DONE : FRef := ⟨.XSPI_STAT, 30, 1⟩
abbrev XSPI_STAT_TIMEOUT : FRef := ⟨.XSPI_STAT, 29, 1⟩
abbrev XSPI_STAT_LEVEL : FRef := ⟨.XSPI_STAT, 0, 9⟩
abbrev XSPI_BANKA_BASE : FRef := ⟨.XSPI_BANKA, 16, 16⟩
abbrev XSPI_BANKA_SIZE : FRef := ⟨.XSPI_BANKA, 0, 16⟩
abbrev XSPI_BANKB_BASE : FRef := ⟨.XSPI_BANKB, 16, 16⟩
abbrev XSPI_BANKB_SIZE : FRef := ⟨.XSPI_BANKB, 0, 16⟩
abbrev XSPI_BANKSEL_BOOTED : FRef := ⟨.XSPI_BANKSEL, 0, 1⟩
abbrev SVCPORT_ID0_VAL : FRef := ⟨.SVCPORT_ID0, 0, 32⟩
abbrev SVCPORT_ID1_VAL : FRef := ⟨.SVCPORT_ID1, 0, 32⟩
abbrev SVCPORT_ID2_VAL : FRef := ⟨.SVCPORT_ID2, 0, 32⟩
abbrev SVCPORT_ID3_VAL : FRef := ⟨.SVCPORT_ID3, 0, 32⟩
abbrev SVCPORT_BOOT_ERR : FRef := ⟨.SVCPORT_BOOT, 8, 8⟩
abbrev SVCPORT_BOOT_STAGE : FRef := ⟨.SVCPORT_BOOT, 0, 4⟩
abbrev SVCPORT_GO_LEN : FRef := ⟨.SVCPORT_GO, 0, 32⟩
abbrev SVCPORT_CAUSE_VAL : FRef := ⟨.SVCPORT_CAUSE, 0, 32⟩
abbrev SVCPORT_STRAP_VAL : FRef := ⟨.SVCPORT_STRAP, 0, 32⟩
abbrev SVCPORT_ROOTSTAT_VAL : FRef := ⟨.SVCPORT_ROOTSTAT, 0, 32⟩
abbrev SVCPORT_LAST_LO_VAL : FRef := ⟨.SVCPORT_LAST_LO, 0, 32⟩
abbrev SVCPORT_LAST_HI_VAL : FRef := ⟨.SVCPORT_LAST_HI, 0, 32⟩
abbrev FC_SCORE_LO_SCORE : FRef := ⟨.FC_SCORE_LO, 0, 32⟩
abbrev FC_SCORE_HI_SCORE : FRef := ⟨.FC_SCORE_HI, 0, 32⟩
abbrev FC_HELD_LO_HELD : FRef := ⟨.FC_HELD_LO, 0, 32⟩
abbrev FC_HELD_HI_HELD : FRef := ⟨.FC_HELD_HI, 0, 32⟩
abbrev FC_LIVE_LO_LIVE : FRef := ⟨.FC_LIVE_LO, 0, 32⟩
abbrev FC_LIVE_HI_LIVE : FRef := ⟨.FC_LIVE_HI, 0, 32⟩
abbrev FC_FORCE_LO_FORCE : FRef := ⟨.FC_FORCE_LO, 0, 32⟩
abbrev FC_FORCE_HI_FORCE : FRef := ⟨.FC_FORCE_HI, 0, 32⟩
abbrev FC_QUIET_MS : FRef := ⟨.FC_QUIET, 0, 16⟩
abbrev FC_RECOVERIES_COUNT : FRef := ⟨.FC_RECOVERIES, 0, 16⟩
abbrev FC_RECOV_CFG_WIN : FRef := ⟨.FC_RECOV_CFG, 16, 12⟩
abbrev FC_RECOV_CFG_MAX : FRef := ⟨.FC_RECOV_CFG, 0, 4⟩
abbrev FC_STATE_QUIET_MS : FRef := ⟨.FC_STATE, 16, 16⟩
abbrev FC_STATE_LEVEL : FRef := ⟨.FC_STATE, 4, 3⟩
abbrev FC_STATE_STATE : FRef := ⟨.FC_STATE, 0, 2⟩
abbrev FC_CTRL_SWFAULT : FRef := ⟨.FC_CTRL, 2, 1⟩
abbrev FC_CTRL_UNBLOCK : FRef := ⟨.FC_CTRL, 1, 1⟩
abbrev FC_CTRL_RELEASE : FRef := ⟨.FC_CTRL, 0, 1⟩
abbrev FC_CFG_TRIP_MASK : FRef := ⟨.FC_CFG, 8, 8⟩
abbrev FC_CFG_AUTO_UNBLOCK : FRef := ⟨.FC_CFG, 1, 1⟩
abbrev FC_CFG_BLK_ACTION : FRef := ⟨.FC_CFG, 0, 1⟩
abbrev FC_STAT_TEST_FORCE_EN : FRef := ⟨.FC_STAT, 0, 1⟩
abbrev FC_LAST_LO_LAST : FRef := ⟨.FC_LAST_LO, 0, 32⟩
abbrev FC_LAST_HI_LAST : FRef := ⟨.FC_LAST_HI, 0, 32⟩
abbrev FC_FIRST_VALID : FRef := ⟨.FC_FIRST, 31, 1⟩
abbrev FC_FIRST_SOURCE : FRef := ⟨.FC_FIRST, 0, 6⟩
abbrev FC_FIRST_NS_NS : FRef := ⟨.FC_FIRST_NS, 0, 32⟩
abbrev THERM_MAX_SENSOR : FRef := ⟨.THERM_MAX, 24, 5⟩
abbrev THERM_MAX_SUBST : FRef := ⟨.THERM_MAX, 16, 1⟩
abbrev THERM_MAX_TEMP : FRef := ⟨.THERM_MAX, 0, 16⟩
abbrev THERM_VALID_MASK : FRef := ⟨.THERM_VALID, 0, 24⟩
abbrev THERM_ALARM_LO : FRef := ⟨.THERM_ALARM, 16, 16⟩
abbrev THERM_ALARM_HI : FRef := ⟨.THERM_ALARM, 0, 16⟩
abbrev THERM_THROTTLE_EFF : FRef := ⟨.THERM_THROTTLE, 16, 3⟩
abbrev THERM_THROTTLE_REQ_EN : FRef := ⟨.THERM_THROTTLE, 8, 1⟩
abbrev THERM_THROTTLE_LEVEL : FRef := ⟨.THERM_THROTTLE, 0, 3⟩
abbrev THERM_STAT_COOLING : FRef := ⟨.THERM_STAT, 1, 1⟩
abbrev THERM_STAT_SHUTDOWN : FRef := ⟨.THERM_STAT, 0, 1⟩
abbrev THERM_EVT_FAILED : FRef := ⟨.THERM_EVT, 3, 1⟩
abbrev THERM_EVT_SUSPECT : FRef := ⟨.THERM_EVT, 2, 1⟩
abbrev THERM_EVT_ALARM_CLR : FRef := ⟨.THERM_EVT, 1, 1⟩
abbrev THERM_EVT_ALARM_HI : FRef := ⟨.THERM_EVT, 0, 1⟩
abbrev THERM_EVTEN_FAILED : FRef := ⟨.THERM_EVTEN, 3, 1⟩
abbrev THERM_EVTEN_SUSPECT : FRef := ⟨.THERM_EVTEN, 2, 1⟩
abbrev THERM_EVTEN_ALARM_CLR : FRef := ⟨.THERM_EVTEN, 1, 1⟩
abbrev THERM_EVTEN_ALARM_HI : FRef := ⟨.THERM_EVTEN, 0, 1⟩
abbrev SAFE_CLAIM_LO_CLAIM : FRef := ⟨.SAFE_CLAIM_LO, 0, 32⟩
abbrev SAFE_CLAIM_HI_CLAIM : FRef := ⟨.SAFE_CLAIM_HI, 0, 32⟩
abbrev SAFE_CLAIM_CTRL_LEARN : FRef := ⟨.SAFE_CLAIM_CTRL, 10, 1⟩
abbrev SAFE_CLAIM_CTRL_RESIGN : FRef := ⟨.SAFE_CLAIM_CTRL, 9, 1⟩
abbrev SAFE_CLAIM_CTRL_RELINQ_EN : FRef := ⟨.SAFE_CLAIM_CTRL, 2, 1⟩
abbrev SAFE_CLAIM_CTRL_TAKE_EN : FRef := ⟨.SAFE_CLAIM_CTRL, 1, 1⟩
abbrev SAFE_CLAIM_CTRL_AUTO : FRef := ⟨.SAFE_CLAIM_CTRL, 0, 1⟩
abbrev SAFE_CLAIM_STAT_TAKEOVERS : FRef := ⟨.SAFE_CLAIM_STAT, 8, 8⟩
abbrev SAFE_CLAIM_STAT_REFUSED : FRef := ⟨.SAFE_CLAIM_STAT, 5, 1⟩
abbrev SAFE_CLAIM_STAT_OBEYED : FRef := ⟨.SAFE_CLAIM_STAT, 4, 1⟩
abbrev SAFE_CLAIM_STAT_ROLE : FRef := ⟨.SAFE_CLAIM_STAT, 0, 3⟩
abbrev SAFE_SEEN_LO_SEEN : FRef := ⟨.SAFE_SEEN_LO, 0, 32⟩
abbrev SAFE_SEEN_HI_SEEN : FRef := ⟨.SAFE_SEEN_HI, 0, 32⟩
abbrev SAFE_ALIVE_KICK_WIN : FRef := ⟨.SAFE_ALIVE, 16, 8⟩
abbrev SAFE_ALIVE_LEVEL : FRef := ⟨.SAFE_ALIVE, 10, 1⟩
abbrev SAFE_ALIVE_KICK_EN : FRef := ⟨.SAFE_ALIVE, 9, 1⟩
abbrev SAFE_ALIVE_EN : FRef := ⟨.SAFE_ALIVE, 8, 1⟩
abbrev SAFE_ALIVE_HALF_HALF : FRef := ⟨.SAFE_ALIVE_HALF, 0, 9⟩
abbrev SAFE_TRIP_ASSERT : FRef := ⟨.SAFE_TRIP, 0, 8⟩
abbrev SAFE_TRIP_CFG_MIN : FRef := ⟨.SAFE_TRIP_CFG, 8, 8⟩
abbrev SAFE_TRIP_CFG_POL : FRef := ⟨.SAFE_TRIP_CFG, 0, 8⟩
abbrev SAFE_TRIP_STAT_PEND_CLR : FRef := ⟨.SAFE_TRIP_STAT, 8, 8⟩
abbrev SAFE_TRIP_STAT_BALL : FRef := ⟨.SAFE_TRIP_STAT, 0, 8⟩
abbrev SAFE_BLOCK_RIMS : FRef := ⟨.SAFE_BLOCK, 0, 32⟩
abbrev SAFE_ALIVE_KICK_KICK : FRef := ⟨.SAFE_ALIVE_KICK, 0, 32⟩
abbrev SAFE_BLOCK_CFG_ACTION : FRef := ⟨.SAFE_BLOCK_CFG, 0, 1⟩
abbrev SAFE_BLOCK_STAT_IN_FORCE : FRef := ⟨.SAFE_BLOCK_STAT, 0, 32⟩
abbrev KEYS_OWNER_ALG : FRef := ⟨.KEYS_OWNER, 8, 4⟩
abbrev KEYS_OWNER_STATE : FRef := ⟨.KEYS_OWNER, 0, 8⟩
abbrev KEYS_RB_LO_VAL : FRef := ⟨.KEYS_RB_LO, 0, 32⟩
abbrev KEYS_RB_HI_VAL : FRef := ⟨.KEYS_RB_HI, 0, 32⟩
abbrev KEYS_PATCH_KILLED : FRef := ⟨.KEYS_PATCH, 16, 16⟩
abbrev KEYS_PATCH_USED : FRef := ⟨.KEYS_PATCH, 0, 16⟩
abbrev KEYS_PATCH_STAT_BAD : FRef := ⟨.KEYS_PATCH_STAT, 16, 16⟩
abbrev KEYS_PATCH_STAT_APPLIED : FRef := ⟨.KEYS_PATCH_STAT, 0, 16⟩
abbrev KEYS_OTP_CTRL_VALUE : FRef := ⟨.KEYS_OTP_CTRL, 8, 8⟩
abbrev KEYS_OTP_CTRL_IDX : FRef := ⟨.KEYS_OTP_CTRL, 4, 3⟩
abbrev KEYS_OTP_CTRL_OP : FRef := ⟨.KEYS_OTP_CTRL, 0, 3⟩
abbrev KEYS_OTP_STAT_BUSY : FRef := ⟨.KEYS_OTP_STAT, 31, 1⟩
abbrev KEYS_OTP_STAT_RESULT : FRef := ⟨.KEYS_OTP_STAT, 0, 2⟩
abbrev KEYS_V_ADDR_VAL : FRef := ⟨.KEYS_V_ADDR, 0, 32⟩
abbrev KEYS_V_LEN_VAL : FRef := ⟨.KEYS_V_LEN, 0, 32⟩
abbrev KEYS_V_CTRL_PROFILE : FRef := ⟨.KEYS_V_CTRL, 4, 1⟩
abbrev KEYS_V_CTRL_COMMIT : FRef := ⟨.KEYS_V_CTRL, 3, 1⟩
abbrev KEYS_V_CTRL_ABORT : FRef := ⟨.KEYS_V_CTRL, 2, 1⟩
abbrev KEYS_V_CTRL_CLEAR : FRef := ⟨.KEYS_V_CTRL, 1, 1⟩
abbrev KEYS_V_CTRL_START : FRef := ⟨.KEYS_V_CTRL, 0, 1⟩
abbrev KEYS_V_STAT_BUSY : FRef := ⟨.KEYS_V_STAT, 31, 1⟩
abbrev KEYS_V_STAT_VALID : FRef := ⟨.KEYS_V_STAT, 30, 1⟩
abbrev KEYS_V_STAT_TAMPER : FRef := ⟨.KEYS_V_STAT, 29, 1⟩
abbrev KEYS_V_STAT_CODE : FRef := ⟨.KEYS_V_STAT, 0, 4⟩
abbrev KEYS_V_INFO_VAL : FRef := ⟨.KEYS_V_INFO, 0, 32⟩
abbrev KEYS_V_VER_VAL : FRef := ⟨.KEYS_V_VER, 0, 32⟩
abbrev KEYS_V_LOAD_VAL : FRef := ⟨.KEYS_V_LOAD, 0, 32⟩
abbrev KEYS_V_ARG_VAL : FRef := ⟨.KEYS_V_ARG, 0, 32⟩
abbrev KEYS_V_PLEN_VAL : FRef := ⟨.KEYS_V_PLEN, 0, 32⟩
abbrev KEYS_A_DST_VAL : FRef := ⟨.KEYS_A_DST, 0, 32⟩
abbrev KEYS_A_CTRL_PUBKEY : FRef := ⟨.KEYS_A_CTRL, 1, 1⟩
abbrev KEYS_A_CTRL_START : FRef := ⟨.KEYS_A_CTRL, 0, 1⟩
abbrev KEYS_A_STAT_BUSY : FRef := ⟨.KEYS_A_STAT, 31, 1⟩
abbrev KEYS_A_STAT_RESULT : FRef := ⟨.KEYS_A_STAT, 0, 2⟩
abbrev PROT_STAT_MISCOMPARES : FRef := ⟨.PROT_STAT, 16, 16⟩
abbrev PROT_STAT_RUNNING : FRef := ⟨.PROT_STAT, 1, 1⟩
abbrev PROT_STAT_HALTED : FRef := ⟨.PROT_STAT, 0, 1⟩
abbrev PROT_CTRL_SWAP : FRef := ⟨.PROT_CTRL, 0, 1⟩
end F

end Sys2Proof.Machine
end

