-- ==== Sys2Proof/Machine/State.lean ====
section
/-!
DEFINITION. Sys2Proof/Machine/State.lean: the state of the device as plain data: every register (a sparse store whose
default is the register's reset word), what each block holds beside its registers, memory, and the queue of commands.
`State.reset` is the device held in its power-on reset (R362): the release is the command RESET_RELEASE.
-/
namespace Sys2Proof.Machine

/-- A register store: the registers that differ from their reset word. -/
abbrev RegStore := List (Reg × Word)

/-- The reset word of a register: every field at its table's reset value, reserved bits 0 (R6, R7). -/
def Reg.resetWord (r : Reg) : Word :=
  BitVec.ofNat 32 (r.fields.foldl (fun a f => a + f.reset * 2 ^ f.lo) 0)

/-- The word a store gives a register. -/
def RegStore.get : RegStore → Reg → Word
  | [], r => r.resetWord
  | (q, w) :: t, r => if q = r then w else RegStore.get t r

/-- The store with a register's word replaced. -/
def RegStore.set : RegStore → Reg → Word → RegStore
  | [], r, w => [(r, w)]
  | (q, x) :: t, r, w => if q = r then (r, w) :: t else (q, x) :: RegStore.set t r w

/-- The response codes of R41, in the numbering of `SYS.BERR_INFO.CODE`. -/
inductive RespCode where
  | okay | decode | violation | gated | timeout | data
  deriving DecidableEq, Repr

/-- The number of a response code in `SYS.BERR_INFO.CODE`. -/
def RespCode.code : RespCode → Nat
  | .okay => 0 | .decode => 1 | .violation => 2 | .gated => 3 | .timeout => 4 | .data => 5

/-- The response of the latest bus access: who asked, its code and the data read (R41, R42). -/
structure Resp where
  master : Nat := 0
  code   : RespCode := .okay
  data   : Nat := 0
  deriving DecidableEq, Repr

/-- An open unlock sequence of a page: the master and instant of its first write (R33). -/
structure Unlock where
  master : Nat
  at_    : Nat
  deriving DecidableEq, Repr

/-- One phase-locked loop: PLL-M or PLL-S (R56 to R66). -/
structure Pll where
  /-- The loop has been started. -/
  started  : Bool := false
  /-- The instants of the start or restart, of the rise of LOCK and of READY, and of the last closing. -/
  startAt  : Nat := 0
  lockAt   : Nat := 0
  readyAt  : Nat := 0
  closedAt : Nat := 0
  /-- The start has outlasted 1 ms and its source has latched (R80). -/
  late     : Bool := false
  /-- The output dividers have been released at E0 (R58). -/
  released : Bool := false
  /-- In Freewheel, the loop has closed again and waits for LOCK (R66). -/
  closed   : Bool := false
  /-- The last completed frequency-check gate passed (R63). -/
  gateOk   : Bool := true
  /-- A phase policy waits for READY (R68): 0 none, 1 slew, 2 step, 3 hold. -/
  policy   : Nat := 0
  deriving DecidableEq, Repr

/-- What the clock block holds beside its registers (R50 to R80). -/
structure ClkState where
  pllM     : Pll := {}
  pllS     : Pll := {}
  /-- Bit i: candidate i's receiver reports lock (R52), and the instant from which it has done so. -/
  candLock : Nat := 0
  candAt   : NMap Nat := []
  /-- Bit i: candidate i is being qualified for a Freewheel exit (R54, R55). -/
  qualify  : Nat := 0
  /-- The Freewheel in progress is a failover (R55, R431). -/
  failover : Bool := false
  /-- The candidate in use when PLL-M entered Freewheel (R55, R431). -/
  lost     : Nat := 7
  /-- While PLL-M's loop is closed and waits for LOCK: `CUR` and `ROOT_CHANGE` as they stood before (R66, R431). -/
  closing  : Option (Nat × Nat) := none
  /-- The instant at which the power-on hunt made its selection (R53). -/
  huntAt   : Option Nat := none
  /-- Per candidate, the start of the frequency-check gate in progress (R65, R66). -/
  gateAt   : NMap Nat := []
  /-- The slew in progress (R68, R71): its start, and from `slewAt` on what is left, in 1/1000 ps, and the rate in ns per
  ms; a new rate with the instant from which it acts. -/
  slewFrom : Nat := 0
  slewAt   : Nat := 0
  slewLeft : Nat := 0
  slewRate : Nat := 10
  slewNext : Option (Nat × Nat) := none
  /-- Bit i: the drain of gate i is in progress (R76), and the instant at which it began. -/
  draining : Nat := 0
  drainAt  : NMap Nat := []
  /-- The frequency monitor is running (R78), and the start of the measurement in progress. -/
  fmonRun  : Bool := false
  fmonAt   : Nat := 0
  deriving DecidableEq, Repr

/-- One entry of a transmit timestamp queue (R95): the egress time in 2^-29 ns and the message's identity. -/
structure TsqEntry where
  time   : Nat := 0
  domain : Nat := 0
  mtype  : Nat := 0
  seqId  : Nat := 0
  deriving DecidableEq, Repr

/-- The timebase and its steering (R81 to R92). Times are in 2^-29 ns since 0 s. -/
structure TimeState where
  /-- TIMECLK runs, or is to run from its first edge on (R60, R83); the count has begun since power-on (R83). -/
  running   : Bool := false
  begun     : Bool := false
  /-- E0 of PLL-M in ps (R58), later by every step of its outputs (R68). -/
  e0Ps      : Nat := 0
  /-- The position of TIMECLK, in ps of its running: `heldPos` until the instant `anchorPs` in ps, `anchorPos` at it, and
  rising with time from there. -/
  heldPos   : Nat := 0
  anchorPs  : Nat := 0
  anchorPos : Nat := 0
  /-- The accumulator at the latest TIMECLK edge: seconds, nanoseconds and fraction together (R81). -/
  count     : Nat := 0
  /-- The latest change of the effective addend or step of the count: the position at which it came, and the count and
  the effective addend up to it. -/
  wasPos    : Nat := 0
  wasCount  : Nat := 0
  wasEff    : Nat := 0
  /-- Per master, the snapshot of R84. -/
  snaps     : NMap Nat := []
  /-- The effective addend in force: the written part and the slew part. -/
  base      : Nat := 0x80000000
  slew      : Int := 0
  /-- The period in force is the last of the slew (R88). -/
  slewLast  : Bool := false
  /-- The parts announced for the next boundary (R87). -/
  annBase   : Nat := 0x80000000
  annSlew   : Int := 0
  annLast   : Bool := false
  /-- A slew is in progress, as `ADJ_BUSY` (R88), and the offset still to absorb. -/
  slewing   : Bool := false
  remain    : Int := 0
  /-- A write of 0 ends the slew: 1 the return is requested, 2 it is announced (R88). -/
  ending    : Nat := 0
  /-- A step waits to land: 0 none, 1 ABS, 2 REL (R89), and its operand in ns, taken with the command. -/
  stepCmd   : Nat := 0
  stepNs    : Int := 0
  /-- An accepted period change waits (R90), and the value in ns from which its 1 ms counts. -/
  pend      : Bool := false
  periodAt  : Nat := 0
  /-- The distribution period in force, as a code (R90), and C of the period in progress (R88). -/
  period    : Nat := 0
  cyc       : Nat := 2500
  /-- The value in ns of the next boundary, and the instant of the latest. -/
  nextB     : Nat := 0
  boundAt   : Nat := 0
  /-- The records of the next boundary, and those of the latest, carry RELOAD (R85, R89). -/
  reload    : Bool := false
  recReload : Bool := false
  /-- The servo watchdog: the instant of the last kick, and whether it runs (R92). -/
  wdAt      : Nat := 0
  wdRun     : Bool := false
  /-- Per alarm, the GPIO driven high and the instant at which the pulse ends (R91). -/
  pulses    : NMap (Nat × Nat) := []
  /-- Per station port, the transmit timestamp queue (R95). -/
  tsqA      : List TsqEntry := []
  tsqB      : List TsqEntry := []
  /-- Per port and master (port + 2 * master), the popped entry (R95). -/
  tsqSnap   : NMap (Option TsqEntry) := []
  deriving DecidableEq, Repr

/-- A downstream record waiting in a rim port's queues (R112, R127). -/
inductive DownRec where
  /-- A time record is due; its values are those of its time point (R99). -/
  | time
  /-- An edge: position, local leg, DIR, T1 in ns, DT, ESEQ, the leg's number and the interlock it was made under. -/
  | edge (pos leg dir t1 dt eseq gleg ilk : Nat)
  /-- A sampling instant in ns (R119). -/
  | sample (t : Nat)
  | discover (dtag : Nat)
  | echoReq (pos etag : Nat)
  | assign (uid pos : Nat)
  | cfg (pos param : Nat) (vals : List Nat)
  | release (pos legs : Nat)
  | bypass (pos op : Nat)
  | delay (pos d : Nat)
  | fwStart (imgLen blocks mask : Nat) (digest : List (BitVec 8))
  | fwData (block : Nat) (data : List (BitVec 8))
  | fwActivate (pos : Nat) (tail : List (BitVec 8)) (op : Nat)
  | ackFault (pos fseq : Nat)
  deriving DecidableEq, Repr

/-- A discovery run (R133). -/
structure DiscRun where
  start    : Nat
  /-- DISCOVER has been sent, and when. -/
  sent     : Bool := false
  sentAt   : Nat := 0
  /-- The 50 us HELLO window is open. -/
  window   : Bool := false
  /-- A RESCAN during the run asks for another. -/
  again    : Bool := false
  deriving DecidableEq, Repr

/-- A cell-node firmware transfer (R140). -/
structure FwXfer where
  src     : Nat
  len     : Nat
  blocks  : Nat
  mask    : Nat
  /-- The next block to send and the pass, 0 to 3. -/
  next    : Nat := 0
  pass    : Nat := 0
  /-- The instant of the last FW_DATA, or of the start. -/
  at_     : Nat := 0
  /-- Per block, the mask of targets that acknowledged it. -/
  acked   : NMap Nat := []
  /-- The digest check has been asked for. -/
  asked   : Bool := false
  abort   : Bool := false
  deriving DecidableEq, Repr

/-- What a rim port and its engine hold beside their registers (R102 to R143). -/
structure RimState where
  /-- Queues in the order of R127: TIME, EDGE and SAMPLE, configuration and echo, FW_DATA. -/
  qTime    : List DownRec := []
  qEdge    : List DownRec := []
  qCfg     : List DownRec := []
  qFw      : List DownRec := []
  /-- A block pair is due (R108). -/
  pairDue  : Bool := false
  /-- No frame has left in the present rim cycle yet (R127). -/
  frameDue : Bool := false
  /-- The instant from which the transmit lane is free again. -/
  freeAt   : Nat := 0
  /-- The frame sent last, its bytes (R109), and its records, which are in progress until `freeAt`; and the block pair
  sent last (R106). -/
  lastFrame : List (BitVec 8) := []
  inFrame   : List DownRec := []
  lastPair  : List (BitVec 8) := []
  /-- The ACTION of the last pair was BYPASS (R283). -/
  pairBypass : Bool := false
  /-- A block is in force at the rim port (R176); one has ended there in this rim cycle, and its RELEASEs wait (R284). -/
  blocked  : Bool := false
  relDue   : Bool := false
  /-- FSEQ of the next frame; SEQ of the next TIME record; tags of the next DISCOVER and ECHO_REQ. -/
  fseq     : Nat := 0
  tseq     : Nat := 0
  dtag     : Nat := 0
  etag     : Nat := 0
  /-- Since ENABLE was last set: the instant, whether the lane ever locked, and the last change of lock. -/
  enabledAt : Nat := 0
  everLock  : Bool := false
  lockAt    : Nat := 0
  /-- The instant of the last automatic rescan (R133). -/
  rescanAt  : Nat := 0
  run      : Option DiscRun := none
  fw       : Option FwXfer := none
  /-- The operation that `PG_PROG` shows (R37): 0 none, 1 the discovery run, 2 the firmware transfer. -/
  shown    : Nat := 0
  /-- Failed frames in the present timebase ms, and that ms (R143). -/
  crcCount : Nat := 0
  crcMs    : Nat := 0
  /-- The rim cycle of the last frame of another unit, if one came. -/
  peerCycle : Option Nat := none
  /-- The instants, in ns of the timebase, of SAMPLE records sent whose cut is yet to come, oldest first (R119, R137). -/
  samples  : List Nat := []
  /-- Per position, the hidden back buffer of its telemetry slot: arrival ns, port and record (R137). -/
  back     : NMap (Nat × Nat × TelemRec) := []
  deriving DecidableEq, Repr

/-- A configuration item under way to a position (R134). -/
structure CfgItem where
  param : Nat
  vals  : List Nat
  tries : Nat := 1
  /-- The instant of the last try. -/
  at_   : Nat := 0
  deriving DecidableEq, Repr

/-- What the rim engine holds for one spoke beside its registers. -/
structure SpokeState where
  /-- LEGS present, from the latest HELLO (R135). -/
  legs     : Nat := 0
  /-- ASSIGN has been sent (R133). -/
  assigned : Bool := false
  /-- FSEQs of the faults reported, and of those acknowledged (R139). -/
  faults   : List Nat := []
  acked    : List Nat := []
  /-- The instant of the last valid upstream frame from the position (R133). -/
  upAt     : Nat := 0
  /-- Configuration items not yet acknowledged, and whether the configuration of IDENTIFIED is under way. -/
  cfg      : List CfgItem := []
  init     : Bool := false
  /-- The values of WDOG, SAFE and TYPEPAR0-15 last sent (R134). -/
  sent     : List Nat := []
  /-- Requests without an answer, newest first: ETAG and t1 in ps, 0 until it is sent (R129); the ETAG asked last. -/
  pend     : List (Nat × Nat) := []
  lastTag  : Nat := 65536
  /-- Values of R collected, in ps; requests sent in a row without an answer (R129). -/
  echoes   : List Int := []
  lost     : Nat := 0
  /-- Calibration is done and D delivered, and when; the filtered value in 1/64 ps; discards in a row (R130). -/
  calDone  : Bool := false
  delayAt  : Nat := 0
  filt     : Int := 0
  discards : Nat := 0
  /-- The instant of the last tracking request (R130). -/
  trackAt  : Nat := 0
  /-- FW_ACTIVATE was answered with STATUS 4 and no HELLO has come since, and when (R141). -/
  restarting : Bool := false
  actAt    : Nat := 0
  /-- The interlock in force at the edge scheduler, and the one that takes force at the next commit (R167). -/
  interlock : Nat := 20
  ilkCommit : Option Nat := none
  /-- The instant from which that one waits: it is in force from the first commit tick after it. -/
  ilkAt     : Nat := 0
  /-- The change under way: its value, and whether it is an increase whose CFG is still to be sent. -/
  ilkCur   : Option Nat := none
  ilkUp    : Bool := false
  /-- Changes that wait, oldest first. -/
  ilkQ     : List Nat := []
  deriving DecidableEq, Repr

/-- A carrier of the edge scheduler (R145 to R148). Times are timebase values in ns. -/
structure Carrier where
  /-- The value at which the arming write landed, and whether the arm waits for its REF (R147). -/
  landing : Nat := 0
  waiting : Bool := false
  /-- The start of the next period to be committed, where it is known. -/
  next    : Option Nat := none
  /-- The starts of first periods that are committed and not yet reached, oldest first: more than one where the carrier
  was disabled and armed again before its first start. -/
  firsts  : List Nat := []
  /-- The end of the last committed period of a carrier that has been disabled, until it comes (R148). -/
  stopAt  : Option Nat := none
  /-- The end of the last committed period, and the last committed periods, newest first: start and length. -/
  endAt   : Nat := 0
  periods : List (Nat × Nat) := []
  /-- The number of commits made, and whether one has been made since the arm. -/
  commits : Nat := 0
  begun   : Bool := false
  /-- A transfer request has landed and awaits a commit; the instant of the latest, and whether one stood before it
  (R156). -/
  xfer    : Bool := false
  xferAt  : Nat := 0
  xferOld : Bool := false
  /-- PERIOD, and the CMP of each compare, as taken by the latest commit (R156). -/
  period  : Nat := 0
  cmps    : List Nat := []
  deriving DecidableEq, Repr

/-- What the scheduler holds of a leg beside its registers (R152 to R171). DIR is 1 for RISE and 2 for FALL. -/
structure Leg where
  /-- The carrier and its commit number at which the leg's values were last taken, with DUTY and OFFSET (R156). -/
  car     : Nat := 64
  commit  : Nat := 0
  duty    : Nat := 0
  offset  : Nat := 0
  /-- The last edge queued: T1 and dead time; none while the held state is UNKNOWN (R152). -/
  lastq   : Option (Nat × Nat) := none
  /-- The claim count under which ESEQ counts (R160). -/
  gen     : Nat := 0
  /-- The last 32 edges, newest first: ESEQ, DIR and effective dead time (R168). -/
  edges   : List (Nat × Nat × Nat) := []
  /-- Per direction, the filter value in 1/16 ns; none is EMPTY (R169). -/
  f16R    : Option Nat := none
  f16F    : Option Nat := none
  /-- Per direction, the last ESEQ processed (R168). -/
  doneR   : Option Nat := none
  doneF   : Option Nat := none
  /-- Per direction: an entry processed since the last cut; an edge queued since the last cut, and in the interval
  that ended at it (R170). -/
  gotR    : Bool := false
  gotF    : Bool := false
  nowR    : Bool := false
  nowF    : Bool := false
  prevR   : Bool := false
  prevF   : Bool := false
  deriving DecidableEq, Repr

/-- The values of a leg taken at a commit (R154). -/
structure LegJob where
  leg    : Nat
  duty   : Nat
  offset : Nat
  dtR    : Nat
  dtF    : Nat
  minp   : Nat
  pol    : Nat
  ilk    : Nat
  deriving DecidableEq, Repr

/-- A committed period whose edges are to be generated (R159). -/
structure GenJob where
  car    : Nat
  start  : Nat
  period : Nat
  /-- The value at the commit tick. -/
  at_    : Nat
  legs   : List LegJob
  deriving DecidableEq, Repr

/-- A committed firing of a trigger compare (R172): its instant and compare. -/
structure Firing where
  at_    : Nat
  trg    : Nat
  deriving DecidableEq, Repr

/-- The edge scheduler (R145 to R179). -/
structure EdgeState where
  cars  : NMap Carrier := []
  legs  : NMap Leg := []
  /-- Periods committed and not generated, in order; the value from which the generator is free. -/
  gens  : List GenJob := []
  genAt : Nat := 0
  /-- Committed firings that lie ahead, in order of time and compare. -/
  fires : List Firing := []
  /-- Edges queued in the millisecond under way, and its number (`EDGE.LOAD`). -/
  load  : Nat := 0
  loadMs : Nat := 0
  deriving DecidableEq, Repr

/-- A wait for the partner of a pair (R195): the select, whether it repeats one, and the instants in ns from which its
channel is tracked and from which it waits. -/
structure AdcWait where
  sel : Nat
  qempty : Bool
  track : Nat
  since : Nat
  deriving DecidableEq, Repr

/-- A slot of a converter (R180): whose work it is, its select and format, and its instants. -/
structure AdcSlot where
  /-- The converter whose queue or injected select the slot serves (R201). -/
  owner  : Nat
  sel    : Nat
  inj    : Bool
  qempty : Bool
  /-- RES, ALIGN and TS of the owner's FMT. -/
  res    : Nat
  align  : Bool
  ts     : Bool
  /-- The end of the conversion phase, and the nanoseconds value at the hold instant (R187). -/
  endAt  : Nat
  stamp  : Nat
  /-- The hold instant, and the length of the acquisition phase in ps (R202). -/
  holdAt : Nat := 0
  acq    : Nat := 0
  /-- The result carries PLAUS, or RECOV by its mux group; its value is undefined (R202). -/
  plaus  : Bool := false
  recov  : Bool := false
  undef  : Bool := false
  /-- The result is compared with the partner's, and its word once it is known (R196). -/
  paired : Bool := false
  word   : Option Nat := none
  /-- The slot ends its burst. -/
  last   : Bool := false
  deriving DecidableEq, Repr

/-- A converter beside its registers (R180 to R206). -/
structure AdcConv where
  queue  : List Nat := []
  last   : Nat := 0x52
  /-- The instant of the latest push, and how many entries were pushed in its ADCCLK cycle (R188). -/
  pushAt : Nat := 0
  pushN  : Nat := 0
  fifo   : List Nat := []
  /-- Per word of the FIFO, RES + 4 × ALIGN of its result (R434). -/
  fifoForm : List Nat := []
  slot   : Option AdcSlot := none
  /-- Slots whose conversion phase has ended and whose result is due. -/
  done   : List AdcSlot := []
  /-- Conversions left of the burst in progress; MODE in force since the last boundary (R190). -/
  burst  : Nat := 0
  mode   : Nat := 0
  /-- A wait for the partner (R195). -/
  wait   : Option AdcWait := none
  /-- The place in the repeating pattern of conversion phases, and the resolution it counts for (R180). -/
  pat    : Nat := 0
  patRes : Nat := 0
  /-- The instant from which the present front is tracked, whether the converter is idle, and its last trigger. -/
  trackAt : Nat := 0
  idle   : Bool := true
  trigAt : Option Nat := none
  /-- The injected select that has not begun (R191). -/
  inj    : Option Nat := none
  /-- A calibration has been accepted; it began at this instant (R200). -/
  calReq : Bool := false
  cal    : Option Nat := none
  /-- The partner carries this converter's work (R201, R206). -/
  handed : Bool := false
  /-- The queued work served last was the partner's (R201). -/
  other  : Bool := false
  /-- The conversion to come follows an over-range one (R202); per mux group, conversions still to be marked RECOV. -/
  overV  : Bool := false
  recov  : NMap Nat := []
  /-- RES + 4 × ALIGN of the result in INJRES (R434). -/
  injForm : Nat := 0
  deriving DecidableEq, Repr

/-- What a converter and its partner held before a boundary began a queued slot: an injected select that lands in the same
ADCCLK cycle takes that slot (R191). -/
structure AdcUndo where
  /-- The end of the ADCCLK cycle of the boundary, in ps. -/
  till : Nat
  own  : AdcConv
  mate : AdcConv
  /-- The slot begun, the queues' lengths after it, and `EVT.QEMPTY` of the owner and `PSTAT.SKIPPED` before it. -/
  slot : AdcSlot
  ownLen  : Nat
  mateLen : Nat
  qempty  : Nat
  skipped : Nat
  deriving DecidableEq, Repr

/-- The converters together. -/
structure AdcState where
  convs  : NMap AdcConv := []
  /-- Per channel code, RES + 4 × ALIGN of the result in the channel result table (R434). -/
  form   : NMap Nat := []
  /-- Per channel code, the instant of its last table write (R220), and the converter that it was for (R194). -/
  wroteAt : NMap Nat := []
  wroteBy : NMap Nat := []
  /-- Per converter, the latest queued slot begun at a boundary. -/
  undo   : NMap AdcUndo := []
  /-- Per pair, the instant of the latest change of its check DAC (R197). -/
  dacAt  : NMap Nat := []
  /-- Per pair, the DELTA reference (R198). -/
  ref    : NMap Int := []
  /-- The reference is settling, since this instant (R183). -/
  settling : Bool := false
  setAt  : Nat := 0
  deriving DecidableEq, Repr

/-- The working copy of one section's state within a cascade evaluation (R208, R217). Values are binary64 bits. -/
structure SecWork where
  sec   : Nat
  s1    : Nat
  s2    : Nat
  ylast : Nat
  sat   : Bool
  nan   : Bool
  /-- The evaluation did not hold: the section's policy mark clears when it completes (R233). -/
  clean : Bool
  deriving DecidableEq, Repr

/-- An admitted cascade (R214, R215, R223): its record and operands as read at its admission, and its progress. -/
structure Flight where
  casc    : Nat
  /-- The cycle of its admission. -/
  admitAt : Nat
  first   : Nat
  count   : Nat
  group   : Nat
  /-- OPC as binary32 bits, where FF is 1. -/
  opc     : Option Nat
  /-- Per further destination: KIND and index word, scale and offset. -/
  dsts    : List (Nat × Nat × Nat)
  /-- The input of the first section and that of the next, binary64 bits. -/
  x0      : Nat
  x       : Nat
  issued  : Nat := 0
  /-- The instant at which the first section issued, and the cycle in which the latest did. -/
  firstIssue : Nat := 0
  lastIssue  : Nat := 0
  bank    : Nat := 0
  work    : List SecWork := []
  /-- Sections that held in this evaluation, in order. -/
  nans    : List Nat := []
  deriving DecidableEq, Repr

/-- Writes launched by a completed cascade that have not landed (R226). -/
structure Landing where
  at_  : Nat
  casc : Nat
  out  : Option Nat
  /-- KIND, index and value written. -/
  dsts : List (Nat × Nat × Nat)
  deriving DecidableEq, Repr

/-- A run in progress (R222). Its cycles count from 0, whose rising edge is its start tick (R223). -/
structure LoopRun where
  start     : Nat
  startNs   : Nat
  startSec  : Nat
  pc        : Nat
  /-- Ticks since the previous run's start; 0 for the first run. -/
  since     : Nat
  /-- The deadline tick (R228), and the counts of the running carriers in the start tick (R218). -/
  deadline  : Nat
  counts    : NMap Nat := []
  /-- The cycle of the next admission at the earliest. -/
  nextAdmit : Nat
  /-- END has been reached (R220). -/
  ended     : Bool := false
  /-- The cycle of the latest issue. -/
  lastIssue : Nat := 0
  /-- The instant of the latest completion of a cascade of the run (R227). -/
  lastDone  : Option Nat := none
  flights   : List Flight := []
  sat       : Bool := false
  nan       : Bool := false
  deriving DecidableEq, Repr

/-- A run that has ended and whose trace record is due (R236). -/
structure RunEnd where
  rseq     : Nat
  startNs  : Nat
  startSec : Nat
  miss     : Bool
  nan      : Bool
  sat      : Bool
  last     : Nat
  /-- The node values, and that of the trigger node. -/
  nodes    : List Nat
  tnode    : Nat
  /-- The trigger source has risen since the end of the preceding run (R238). -/
  rose     : Bool
  deriving DecidableEq, Repr

/-- What a loop engine holds beside its registers. -/
structure Engine where
  run       : Option LoopRun := none
  /-- A start has been delivered by a trigger or a cut (R222). -/
  startDue  : Bool := false
  prevStart : Option Nat := none
  /-- Ticks between the latest two starts; 0 before the second. -/
  gap       : Nat := 0
  /-- The timebase at the latest start: nanoseconds and seconds. -/
  startNs   : Nat := 0
  startSec  : Nat := 0
  runs      : Nat := 0
  landings  : List Landing := []
  ended     : List RunEnd := []
  /-- The trace buffer: decimation count, records since the trigger, the trigger node of the preceding run. -/
  decim     : Nat := 0
  sinceTrig : Nat := 0
  prevNode  : Option Nat := none
  /-- Per Scoreboard source, its rises counted at the end of the preceding run. -/
  rises     : NMap Nat := []
  deriving DecidableEq, Repr

/-- What the loop engines hold together. -/
structure LoopState where
  engines : NMap Engine := []
  /-- Output operands 0x08000 + n, binary32 bits (R215). -/
  outputs : NMap Nat := []
  /-- Policy marks of sections: the policy and the swap tick (R233). -/
  marks   : NMap (Nat × Nat) := []
  /-- Per group, the tick in which the pending swap request landed (R231). -/
  reqAt   : NMap Nat := []
  /-- The instant of each cascade's last completion (R220). -/
  doneAt  : NMap Nat := []
  /-- The read-only words of the records: CSTAT and TDONE of cascades, SSTAT of sections (R212, R214). -/
  cstat   : NMap Nat := []
  tdone   : NMap Nat := []
  sstat   : NMap Nat := []
  deriving DecidableEq, Repr

/-- A cascade is abandoned: its ABANDONED flag is set (R217, R229). -/
def LoopState.abandon (l : LoopState) (n : Nat) : LoopState :=
  { l with cstat := mset l.cstat n (setBitAt (mget 0 l.cstat n) 2) }

/-- Ends the run of one engine with its admitted cascades abandoned and without MISS (R240). -/
def LoopState.abort (l : LoopState) (e : Nat) : LoopState :=
  let g := mget {} l.engines e
  match g.run with
  | none => l
  | some r =>
    let l := r.flights.foldl (fun l f => l.abandon f.casc) l
    { l with engines := mset l.engines e { g with run := none } }

/-- Ends the runs of all engines, as when loops are held (R277). -/
def LoopState.abortAll (l : LoopState) : LoopState := (List.range 8).foldl LoopState.abort l

/-- One entry of the mirror list (R264). -/
structure MirrorEntry where
  addr : Nat
  kind : Nat
  len  : Nat
  deriving DecidableEq, Repr

/-- What the claim logic and the tandem block hold beside their registers (R241 to R267). Times of the timebase are
in 2^-29 ns. -/
structure TandemState where
  /-- Claim learning starts at the first enable (R247). -/
  learnArmed  : Bool := true
  /-- The instant learning started. -/
  learnAt     : Nat := 0
  /-- A valid heartbeat or partner frame arrived during learning (R248), and a heartbeat among them. -/
  partnerSeen : Bool := false
  hbInLearn   : Bool := false
  /-- The instant from which the lanes are enabled. -/
  lanesAt     : Nat := 0
  /-- Bit n: rim n still owes the DISCOVER of learning (R247). -/
  learnDisc   : Nat := 0
  /-- The partner's last ROLE and CLAIM (R248). -/
  pRole       : Nat := 0
  pClaim      : Nat := 0
  /-- The instant of the latest valid heartbeat. -/
  hbAt        : Nat := 0
  /-- Any heartbeat has arrived. -/
  hbSeen      : Bool := false
  /-- The instant RESIGN was set (R261). -/
  resignAt    : Nat := 0
  /-- The instant of the last upstream frame that carried the unit's own claim (R260). -/
  ownAt       : Nat := 0
  /-- Such a frame has arrived. -/
  ownSeen     : Bool := false
  /-- Per lane, the whole 1,000 ns of the latest heartbeat sent, its successor's HSEQ, and FSEQ of the lane. -/
  hbTb        : NMap Nat := []
  hseq        : NMap Nat := []
  fseq        : NMap Nat := []
  /-- Per lane and HSEQ (lane + 2 * HSEQ), the own time point of a heartbeat sent. -/
  sentAt      : NMap Nat := []
  /-- Per lane, HSEQ and own arrival time of the latest partner heartbeat. -/
  rxHseq      : NMap Nat := []
  rxTime      : NMap Nat := []
  /-- The last values of d and o in ps, newest first, at most 16 (R251). -/
  dHist       : List Int := []
  oHist       : List Int := []
  /-- The instant of the latest value of o (R253). -/
  oAt         : Nat := 0
  /-- The partner's RIMD words (R250). -/
  rimd        : List Nat := []
  /-- Per rim, the nanoseconds value at which the SOF of the partner's last frame or pair arrived (R252). -/
  peerAt      : NMap Nat := []
  /-- The frame of the heartbeat sent last, per lane, as bytes (R250). -/
  hbOut       : NMap (List (BitVec 8)) := []
  /-- The other frames given to the link since the latest heartbeat was sent, with their lanes: those that hold ADT, SWAP,
  MDATA and MEND records (R249). -/
  linkOut     : List (Nat × List (BitVec 8)) := []
  /-- The loaded mirror list (R264). -/
  list        : List MirrorEntry := []
  /-- The reference run for which a capture was made or skipped last (R265), and the one whose quiet interval a start has
  ended (R265, R267). -/
  capRun      : Option Nat := none
  quietOver   : Option Nat := none
  /-- Captures made and the number of the latest epoch applied, modulo 2^32 (R250, R265, R267). -/
  epSent      : Nat := 0
  epApplied   : Nat := 0
  /-- An epoch of the unit's own is being streamed (R266). -/
  sending     : Bool := false
  /-- The epoch being streamed: its bytes, its reference start and the instant of its capture (R265, R266). -/
  txEpoch     : List (BitVec 8) := []
  txNs        : Nat := 0
  txSec       : Nat := 0
  capAt       : Nat := 0
  /-- The half of `MBUF` that receives, and the other half holds a complete epoch: its number and start (R266, R267). -/
  rxHalf      : Nat := 0
  rxReady     : Bool := false
  rxNumber    : Nat := 0
  rxNs        : Nat := 0
  rxSec       : Nat := 0
  /-- The instant an apply began, and it has been torn (R267). -/
  applyAt     : Nat := 0
  torn        : Bool := false
  /-- The join of R268 has applied an epoch. -/
  joined      : Bool := false
  /-- The changes of the claim made so far: ESEQ restarts with each (R245, R160). -/
  claimGen    : Nat := 0
  deriving DecidableEq, Repr

/-- What the fault collector and the SAFE page hold beside their registers (R273 to R287). -/
structure FcState where
  /-- Bit n: the level condition of source n is true (R273). -/
  cond       : Nat := 0
  /-- Per source, how often its Scoreboard bit has risen (R238). -/
  rises      : NMap Nat := []
  /-- The reaction block (R282). -/
  reactBlock : Bool := false
  /-- The last instant at which a source of class HOLD or above was asserted (R280). -/
  quietSince : Nat := 0
  /-- Instants of the recoveries counted, newest first (R280). -/
  recoveries : List Nat := []
  /-- A SHED request stands (R277). -/
  shedReq    : Bool := false
  /-- The last instant at which a SHED-class source was asserted. -/
  shedSince  : Nat := 0
  /-- Bit n of TRIP: the instant it was set (R286). -/
  tripSetAt  : NMap Nat := []
  /-- The TRIPn drivers are enabled (R371). -/
  tripDrive  : Bool := false
  /-- ALIVE has been kicked since the last reset (R371). -/
  aliveOn    : Bool := false
  /-- The instant of the last ALIVE transition or of the return of its conditions (R285). -/
  aliveAt    : Nat := 0
  /-- The instant of the last kick (R285). -/
  kickAt     : Nat := 0
  /-- The kick window has expired and no kick has come since (R285, R287). -/
  kickLate   : Bool := false
  deriving DecidableEq, Repr

/-- What thermal sensing holds beside its registers (R291 to R297). -/
structure ThermState where
  /-- The latest sample of the 24 sensors, signed 1/16 degree C (R292). -/
  sample   : List Int := []
  /-- The instant of the latest sample; a sample has been taken and not yet judged. -/
  sampleAt : Nat := 0
  sampled  : Bool := false
  /-- A sample has been judged since the last release of a reset (R296). -/
  judged   : Bool := false
  /-- ALARM_HI has been set and not yet cleared by ALARM_CLR (R298). -/
  high     : Bool := false
  /-- The instant source 49's condition rose, for the HIBERNATE step (R295). -/
  shutAt   : Nat := 0
  /-- A shutdown waits for its HIBERNATE step. -/
  shutPend : Bool := false
  deriving DecidableEq, Repr

/-- What the ECC logic, the scrubbers and the flash interface hold beside their registers (R300 to R309). -/
structure MemState where
  /-- 64-bit words (addresses, multiples of 8) that hold an uncorrectable error. -/
  bad      : List Nat := []
  /-- Words whose corrected value waits for its write-back (R301). -/
  fixing   : List Nat := []
  /-- Instants of the corrected errors, newest first (R303). -/
  corrAt   : List Nat := []
  /-- The next word of the main scrubber's pass, and of the safety scrubber's (R305, R306). -/
  scrub    : Nat := 0
  sscrub   : Nat := 0
  /-- The instants of their latest steps. -/
  scrubAt  : Nat := 0
  sscrubAt : Nat := 0
  /-- The start of a zero-fill of shared SRAM in progress, and whether shared SRAM has been filled (R304). -/
  clearAt  : Option Nat := none
  sramOk   : Bool := false
  deriving DecidableEq, Repr

/-- A flash command in progress (R308). -/
structure XspiCmd where
  /-- KIND: 0 READ, 1 PROG, 2 ERASE, 3 REG_RD, 4 REG_WR. -/
  kind   : Nat
  opcode : Nat
  /-- The address sent, if one is sent. -/
  addr   : Option Nat
  /-- Bytes that have yet to pass between the flash and the FIFO. -/
  left   : Nat
  /-- The next bytes that the flash delivers. -/
  incoming : List (BitVec 8) := []
  /-- Bytes taken from the FIFO so far, in order. -/
  sent   : List (BitVec 8) := []
  /-- The instant from which status polling runs. -/
  pollAt : Nat := 0
  deriving DecidableEq, Repr

/-- The flash interface (R307, R308). -/
structure XspiState where
  fifo : List (BitVec 8) := []
  cmd  : Option XspiCmd := none
  /-- The last command that ended, with the bytes it sent. -/
  last : Option XspiCmd := none
  deriving DecidableEq, Repr

/-- A burst in flight (R311): its addresses, the bytes read and how many of them have been written. -/
structure Burst where
  src     : Nat
  dst     : Nat
  len     : Nat
  data    : List (BitVec 8) := []
  written : Nat := 0
  deriving DecidableEq, Repr

/-- A descriptor as fetched (R310). -/
structure Desc where
  src   : Nat
  dst   : Nat
  count : Nat
  dctrl : Nat
  next  : Nat
  seed  : Nat
  deriving DecidableEq, Repr

/-- What a DMA channel holds beside its registers (R310 to R319). -/
structure DmaChan where
  /-- The address of the next descriptor to fetch. -/
  at_     : Nat := 0
  desc    : Option Desc := none
  /-- Addresses of the next burst and the bytes not yet issued. -/
  src     : Nat := 0
  dst     : Nat := 0
  toIssue : Nat := 0
  bursts  : List Burst := []
  /-- The running internal state of the CRC (R312); none before the first descriptor of a chain. -/
  crc     : Option Nat := none
  /-- The code of the first error of this descriptor; 0 none. -/
  err     : Nat := 0
  /-- `CHh_CNT` at the first error, and whether it was already 0. -/
  errCnt  : Nat := 0
  /-- An abort has been asked for; it landed after the last write response (R319). -/
  abort   : Bool := false
  lateAbort : Bool := false
  /-- The instant at which the descriptor began to move data. -/
  inside  : Nat := 0
  /-- Bytes moved in the present window, and whether the channel has been ready at every arbitration of it. -/
  moved   : Nat := 0
  always  : Bool := true
  /-- The arbitration at which the channel was last served. -/
  served  : Nat := 0
  deriving DecidableEq, Repr

/-- The DMA engine (R311, R313). -/
structure DmaState where
  ch    : NMap DmaChan := []
  /-- Arbitrations made since power-on, and those of the present window. -/
  arbs  : Nat := 0
  inWin : Nat := 0
  /-- The start of the present window. -/
  winAt : Nat := 0
  deriving DecidableEq, Repr


/-- An ASDU of a matched sampled-value frame that waits for its check (R332, R333). -/
structure SvJob where
  sub    : Nat
  /-- Its index within its frame. -/
  idx    : Nat
  /-- The receive timestamp of the frame in 2^-29 ns, and its simulation bit. -/
  ts     : Nat
  sim    : Bool
  /-- No encoding error, and its svID is that of the frame's first ASDU. -/
  ok     : Bool
  sameId : Bool
  smpCnt : Nat
  confRev : Nat
  synch  : Nat
  sample : List (BitVec 8)
  deriving DecidableEq, Repr

/-- A matched GOOSE message that waits for its check (R336). -/
structure GooseJob where
  sub    : Nat
  ok     : Bool
  sim    : Bool
  nds    : Bool
  confRev : Nat
  stNum  : Nat
  tal    : Nat
  bits   : Nat
  /-- The instant of its arrival. -/
  at_    : Nat
  deriving DecidableEq, Repr

/-- A frame for remote register access that waits for its checks (R340, R341): its payload after the EtherType. -/
structure RraFrame where
  port   : Nat
  red    : Bool
  src    : List (BitVec 8)
  data   : List (BitVec 8)
  deriving DecidableEq, Repr

/-- A passed request (R341, R342): the items still to execute and the results so far, as ADDR, DATA, KIND and CODE. -/
structure RraReq where
  port   : Nat
  red    : Bool
  src    : List (BitVec 8)
  ses    : Nat
  sid    : Nat
  seq    : Nat
  todo   : List (Nat × Nat × Nat)
  done   : List (Nat × Nat × Nat × Nat) := []
  failed : Bool := false
  deriving DecidableEq, Repr

/-- A frame in a host receive queue (R325). -/
structure RxFrame where
  cls    : Nat
  red    : Bool
  vlan   : Bool
  ts     : Nat
  bytes  : List (BitVec 8)
  deriving DecidableEq, Repr

/-- A frame in a host transmit queue, or one whose bytes are still pushed (R326). -/
structure TxFrame where
  /-- The words TXD0 to TXD2. -/
  d0     : Nat
  d1     : Nat := 0
  d2     : Nat := 0
  bytes  : List (BitVec 8) := []
  /-- The sequence number of a frame sent through redundancy (R329). -/
  seq    : Option Nat := none
  /-- The frame stands in this port's own host queue. -/
  own    : Bool := true
  deriving DecidableEq, Repr

/-- A frame under way to the other port of the ring (R331): its bytes with the tag, its ingress timestamp in 2^-29 ns,
and whether its FCS was bad. -/
structure FwdFrame where
  bytes  : List (BitVec 8)
  ts     : Nat
  bad    : Bool
  deriving DecidableEq, Repr

/-- A station port beside its registers. -/
structure StationPort where
  rx     : List RxFrame := []
  /-- The unread bytes of the popped frame, and per master the popped descriptor (R325). -/
  cur    : List (BitVec 8) := []
  snap   : NMap RxFrame := []
  tx     : List TxFrame := []
  open_  : Option TxFrame := none
  fwd    : List FwdFrame := []
  /-- Remote-access responses that wait: their bytes and sequence number. -/
  rsp    : List (List (BitVec 8) × Option Nat) := []
  /-- The instant of the last change of RXLOCK. -/
  lockAt : Nat := 0
  /-- The frame sent last, without its FCS, and whether its FCS was inverted (R331). -/
  last   : List (BitVec 8) := []
  lastBad : Bool := false
  deriving DecidableEq, Repr

/-- What a tagged frame that completed at port B has changed, so that port A's copy of the same cycle can take its place
(R330): the pair and the instant; what the frame added to the queues; and PORTB_CNT1.RXDROP, RED_CNT0.WRONGLAN and the
bits RX and RXOVF of PORTB_EVT as they stood before it. -/
structure TwinRx where
  key   : Nat
  at_   : Nat
  rx    : Nat
  sv    : Nat
  goose : Nat
  rra   : Nat
  drops : Nat
  wrong : Nat
  evRx  : Nat
  evOvf : Nat
  deriving DecidableEq, Repr

/-- A GOOSE publication beside its registers (R337 to R339). -/
structure Pub where
  /-- TLEN and NB as taken when EN was set. -/
  tlen   : Nat
  nb     : Nat
  stNum  : Nat := 1
  sqNum  : Nat := 0
  /-- The timebase at the last state change, in 2^-29 ns. -/
  t      : Nat
  /-- The interval to the next scheduled frame in us, and the instant from which it runs. -/
  interval : Nat
  from_  : Nat
  /-- Bit x: port x has yet to send the frame; its sequence number where a copy has been sent. -/
  due    : Nat
  seq    : Option Nat := none
  /-- The frame of the last state change has not begun transmission (R339). -/
  fresh  : Bool := true
  deriving DecidableEq, Repr

/-- What the station block holds beside its registers (R322 to R344). -/
structure StationState where
  /-- Operand words 32s + w of the subscriptions, binary32 bits (R334), and the integers behind the flags words. -/
  svWords : NMap Nat := []
  svFlags : NMap Nat := []
  /-- Per subscription, the nanoseconds value of the latest accepted frame's receive timestamp (R334). -/
  svAt    : NMap Nat := []
  /-- Bit s: an ASDU has been accepted since the enabling and the last timeout (R335). -/
  svSeen  : Nat := 0
  /-- The instant from which the timeout of a subscription runs, while it does. -/
  svFrom  : NMap Nat := []
  svJobs  : List SvJob := []
  /-- GOOSE messages that wait; deadlines that run; last accepted stNum (R336). -/
  gJobs   : List GooseJob := []
  gDead   : NMap Nat := []
  gStNum  : NMap Nat := []
  /-- Remote register access: frames and passed requests, oldest first (R341). -/
  rraIn   : List RraFrame := []
  rraQ    : List RraReq := []
  ports   : NMap StationPort := []
  /-- Pairs of (source MAC, SeqNr) entered, newest first: the pair, the port and the instant (R330). -/
  dups    : List (Nat × Nat × Nat) := []
  /-- Pairs forwarded: the pair, the port of arrival and the instant (R331). -/
  fwds    : List (Nat × Nat × Nat) := []
  pubs    : NMap Pub := []
  /-- The instant of the last supervision frame (R329). -/
  supAt   : Nat := 0
  /-- The tagged frame that port B took last (R330). -/
  twin    : Option TwinRx := none
  deriving DecidableEq, Repr

/-- What the power control holds beside its registers (R346 to R360). -/
structure PwrState where
  /-- The power block is in force (R357). -/
  powerBlock : Bool := false
  /-- Loops are held by a power state (R357, R359). -/
  loopsHeld  : Bool := false
  /-- The state a transition in progress leads to. -/
  target     : Nat := 0
  /-- The instant the transition began. -/
  since      : Nat := 0
  /-- Bit i: domain i is switching, and upwards. -/
  upwards    : Nat := 0
  /-- The domains that the state and retained contents concern: bit i, domain i is switched off by the state in
  force; bit i, the contents of domain i were kept at its last switch-off (R351); bit i, domain i waits for the cooling
  judgement of R296. -/
  off        : Nat := 0
  kept       : Nat := 0
  cooling    : Nat := 0
  /-- The domains of an entry have begun to switch (step 3 of R357), and the CAUSE of the transition. -/
  switched   : Bool := false
  cause      : Nat := 0
  /-- SHED was entered by a request of the fault collector (R356). -/
  shedByFc   : Bool := false
  /-- A REQ of RUN was accepted while a SHED request stands (R356). -/
  runAtEnd   : Bool := false
  /-- The instant WARN rose (R346). -/
  warnAt     : Nat := 0
  /-- The warning has been counted as held (R346). -/
  warnLong   : Bool := false
  /-- The instant of the latest VIN measurement. -/
  measAt     : Nat := 0
  /-- VDDA is below its level or within its 300 us recovery (R347). -/
  vddaBad    : Bool := false
  /-- The instant VDDA recovered. -/
  vddaAt     : Nat := 0
  /-- The next VIN measurement sets MIN (R346). -/
  vminClear  : Bool := false
  deriving DecidableEq, Repr

/-- What the reset, boot and service-port logic hold beside their registers (R362 to R380). (DESIGN CHOICE, log 4.) -/
structure RstState where
  /-- The hold in progress: 0 none, 1 power-on, 2 pin, 3 host, 4 safety, 5 service. -/
  hold      : Nat := 1
  /-- The kinds that arose in this hold, as bits of `RST.CAUSE.KINDS` (R366). -/
  kinds     : Nat := 1
  /-- The instant from which the hold time of the hold in progress runs. -/
  since     : Nat := 0
  /-- RESET_N is low. -/
  pinLow    : Bool := false
  /-- The boot source named for the next boot (R368). -/
  override_ : Option Nat := none
  /-- The origin of a host reset, as `RST.CAUSE.HOSTSRC`. -/
  hostSrc   : Nat := 0
  /-- VIN is above its release level (R346). -/
  vinUp     : Bool := false
  /-- The boot ROM is running; it stops at a failed stage or at stage 8 (R378, R379). -/
  booting   : Bool := false
  /-- Stage 8 has been reached: REPLACE_N is released (R371, R376). -/
  bootDone  : Bool := false
  /-- The flash bank that stage 4 chose, 0 A or 1 B, and its directory (R396, R397). -/
  bank      : Nat := 0
  dir       : List (BitVec 8) := []
  /-- The STATE words that the boot ROM programmed into the banks in this boot, and the error of its last failed image
  (R397). -/
  bankProg  : NMap Nat := []
  bankErr   : Nat := 0
  /-- The entry address of the protection firmware that stage 6 verified. -/
  protEntry : Nat := 0
  /-- `SVCPORT.GO` or the network GO frame has ended stage 4's wait. -/
  go        : Bool := false
  /-- Staging RAM has passed to SAFECLK (R377). -/
  stagingSafe : Bool := false
  /-- 64-bit words of staging RAM cleared under SVC_SCK so far (R377). -/
  sckClear  : Nat := 0
  /-- The staging RAM clear has ended; the safety RAM clear has ended. -/
  stgReady  : Bool := false
  safeReady : Bool := false
  /-- The start of the clear of safety RAM and staging RAM under SAFECLK (R304). -/
  safeClearAt : Option Nat := none
  /-- The service port's ERR and CODE of the status byte (R376). -/
  svcErr    : Bool := false
  svcCode   : Nat := 0
  /-- The bytes that SVC_SDO gave in the latest transaction (R374). -/
  sdo       : List (BitVec 8) := []
  deriving DecidableEq, Repr

/-- An owner key slot of the OTP (R382). (DESIGN CHOICE, log 2.) -/
structure OwnerSlot where
  hash  : BitVec 256 := 0
  alg   : Nat := 0
  /-- 0 EMPTY, 1 ACTIVE, 2 REVOKED, 3 INVALID. -/
  state : Nat := 0
  deriving DecidableEq, Repr

/-- A ROM patch slot of the OTP (R382, R393). (DESIGN CHOICE, log 2.) -/
structure PatchSlot where
  addr   : Nat := 0
  words  : List Nat := []
  crcOk  : Bool := true
  used   : Bool := false
  killed : Bool := false
  deriving DecidableEq, Repr

/-- The OTP, which no reset touches (R362, R382). (DESIGN CHOICE, log 2.) -/
structure Otp where
  vendorHash : BitVec 256 := 0
  owner  : NMap OwnerSlot := []
  rb     : NMap Nat := []
  patch  : NMap PatchSlot := []
  uid    : BitVec 64 := 0
  trims  : NMap Word := []
  deriving DecidableEq, Repr

/-- An OTP operation in progress (R383): what it changes, and the bits it needs and has burnt. -/
structure OtpRun where
  op   : Nat
  /-- The counter or slot. -/
  idx  : Nat
  /-- OP of the payload: 1 program, 2 kill or revoke. -/
  sub  : Nat
  need : Nat
  done : Nat := 0
  /-- The instant from which the next bit is burnt. -/
  at_  : Nat := 0
  owner : OwnerSlot := {}
  patch : PatchSlot := {}
  deriving DecidableEq, Repr

/-- What the KEYS page's engines hold beside their registers (R382 to R404). (DEDUCED, log 148.) -/
structure SecState where
  otp      : Otp := {}
  otpRun   : Option OtpRun := none
  /-- A verification is in progress: the START's `V_ADDR` and `V_LEN` (R388). -/
  vRun     : Option (Nat × Nat) := none
  /-- The instant of that START, PLEN of the header and the SHA3-256 input blocks of header and key (R389). -/
  vAt      : Nat := 0
  vPlen    : Nat := 0
  vHead    : Nat := 0
  /-- The watched range (R390). -/
  watch    : Option (Nat × Nat) := none
  /-- PAYOFF of the verified header (R404). -/
  payoff   : Nat := 0
  /-- The captured report of an attestation in progress and its destination (R400, R401). -/
  aRun     : Option (List (BitVec 8) × Nat) := none
  /-- A safety profile has been applied since the last P, H or S reset or power-on (R395), with its FLAGS. -/
  profile  : Bool := false
  flags    : Nat := 0
  /-- The patch unit: slots loaded at stage 2 (R393). -/
  unit     : List (Nat × List Nat) := []
  /-- The address at which the protection pair last started, and the service cores (R365, R404). -/
  protPc   : Nat := 0
  svcPc    : Nat := 0
  deriving DecidableEq, Repr

/-- What has happened at one instant that a later command of the same instant must know: "in the same cycle" means at the
same instant (R5, R29, R48, R155). It speaks of the instant `at_` alone. (DESIGN CHOICE, log 162.) -/
structure Tick where
  at_     : Nat := 0
  /-- Per register, a mask of W1C bits that an event has set (R5). -/
  sets    : List (Reg × Nat) := []
  /-- Scoreboard sources latched (R273). -/
  latched : List Nat := []
  /-- Bits of TRIP that a reaction has set (R286). -/
  tripped : Nat := 0
  /-- Interrupt sources that have pulsed (R48). -/
  pulses  : List Nat := []
  /-- Register writes done, newest first: the register, the master, and the written word (R5, R29). -/
  writes  : List (Reg × Nat × Nat) := []
  /-- The words that registers held before the first write of the instant (R155). -/
  old     : List (Reg × Word) := []
  /-- Fields that a loop engine has written (R216). -/
  landed  : List FRef := []
  deriving DecidableEq, Repr

/-- The device: everything but its memories and the queue of waiting commands. (DESIGN CHOICE, log 4.) -/
structure Dev where
  /-- The model's own clock: ns since power-on. -/
  now       : Nat := 0
  /-- The model's own counter of free values taken (never the spec's; its value is a DESIGN CHOICE). -/
  freeCount : Nat := 0
  /-- The registers that differ from their reset word. -/
  regs      : RegStore := []
  /-- What has happened at the present instant. -/
  tick      : Tick := {}
  /-- The response of the latest bus access (R41). -/
  resp      : Resp := {}
  /-- Open unlock sequences (R33). -/
  unlocks   : List (Page × Unlock) := []
  /-- Pages in block reset (R31). -/
  blockResets : List Page := []
  /-- Per ACTIVE interrupt source, the target that claimed it (R48). -/
  irOwner   : NMap Nat := []
  /-- Per register that captures, the instant and the words of the latest event that could be captured (R43). -/
  captures  : List (Reg × Nat × List (Reg × Nat)) := []
  /-- Levels at the GPIO inputs (R44). -/
  gpio      : Nat := 0
  /-- Rim engines halted by an error response (R42), as bits. -/
  rimHalt   : Nat := 0
  clk       : ClkState := {}
  time      : TimeState := {}
  rims      : NMap RimState := []
  spokes    : NMap SpokeState := []
  edge      : EdgeState := {}
  adc       : AdcState := {}
  loop      : LoopState := {}
  tandem    : TandemState := {}
  station   : StationState := {}
  fc        : FcState := {}
  therm     : ThermState := {}
  memory    : MemState := {}
  xspi      : XspiState := {}
  dma       : DmaState := {}
  pwr       : PwrState := {}
  rst       : RstState := {}
  sec       : SecState := {}
  deriving DecidableEq, Repr

/-- The state: the device, its memories as address and byte pairs, and the commands that wait, first in, first out. -/
structure State where
  dev     : Dev := {}
  mem     : List Host.Cell := []
  pending : List Instr := []
  deriving DecidableEq, Repr

/-- The reasons for which a command stops the machine. (DEDUCED, log 7.) -/
inductive Fault where
  /-- Raised by a write that leaves the clock ratios of R72, where every result of operation is undefined (R10).
  Safe: the machine stops. -/
  | undefinedClockRatio
  deriving DecidableEq, Repr

/-- The reasons for which a command has no meaning in the model. -/
inductive Refusal where
  /-- Raised by the dispatch for a command that has no meaning yet. Safe: nothing runs. -/
  | notModelled (mnemonic : String)
  deriving DecidableEq, Repr

/-- The device held in its power-on reset (R362, R7): every register at its reset value, nothing in any memory.
(DESIGN CHOICE, log 2, 3, 4.) -/
def State.reset : State := {}


end Sys2Proof.Machine
end

