-- ==== Sys2Proof/Machine/Ops.lean ====
section
/-!
DEFINITION. Sys2Proof/Machine/Ops.lean: the shared operations. Reading and writing a named field, free values, the
passage of time, how a meaning on the device becomes a meaning on the state, page errors, interrupt pulses, blocks in
force (R282), and the latching of a Scoreboard source with everything its class brings (R273 to R287).
-/
namespace Sys2Proof.Machine

/-- The outcome of a command. -/
abbrev Out := Host.Outcome State Fault Refusal

/-- A meaning that touches neither memory nor the queue. (DESIGN CHOICE, log 9.) -/
def liftDev (f : Dev → Dev) (s : State) : Out := .next { s with dev := f s.dev }

/-! ## Registers -/

/-- The value of a field. -/
def Dev.rd (d : Dev) (f : FRef) : Nat := bitsOf (d.regs.get f.reg).toNat f.lo f.w

/-- The record of the present instant: empty where the stored one is of an earlier instant. -/
def Dev.thisTick (d : Dev) : Tick := if d.tick.at_ = d.now then d.tick else { at_ := d.now }

/-- The W1C bits of a register, as a mask (R4). -/
def Reg.w1cMask (r : Reg) : Nat :=
  r.fields.foldl (fun a f => if f.acc == .W1C then putBits a f.lo (f.hi + 1 - f.lo) (2 ^ 32 - 1) else a) 0

/-- The record of the present instant after bits of a register have been set: its W1C bits among them are noted (R5). -/
def Dev.tickSet (d : Dev) (r : Reg) (mask : Nat) : Tick :=
  let m := mask &&& r.w1cMask
  if m = 0 then d.tick else { d.thisTick with sets := (r, m) :: d.thisTick.sets }

/-- The W1C bits of a register that an event has set at the present instant (R5). -/
def Dev.setNow (d : Dev) (r : Reg) : Nat :=
  d.thisTick.sets.foldl (fun a e => if e.1 = r then a ||| e.2 else a) 0

/-- A written word without the 1s for W1C bits that an event has set at the same instant: such a bit remains set (R5). -/
def Dev.ack (d : Dev) (r : Reg) (v : Nat) : Nat := v - (v &&& d.setNow r)

/-- The store with a field of a register set to the low bits of `v`. -/
def RegStore.put (l : RegStore) (f : FRef) (v : Nat) : RegStore :=
  l.set f.reg (BitVec.ofNat 32 (putBits (l.get f.reg).toNat f.lo f.w v))

/-- The device with a field set to the low bits of `v`; 1s in W1C bits are events of this instant (R5). -/
def Dev.wr (d : Dev) (f : FRef) (v : Nat) : Dev :=
  { d with regs := d.regs.put f v, tick := d.tickSet f.reg (putBits 0 f.lo f.w v) }

/-- The code as which a field acts: the code it holds where that is legal, else a legal code that the manual leaves open
(R4, R10). (DESIGN CHOICE, log 7.) -/
def Dev.code (d : Dev) (f : FRef) (legal : List Nat) : Nat :=
  let v := d.rd f
  if legal.contains v then v else legal.getD (Config.reservedCode f.reg.addr v % legal.length) 0

/-- The value as which a field acts whose table states a range: the one it holds where that lies within it, else one within
it that the manual leaves open. (DESIGN CHOICE, log 7.) -/
def Dev.inRange (d : Dev) (f : FRef) (lo hi : Nat) : Nat :=
  let v := d.rd f
  if lo ≤ v ∧ v ≤ hi then v else lo + Config.reservedCode f.reg.addr v % (hi + 1 - lo)

/-- The record of the present instant keeps the word that a register holds, where it keeps none yet (R155). -/
def Tick.keepOld (t : Tick) (r : Reg) (w : Word) : Tick :=
  { t with old := if t.old.any fun e => e.1 = r then t.old else (r, w) :: t.old }

/-- A register is about to take a value at the present instant other than by a bus write (R155). -/
def Dev.noteOld (d : Dev) (r : Reg) : Dev := { d with tick := d.thisTick.keepOld r (d.regs.get r) }

/-- The device with the registers as they stood before the present instant's writes: what a commit in this tick takes
(R155). -/
def Dev.before (d : Dev) : Dev := { d with regs := d.thisTick.old.foldl (fun l e => l.set e.1 e.2) d.regs }

/-- Whether a field is not 0. -/
def Dev.on (d : Dev) (f : FRef) : Bool := d.rd f != 0

/-- A whole register word as stored. -/
def Dev.word (d : Dev) (r : Reg) : Nat := (d.regs.get r).toNat

/-- The device with a whole register word replaced. -/
def Dev.setWord (d : Dev) (r : Reg) (v : Nat) : Dev := { d with regs := d.regs.set r (BitVec.ofNat 32 v) }

/-- A field as a two's-complement number. -/
def Dev.rdInt (d : Dev) (f : FRef) : Int := signedOf f.w (d.rd f)

/-- The device with a field set to a two's-complement number. -/
def Dev.wrInt (d : Dev) (f : FRef) (v : Int) : Dev := d.wr f (unsignedOf f.w v)

/-- Adds to a count that saturates at its field's greatest value. -/
def Dev.count (d : Dev) (f : FRef) (n : Nat := 1) : Dev := d.wr f (satAdd (d.rd f) n (2 ^ f.w - 1))

/-- One bit of a field. -/
def Dev.bit (d : Dev) (f : FRef) (i : Nat) : Bool := bitAt (d.rd f) i

/-- The device with one bit of a field set. -/
def Dev.setBit (d : Dev) (f : FRef) (i : Nat) : Dev :=
  { d with regs := d.regs.put f (setBitAt (d.rd f) i), tick := d.tickSet f.reg (2 ^ (f.lo + i)) }

/-- The device with one bit of a field cleared. -/
def Dev.clrBit (d : Dev) (f : FRef) (i : Nat) : Dev := { d with regs := d.regs.put f (clearBitAt (d.rd f) i) }

/-- `f` applied only where a condition holds. -/
def Dev.when (d : Dev) (c : Bool) (f : Dev → Dev) : Dev := if c then f d else d

/-- `f` applied for each element of a list, in order. -/
def Dev.each {α : Type} (d : Dev) (l : List α) (f : α → Dev → Dev) : Dev := l.foldl (fun d a => f a d) d

/-- A 64-bit value held in a LO and a HI register. -/
def Dev.rd64 (d : Dev) (lo hi : FRef) : Nat := d.rd hi * 2 ^ 32 + d.rd lo

/-- A 64-bit value written to a LO and a HI register. -/
def Dev.wr64 (d : Dev) (lo hi : FRef) (v : Nat) : Dev := (d.wr lo (v % 2 ^ 32)).wr hi (v / 2 ^ 32)

/-- Events set bits of a register whole; its W1C bits among them are events of this instant (R5). -/
def Dev.orWord (d : Dev) (r : Reg) (bits : Nat) : Dev :=
  { d.setWord r (d.word r ||| bits) with tick := d.tickSet r bits }

/-- Whole words set, in order. -/
def Dev.setWords (d : Dev) (l : List (Reg × Nat)) : Dev := d.each l fun e d => d.setWord e.1 e.2

/-- An event comes that the register `key` could capture, as the words of `l` (R43). (DESIGN CHOICE, log 8.) -/
def Dev.noteCapture (d : Dev) (key : Reg) (l : List (Reg × Nat)) : Dev :=
  { d with captures := (key, d.now, l) :: d.captures.filter fun e => e.1 != key }

/-- After a release of a capture: an event of the same instant is captured, whichever of the two came first (R43).
(DESIGN CHOICE, log 8.) -/
def Dev.recapture (d : Dev) (key : Reg) : Dev :=
  match d.captures.find? fun e => e.1 == key && e.2.1 == d.now with
  | some e => d.setWords e.2.2
  | none => d

/-! ## Free values -/

/-- The next free value: one the manual does not state (R10). (DESIGN CHOICE, log 13.) -/
def Dev.free (d : Dev) : Nat := (Config.freeValue d.freeCount).toNat

/-- The device after a free value has been taken. (DESIGN CHOICE, log 13.) -/
def Dev.taken (d : Dev) : Dev := { d with freeCount := d.freeCount + 1 }

/-! ## Time -/

/-- Units of the timebase count in 1 ns and in 1 s (R81): 2^-29 ns. -/
def nsUnit : Nat := 2 ^ 29

/-- Units of the timebase count in 1 s. -/
def secUnit : Nat := 1000000000 * nsUnit

/-- The period in ps of a PLL-M output (R58): `DIV` VCO periods of 200 ps. (DESIGN CHOICE, log 18.) -/
def Dev.outPs (d : Dev) (n : Nat) : Nat := d.rd (F.CLK_OUT_CFG_DIV n) * 200

/-- The position of TIMECLK at an instant in ps: how long it has run, and the rest of a cycle that a restart cut short
(R58, R60, R85). (DESIGN CHOICE, log 18.) -/
def Dev.timePos (d : Dev) (ps : Nat) : Nat :=
  let t := d.time
  if t.running ∧ t.anchorPs ≤ ps then t.anchorPos + (ps - t.anchorPs) else t.heldPos

/-- The TIMECLK cycles that have begun at an instant in ns (R81). -/
def Dev.timeCycles (d : Dev) (t : Nat) : Nat := d.timePos (1000 * t) / d.outPs 3

/-- The phase of TIMECLK, the quarter of its cycle, 0 to 3 (R11). -/
def Dev.timePhase (d : Dev) : Nat := d.timePos (1000 * d.now) % d.outPs 3 * 4 / d.outPs 3

/-- The nanoseconds values of the count: its seconds wrap at 64 bits (R81). -/
def wrapNs : Nat := 2 ^ 64 * 1000000000

/-- The units of the count: its seconds wrap at 64 bits (R81). -/
def wrapUnits : Nat := wrapNs * nsUnit

/-- The latest nanoseconds value whose tick has come (R82): each value falls on the phase nearest to the instant at
which the count, interpolated across the TIMECLK cycle, reaches it. (DEDUCED, log 20.) -/
def Dev.tns (d : Dev) : Nat :=
  (8 * d.time.count + d.rd F.TIME_ADDEND_EFF_EFF * (2 * d.timePhase + 1)) / (8 * nsUnit) % wrapNs

/-- The whole timebase at the present tick, in 2^-29 ns: interpolated, and not below the value of the tick.
(DEDUCED, log 20.) -/
def Dev.tbVal (d : Dev) : Nat :=
  max ((d.time.count + d.rd F.TIME_ADDEND_EFF_EFF * d.timePhase / 4) % wrapUnits) (d.tns * nsUnit)

/-- The timebase at an instant in ps that is not past, interpolated to the fraction (R99). -/
def Dev.tbExact (d : Dev) (ps : Nat) : Nat :=
  let p := d.outPs 3
  let eff := d.rd F.TIME_ADDEND_EFF_EFF
  let edges := d.timePos ps / p - d.timeCycles d.now
  (d.time.count + edges * eff + eff * (d.timePos ps % p) / p) % wrapUnits

/-- The timebase `ago` ps before the present instant, interpolated to the fraction, along the addends and over the step
that were in force on the way (R94). (DEDUCED, log 173.) -/
def Dev.tbAgo (d : Dev) (ago : Nat) : Nat :=
  let p := d.outPs 3
  let t := d.time
  let pos := d.timePos (1000 * d.now - ago)
  let at_ (count eff edges : Nat) : Nat :=
    (((count : Int) + (pos / p : Nat) * eff - (edges * eff : Nat) + (eff * (pos % p) / p : Nat)) % (wrapUnits : Int)).toNat
  if pos < t.wasPos then at_ t.wasCount t.wasEff (t.wasPos / p)
  else at_ t.count (d.rd F.TIME_ADDEND_EFF_EFF) (d.timeCycles d.now)

/-- The effective addend or the count is about to change: what they were up to this instant is kept. -/
def Dev.noteRate (d : Dev) : Dev :=
  { d with time := { d.time with
    wasPos := d.timePos (1000 * d.now), wasCount := d.time.count, wasEff := d.rd F.TIME_ADDEND_EFF_EFF } }

/-- The nanoseconds of the second, R81. -/
def Dev.tbNs (d : Dev) : Nat := d.tns % 1000000000

/-- The seconds of the timebase, R81. -/
def Dev.tbSec (d : Dev) : Nat := d.tns / 1000000000

/-- The device at the later instant `t`: the timebase has counted the TIMECLK cycles in between (R81, R83).
(DESIGN CHOICE, log 9.) -/
def Dev.jumpTo (d : Dev) (t : Nat) : Dev :=
  if t ≤ d.now then d
  else
    { d with
      now := t
      time := { d.time with
        count := (d.time.count + (d.timeCycles t - d.timeCycles d.now) * d.rd F.TIME_ADDEND_EFF_EFF) % wrapUnits } }

/-- The instant of the tick of a nanoseconds value that lies ahead (R82), at the addend in force. (DEDUCED, log 20.) -/
def Dev.tickOf (d : Dev) (x : Nat) : Nat :=
  let eff := max 1 (d.rd F.TIME_ADDEND_EFF_EFF)
  let phases := (8 * (x * nsUnit - d.time.count) + eff - 1) / (2 * eff)
  let pos := d.timeCycles d.now * d.outPs 3 + phases * d.outPs 3 / 4
  (d.time.anchorPs + (pos - d.time.anchorPos) + 999) / 1000

/-- The device at the tick of a nanoseconds value, or as it is where that tick has passed or TIMECLK is stopped.
(DESIGN CHOICE, log 9.) -/
def Dev.jumpToTb (d : Dev) (x : Nat) : Dev :=
  if x ≤ d.tns ∨ ¬ d.time.running then d else d.jumpTo (d.tickOf x)

/-! ## Power domains -/

/-- The power domains of R15 in the bit order of `PWR.DOM.ON`. -/
def domSAFE : Nat := 0
/-- The TIME domain. -/
def domTIME : Nat := 1
/-- The STATION domain. -/
def domSTATION : Nat := 2
/-- The TANDEM domain. -/
def domTANDEM : Nat := 3
/-- The RIM-W domain; RIM-E is the next number. -/
def domRIMW : Nat := 4
/-- The LOOP domain. -/
def domLOOP : Nat := 6
/-- The SVC domain. -/
def domSVC : Nat := 7
/-- The MEM domain. -/
def domMEM : Nat := 8
/-- The ANALOG domain. -/
def domANALOG : Nat := 9

/-- The domain of a rim: RIM-W for rims 0 to 15, RIM-E for 16 to 31 (R15). -/
def rimDomain (n : Nat) : Nat := if n < 16 then domRIMW else domRIMW + 1

/-- The domain that powers a page (R15 and each block's page rule). -/
def Page.domain : Page → Nat
  | .SYS _ | .DMA _ | .IR _ | .XSPI => domMEM
  | .CLK | .TIME 0 => domTIME
  | .TIME _ => domSTATION
  | .PWR | .RST | .SVCPORT | .FC | .THERM | .SAFE | .KEYS _ | .PROT => domSAFE
  | .STATION _ => domSTATION
  | .TANDEM _ => domTANDEM
  | .RIM n | .SPOKE n => rimDomain n
  | .EDGE _ | .LOOP _ => domLOOP
  | .ADC _ => domANALOG

/-- Whether a domain is powered and released (R350). -/
def Dev.domUp (d : Dev) (i : Nat) : Bool := d.bit F.PWR_DOM_STAT_UP i

/-! ## Pages -/

/-- Sets a block-specific cause, bits 31:16 of `PG_ERR` (R31 and each block's list of causes). -/
def Dev.blkErr (d : Dev) (p : Page) (bit : Nat) : Dev := d.setBit (F.PG_ERR_BLK p) (bit - 16)

/-- Whether a page's function is enabled. -/
def Dev.enabled (d : Dev) (p : Page) : Bool := d.on (F.PG_CTRL_ENABLE p)

/-- An operation of `PG_PROG` starts: SEQ rises modulo 256, BUSY is 1 (R37). -/
def Dev.progStart (d : Dev) (p : Page) (position percent : Nat) : Dev :=
  (((d.wr (F.PG_PROG_SEQ p) (d.rd (F.PG_PROG_SEQ p) + 1)).wr (F.PG_PROG_POSITION p) position).wr
    (F.PG_PROG_PERCENT p) percent).wr (F.PG_STAT_BUSY p) 1

/-- Progress within an operation (R37). -/
def Dev.progAt (d : Dev) (p : Page) (position percent : Nat) : Dev :=
  (d.wr (F.PG_PROG_POSITION p) position).wr (F.PG_PROG_PERCENT p) percent

/-- The operation ends: PERCENT 100 and BUSY 0 in the same cycle (R37). -/
def Dev.progEnd (d : Dev) (p : Page) : Dev := (d.wr (F.PG_PROG_PERCENT p) 100).wr (F.PG_STAT_BUSY p) 0

/-- A pulse of an interrupt source: its pending bit is set, while the router is powered (R44, R48, R49). R44 lists source
133 for SVCPORT events without saying which event pulses it; in the model none does (DESIGN CHOICE, log 163). -/
def Dev.irPulse (d : Dev) (s : Nat) : Dev :=
  d.when (d.domUp domMEM) fun d =>
    { d.wr (F.IR_SRC_ROUTE_PEND s) 1 with tick := { d.thisTick with pulses := s :: d.thisTick.pulses } }

/-- Sets a bit of an event register and pulses a source where the bit becomes 1 and is enabled. -/
def Dev.eventPulse (d : Dev) (ev en : FRef) (src : Nat) : Dev :=
  (d.wr ev 1).when (!d.on ev && d.on en) fun d => d.irPulse src

/-! ## Rims, legs and blocks -/

/-- What a rim port holds. -/
def Dev.rim (d : Dev) (n : Nat) : RimState := mget {} d.rims n

/-- Replaces what a rim port holds. -/
def Dev.setRim (d : Dev) (n : Nat) (r : RimState) : Dev := { d with rims := mset d.rims n r }

/-- What a position holds. -/
def Dev.spoke (d : Dev) (k : Nat) : SpokeState := mget {} d.spokes k

/-- Replaces what a position holds. -/
def Dev.setSpoke (d : Dev) (k : Nat) (p : SpokeState) : Dev := { d with spokes := mset d.spokes k p }

/-- Whether a rim page is enabled. -/
def Dev.rimOn (d : Dev) (n : Nat) : Bool := d.enabled (.RIM n)

/-- Whether a block is in force on a rim (R282, R357). -/
def Dev.blockInForce (d : Dev) (n : Nat) : Bool :=
  d.bit F.SAFE_BLOCK_RIMS n || ((d.fc.reactBlock || d.pwr.powerBlock) && d.rimOn n)

/-- The rims under block, as `SAFE.BLOCK_STAT.IN_FORCE` and `EDGE.BLKMASK` show them. -/
def Dev.blockMask (d : Dev) : Nat :=
  (List.range 32).foldl (fun a n => if d.blockInForce n then a + 2 ^ n else a) 0

/-- Whether the block on a rim calls for BYPASS, by the command, the reaction or the power block (R282, R357). -/
def Dev.blockBypass (d : Dev) (n : Nat) : Bool :=
  (d.bit F.SAFE_BLOCK_RIMS n && !d.on F.SAFE_BLOCK_CFG_ACTION) ||
  ((d.fc.reactBlock || d.pwr.powerBlock) && d.rimOn n && !d.on F.FC_CFG_BLK_ACTION)

/-- Whether any leg is enabled. -/
def Dev.anyLeg (d : Dev) : Bool :=
  d.regs.any fun e => match e.1 with
    | .EDGE_LEG_CTRL _ => bitAt e.2.toNat 0
    | _ => false

/-- `CLK.ROOTSTAT.CELLS_BLOCKED`: a block is in force on every enabled rim, or no leg is enabled. -/
def Dev.cellsBlocked (d : Dev) : Bool :=
  !d.anyLeg || (List.range 32).all fun n => !d.rimOn n || d.blockInForce n

/-! ## The fault collector -/

/-- The Scoreboard, 64 bits (R273). -/
def Dev.score (d : Dev) : Nat := d.rd64 F.FC_SCORE_LO_SCORE F.FC_SCORE_HI_SCORE

/-- The held sources (R279). -/
def Dev.held (d : Dev) : Nat := d.rd64 F.FC_HELD_LO_HELD F.FC_HELD_HI_HELD

/-- The present class of a source (R276). -/
def Dev.srcClass (d : Dev) (n : Nat) : Nat := d.rd (F.FC_CLASS_CLASS n)

/-- The sources asserted now: conditions, forces, and test forces while permitted (R273). -/
def Dev.asserted (d : Dev) (n : Nat) : Bool :=
  bitAt d.fc.cond n ||
  bitAt (d.rd64 F.FC_FORCE_LO_FORCE F.FC_FORCE_HI_FORCE) n ||
  (d.on F.FC_STAT_TEST_FORCE_EN && bitAt (d.rd64 F.SYS_TFORCE_LO_TFORCE F.SYS_TFORCE_HI_TFORCE) n)

/-- The recoveries of the last WIN seconds (R280). -/
def Dev.recoveriesInWindow (d : Dev) : Nat :=
  let w := (if d.on F.FC_RECOV_CFG_WIN then d.inRange F.FC_RECOV_CFG_WIN 1 3600 else 1) * 1000000000
  (d.fc.recoveries.filter fun t => d.now < t + w).length

/-- The quiet time in ns: 1 to 60,000 ms. -/
def Dev.quietNs (d : Dev) : Nat := clampTo 1 60000 (d.rd F.FC_QUIET_MS) * 1000000

/-- Loops are held: by the fault state (R277) or by a power state (R357). -/
def Dev.loopsHeld (d : Dev) : Bool := d.on F.FC_STATE_STATE || d.pwr.loopsHeld

/-- The words of a first-latch capture of source `n`. -/
def Dev.firstWords (d : Dev) (n : Nat) : List (Reg × Nat) := [(.FC_FIRST, 2 ^ 31 + n), (.FC_FIRST_NS, d.tbNs)]

/-- The first-latch capture: taken when the Scoreboard goes from all zeros to non-zero while VALID is 0. Of the sources
latched in that cycle the lowest is named. -/
def captureFirst (n : Nat) (d : Dev) : Dev :=
  let key : Reg := .FC_FIRST
  if d.score = 0 then
    (d.noteCapture key (d.firstWords n)).when (!d.on F.FC_FIRST_VALID) fun d => d.setWords (d.firstWords n)
  else
    match d.captures.find? fun e => e.1 == key && e.2.1 == d.now with
    | some (_, _, (_, w) :: _) =>
      if n < w % 2 ^ 6 then
        (d.noteCapture key (d.firstWords n)).when (d.word key == w) fun d => d.setWords (d.firstWords n)
      else d
    | _ => d

/-- SHED is entered: `CUR` = SHED with its cause (R355, R356). (DEDUCED, log 112.) -/
def enterShed (cause : Nat) (d : Dev) : Dev :=
  ((d.wr F.PWR_STATE_CUR 1).wr F.PWR_STATE_CAUSE cause).wr F.PWR_EVT_STATE_CHANGE 1

/-- A SHED request: from RUN it takes the device to SHED unless a transition is in progress (R353, R355). One that arises
in the instant of a REQ of SHED goes before it. (DEDUCED, log 112.) -/
def shedRequest (d : Dev) : Dev :=
  let d := { d with fc := { d.fc with shedReq := true, shedSince := d.now } }
  let cur := d.rd F.PWR_STATE_CUR
  d.when ((cur == 0 || (cur == 1 && !d.pwr.shedByFc && d.pwr.since == d.now)) && !d.on F.PWR_STATE_BUSY) fun d =>
    let d := enterShed 2 d
    { d with pwr := { d.pwr with shedByFc := true, since := d.now } }

/-- A case of R282 in which HANDOVER blocks and does not resign. -/
def Dev.handoverBlocks (d : Dev) : Bool :=
  d.rd F.SAFE_CLAIM_STAT_ROLE != 2 || !d.tandem.hbSeen || d.on F.TANDEM_LINK_HB_SILENT ||
  d.tandem.hbAt + 2500 < d.now || !d.on F.TANDEM_LINK_P_TAKE_READY

/-- A resign: RESIGN is set in the heartbeats (R261). -/
def resign (d : Dev) : Dev :=
  { d.wr F.SAFE_CLAIM_CTRL_RESIGN 1 with tandem := { d.tandem with resignAt := d.now } }

/-- The reaction block begins where the level is HANDOVER and a case of R282 holds. -/
def handoverCheck (d : Dev) : Dev :=
  d.when (d.rd F.FC_STATE_LEVEL == 6 && d.on F.FC_STATE_STATE && d.handoverBlocks) fun d =>
    { d with fc := { d.fc with reactBlock := true } }

/-- A TRIP reaction sets the bits of `FC.CFG.TRIP_MASK` in `SAFE.TRIP.ASSERT` (R286). -/
def tripReaction (d : Dev) : Dev :=
  let old := d.rd F.SAFE_TRIP_ASSERT
  let new := old ||| d.rd F.FC_CFG_TRIP_MASK
  let d := { d with
    tick := { d.thisTick with tripped := d.thisTick.tripped ||| d.rd F.FC_CFG_TRIP_MASK }
    fc := { d.fc with tripSetAt := (risingBits 8 old new).foldl (fun m i => mset m i d.now) d.fc.tripSetAt } }
  (d.wr F.SAFE_TRIP_ASSERT new).wr F.SAFE_TRIP_STAT_PEND_CLR
    (d.rd F.SAFE_TRIP_STAT_PEND_CLR &&& (255 - d.rd F.FC_CFG_TRIP_MASK))

/-- A source of class HOLD or above holds the fault state: HELD, HCLASS, LEVEL and STATE of R279 and R280, and the
actions of the level reached (R277, R282, R286, R287). -/
def holdFault (n c : Nat) (d : Dev) : Dev :=
  let d := { d with fc := { d.fc with quietSince := d.now } }
  if bitAt d.held n then d
  else
    let was := d.rd F.FC_STATE_LEVEL
    let level := max was c
    let d := (d.wr64 F.FC_HELD_LO_HELD F.FC_HELD_HI_HELD (setBitAt d.held n)).wr (F.FC_CLASS_HCLASS n) c
    let d := d.wr F.FC_STATE_LEVEL level
    let max_ := d.rd F.FC_RECOV_CFG_MAX
    let limit := max_ != 0 && decide (max_ ≤ d.recoveriesInWindow)
    let st := d.rd F.FC_STATE_STATE
    let d := d.wr F.FC_STATE_STATE
      (if st = 0 then (if limit || decide (6 ≤ level) then 2 else 1) else if 6 ≤ level then 2 else st)
    let d := d.when (st == 0) fun d => { d with loop := d.loop.abortAll }
    let d := d.when (level == 5 || level == 7) fun d => { d with fc := { d.fc with reactBlock := true } }
    let d := d.when (level == 6 && was != 6) fun d =>
      if d.handoverBlocks then { d with fc := { d.fc with reactBlock := true } } else resign d
    d.when (c == 7) tripReaction

/-- Source `n` is asserted: its Scoreboard bit is set and the actions of its class begin (R273, R277).
(DEDUCED, log 120.) -/
def Dev.latch (d : Dev) (n : Nat) : Dev :=
  let c := d.srcClass n
  let d := captureFirst n { d with tick := { d.thisTick with latched := n :: d.thisTick.latched } }
  let d := d.when (!bitAt d.score n) fun d =>
    { d with fc := { d.fc with rises := mset d.fc.rises n (mget 0 d.fc.rises n + 1) } }
  let d := d.wr64 F.FC_SCORE_LO_SCORE F.FC_SCORE_HI_SCORE (setBitAt d.score n)
  let d := d.when (c == 3) shedRequest
  d.when (decide (4 ≤ c)) (holdFault n c)

/-- A level condition of a source rises (R273). -/
def Dev.condOn (d : Dev) (n : Nat) : Dev :=
  ({ d with fc := { d.fc with cond := setBitAt d.fc.cond n } }).latch n

/-- A level condition of a source falls: the quiet times run from here (R277, R280). -/
def Dev.condOff (d : Dev) (n : Nat) : Dev :=
  let d := d.when (d.asserted n && d.srcClass n == 3) fun d => { d with fc := { d.fc with shedSince := d.now } }
  let d := d.when (d.asserted n && decide (4 ≤ d.srcClass n)) fun d =>
    { d with fc := { d.fc with quietSince := d.now } }
  { d with fc := { d.fc with cond := clearBitAt d.fc.cond n } }

/-- Every asserted source latches, as in a SAFECLK cycle (R273). -/
def Dev.latchAsserted (d : Dev) : Dev :=
  d.each ((List.range 64).filter d.asserted) fun n d => d.latch n

/-- Whether a source of a class from `c` upwards is asserted. -/
def Dev.assertedFrom (d : Dev) (c : Nat) : Bool :=
  (List.range 64).any fun n => d.asserted n && decide (c ≤ d.srcClass n)

/-! ## Resets of register pages -/

/-- Whether a field survives a reset or low-power state (R8). -/
def Field.survives (f : Field) (k : Option Keep) : Bool :=
  match k with
  | none => false
  | some k => f.kept.contains k

/-- A register word after a reset of kind `k` (none: power-on): fields that do not survive take their reset value. -/
def resetWordOf (k : Option Keep) (r : Reg) (w : Nat) : Nat :=
  r.fields.foldl (fun w f => if f.survives k then w else putBits w f.lo (f.hi + 1 - f.lo) f.reset) w

/-- The registers after a reset of kind `k` that reaches the registers of `reach`. -/
def RegStore.resetBy (l : RegStore) (k : Option Keep) (reach : Reg → Bool) : RegStore :=
  l.map fun e => if reach e.1 then (e.1, BitVec.ofNat 32 (resetWordOf k e.1 e.2.toNat)) else e

end Sys2Proof.Machine
end

