-- ==== Sys2Proof/Machine/RimWire.lean ====
section
/-!
DEFINITION. Sys2Proof/Machine/RimWire.lean: the bytes of rim frames, records and block pairs (R106 to R112, R116 to
R125). Multi-byte fields are in network byte order (R3), the CRC among them.
-/
namespace Sys2Proof.Machine

/-! ## Downstream -/

/-- The 4-byte header of a record (R111). -/
def recHead (type_ addr len : Nat) : List (BitVec 8) := beBytes 1 type_ ++ beBytes 1 addr ++ beBytes 2 len

/-- The values of a TIME record at its time point (R99, R116). -/
structure TimeVals where
  sec    : Nat
  ns     : Nat
  frac   : Nat
  now    : Nat
  next   : Nat
  seq    : Nat
  flags  : Nat
  period : Nat
  deriving DecidableEq, Repr

/-- The bytes of a downstream record (R116, R117, R119 to R121, R140). -/
def DownRec.bytes (t : TimeVals) : DownRec → List (BitVec 8)
  | .time => recHead 0x02 0xFF 32 ++ beBytes 6 t.sec ++ beBytes 4 t.ns ++ beBytes 4 t.frac ++ beBytes 4 t.now ++
      beBytes 4 t.next ++ beBytes 2 t.seq ++ beBytes 1 t.flags ++ beBytes 1 t.period ++ beBytes 2 0
  | .edge pos leg dir t1 dt eseq _ _ => recHead 0x01 pos 16 ++ beBytes 1 (leg % 4 + dir * 64) ++
      beBytes 1 (t1 / 1000000000) ++ beBytes 4 (t1 % 1000000000) ++ beBytes 2 (dt % 4096) ++ beBytes 2 eseq ++
      beBytes 2 0
  | .sample x => recHead 0x03 0xFF 12 ++ beBytes 1 (x / 1000000000) ++ beBytes 3 0 ++ beBytes 4 (x % 1000000000)
  | .discover tag => recHead 0x04 0xFF 8 ++ beBytes 2 tag ++ beBytes 2 0
  | .echoReq pos tag => recHead 0x05 pos 8 ++ beBytes 2 tag ++ beBytes 2 0
  | .assign uid pos => recHead 0x06 0xFF 16 ++ beBytes 8 uid ++ beBytes 1 pos ++ beBytes 3 0
  | .cfg pos param vals => recHead 0x07 pos (8 + 4 * vals.length) ++ beBytes 2 param ++ beBytes 2 vals.length ++
      vals.flatMap (beBytes 4)
  | .release pos legs => recHead 0x08 pos 8 ++ beBytes 1 legs ++ beBytes 3 0
  | .bypass pos op => recHead 0x09 pos 8 ++ beBytes 1 op ++ beBytes 3 0
  | .delay pos d => recHead 0x0A pos 12 ++ beBytes 4 d ++ beBytes 4 0
  | .fwStart len blocks mask digest => recHead 0x0B 0xFF 44 ++ beBytes 4 len ++ beBytes 4 blocks ++
      beBytes 1 mask ++ beBytes 3 0 ++ digest.take 28
  | .fwData block data => recHead 0x0C 0xFF 520 ++ beBytes 4 block ++ data
  | .fwActivate pos tail op => recHead 0x0D pos 12 ++ tail ++ beBytes 1 op ++ beBytes 3 0
  | .ackFault pos fseq => recHead 0x0E pos 8 ++ beBytes 2 fseq ++ beBytes 2 0

/-- A frame of a version around the bytes of its records (R109, R249). -/
def frameBytes (ver unit claim fseq rim nrec : Nat) (body : List (BitVec 8)) : List (BitVec 8) :=
  let len := (20 + body.length + 7) / 8 * 8
  let front := beBytes 1 ver ++ beBytes 1 (unit % 2) ++ beBytes 6 claim ++ beBytes 2 len ++ beBytes 2 fseq ++
    beBytes 1 0 ++ beBytes 1 nrec ++ beBytes 1 rim ++ beBytes 1 0 ++ body ++
    List.replicate (len - 20 - body.length) 0
  front ++ beBytes 4 (crc32c front)

/-- A device frame of a rim (R109). -/
def deviceFrame (unit claim fseq rim nrec : Nat) (body : List (BitVec 8)) : List (BitVec 8) :=
  frameBytes 0x01 unit claim fseq rim nrec body

/-- A frame of the tandem link (R249). -/
def tandemFrame (unit claim fseq nrec : Nat) (body : List (BitVec 8)) : List (BitVec 8) :=
  frameBytes 0x02 unit claim fseq 0xFF nrec body

/-- The payloads, bytes 1 to 7, of a BLOCK_A and a BLOCK_B block (R106). -/
def blockPair (claim : Nat) (bypass : Bool) : List (BitVec 8) :=
  let action := beBytes 1 (if bypass then 0x5A else 0xA5)
  let a := beBytes 6 claim ++ action
  a ++ beBytes 4 (crc32c a) ++ action ++ beBytes 2 0

/-- Blocks of a frame on the lane, SOF and EOF included. -/
def frameBlocks (f : List (BitVec 8)) : Nat := f.length / 8 + 2

/-! ## Blocks (R106, R109) -/

/-- A control block of a type with a payload of 7 bytes. -/
def ctrlBlock (type_ payload : Nat) : RimBlock := { ctrl := true, bytes := BitVec.ofNat 64 (type_ * 2 ^ 56 + payload % 2 ^ 56) }

/-- The SOF block of a frame at its originator: HOP 0, with its complement (R106). -/
def sofBlock : RimBlock := ctrlBlock 0x78 (0xF0 * 2 ^ 48)

/-- The EOF block. -/
def eofBlock : RimBlock := ctrlBlock 0x87 0

/-- The bytes of a frame as data blocks. -/
def dataBlocks : Nat → List (BitVec 8) → List RimBlock
  | 0, _ => []
  | n + 1, l => { ctrl := false, bytes := BitVec.ofNat 64 (beAt l 0 8) } :: dataBlocks n (l.drop 8)

/-- A frame as the device sends it (R109): SOF, its bytes in data blocks, EOF. -/
def frameWire (f : List (BitVec 8)) : List RimBlock := sofBlock :: dataBlocks (f.length / 8) f ++ [eofBlock]

/-- A block pair as the device sends it, from the payloads of `blockPair` (R106, R108). -/
def pairWire (p : List (BitVec 8)) : List RimBlock := [ctrlBlock 0x2D (beAt p 0 7), ctrlBlock 0x33 (beAt p 7 7)]

/-- The type of a control block; none of a data block. -/
def blockType (b : RimBlock) : Option Nat := if b.ctrl then some (b.bytes.toNat / 2 ^ 56) else none

/-- The data blocks that follow an SOF, each with its place: block pairs are skipped, the frame ends with its EOF, and any
other control block is an error of the frame (R106, R108, R110). -/
def frameData : Nat → List RimBlock → Option (List (Nat × BitVec 64))
  | _, [] => none
  | i, b :: rest =>
    match blockType b with
    | none => (frameData (i + 1) rest).map fun l => (i, b.bytes) :: l
    | some 0x87 => if rest.isEmpty then some [] else none
    | some 0x2D =>
      match rest with
      | c :: rest => if blockType c = some 0x33 then frameData (i + 2) rest else none
      | [] => none
    | some _ => none

/-- A frame as received: its bytes, and the place of each of its data blocks counted from the SOF; none where its blocks
do not make a frame (R109, R110). -/
def frameOf : List RimBlock → Option (List (BitVec 8) × List Nat)
  | [] => none
  | b :: rest =>
    if blockType b = some 0x78 then
      (frameData 1 rest).map fun l => (l.flatMap fun e => beBytes 8 e.2.toNat, l.map Prod.fst)
    else none

/-! ## Upstream -/

/-- An upstream frame that has passed R110. -/
structure UpFrame where
  up    : Bool
  out   : Nat
  claim : Nat
  /-- The node's position, where POS_VALID. -/
  pos   : Option Nat
  rim   : Nat
  /-- ADDR, body and first byte of each record of a known upstream type. -/
  recs  : List (Nat × UpRec × Nat)
  deriving DecidableEq, Repr

/-- 32-bit words in network byte order. -/
def beWords (l : List (BitVec 8)) (i : Nat) : Nat → List (BitVec 32)
  | 0 => []
  | n + 1 => BitVec.ofNat 32 (beAt l i 4) :: beWords l (i + 4) n

/-- One entry of a TDELAY record (R123). -/
def parseDelay (l : List (BitVec 8)) (i : Nat) : DelayEntry :=
  let w := beAt l (i + 2) 2
  { eseq := BitVec.ofNat 16 (beAt l i 2), delay := BitVec.ofNat 12 w, none_ := bitAt w 12, sat := bitAt w 13 }

/-- The record of an upstream type and its bytes, where its length is the type's own (R112, R122 to R125). -/
def parseRec (type_ : Nat) (r : List (BitVec 8)) : Option UpRec :=
  let f (w i n : Nat) : BitVec w := BitVec.ofNat w (beAt r i n)
  match type_, r.length with
  | 0x81, 124 => some (.telem { sampleNs := f 32 4 4, tseq := f 16 8 2, nstat := f 16 10 2, words := beWords r 12 28 })
  | 0x82, 36 => some (.tdelay ((List.range 8).map fun i => parseDelay r (4 + 4 * i)))
  | 0x83, 16 => some (.fault { fcode := f 16 4 2, fseq := f 16 6 2, legs := f 8 8 1, action := f 8 9 1, ns := f 32 12 4 })
  | 0x84, 32 => some (.hello { uid := f 64 4 8, type_ := f 32 12 4, hopRx := f 8 16 1, rxPort := f 1 17 1,
                                posValid := bitAt (beAt r 17 1) 1, pos := f 8 18 1, legs := f 8 19 1,
                                fwVer := f 32 20 4, hopDly := f 16 24 2 })
  | 0x85, 12 => some (.echoRsp { etag := f 16 4 2, nstat := f 16 6 2, turn := f 32 8 4 })
  | 0x86, 16 => some (.cfgAck { param := f 16 4 2, count := f 16 6 2, status := f 16 8 2, crc := f 32 12 4 })
  | 0x87, 12 => some (.fwAck { block := f 32 4 4, status := f 16 8 2 })
  | _, _ => none

/-- The records of a frame from byte `i`: a TYPE of 0 or a record that runs past the end ends them (R111). Where the RLEN
of a known TYPE is not the type's own the manual is silent: the model skips the record, as one of an unknown TYPE; and
an RLEN below 4, with which no record can be passed, ends the frame's records. (DESIGN CHOICE, log 167.) -/
def parseRecs (l : List (BitVec 8)) : Nat → Nat → List (Nat × UpRec × Nat)
  | 0, _ => []
  | fuel + 1, i =>
    let len := beAt l (i + 2) 2
    if l.length < i + 8 ∨ beAt l i 1 = 0 ∨ len < 4 ∨ l.length < i + len + 4 then []
    else
      let rest := parseRecs l fuel (i + len)
      match parseRec (beAt l i 1) ((l.drop i).take len) with
      | none => rest
      | some r => (beAt l (i + 1) 1, r, i) :: rest

/-- A frame's bytes as received: none where R110 discards them. -/
def parseUp (l : List (BitVec 8)) : Option UpFrame :=
  let len := beAt l 8 2
  if l.length < 24 ∨ 1024 < l.length ∨ len ≠ l.length ∨ len % 8 ≠ 0 ∨ beAt l 0 1 ≠ 1 ∨
      crc32c (l.take (len - 4)) ≠ beAt l (len - 4) 4 then none
  else
    some { up := bitAt (beAt l 1 1) 1
           out := bitsOf (beAt l 1 1) 2 1
           claim := beAt l 2 6
           pos := if bitAt (beAt l 12 1) 7 then some (beAt l 12 1 % 8) else none
           rim := beAt l 14 1
           recs := parseRecs l 256 16 }

end Sys2Proof.Machine
end

