-- ==== Sys2Proof/Machine/Claims.lean ====
section
/-!
DEFINITION. Sys2Proof/Machine/Claims.lean: the claim of the unit, the highest claim seen, and the frames that carry
claims (R241 to R246, R255, R260).
-/
namespace Sys2Proof.Machine

/-- The unit's own claim (R243). -/
def Dev.claim (d : Dev) : Nat := d.rd64 F.SAFE_CLAIM_LO_CLAIM F.SAFE_CLAIM_HI_CLAIM

/-- The highest claim seen, H (R244). -/
def Dev.seen (d : Dev) : Nat := d.rd64 F.SAFE_SEEN_LO_SEEN F.SAFE_SEEN_HI_SEEN

/-- The unit's TANDEM_ID strap. -/
def Dev.tid (d : Dev) : Nat := d.rd F.RST_STRAP_TANDEM_ID

/-- The unit's role (R246): 0 NONE, 1 LEARN, 2 ACTIVE, 3 STANDBY, 4 TAKING. -/
def Dev.role (d : Dev) : Nat := d.rd F.SAFE_CLAIM_STAT_ROLE

/-- The role changes; at HANDOVER the cases of R282 are judged again. -/
def setRole (r : Nat) (d : Dev) : Dev := handoverCheck (d.wr F.SAFE_CLAIM_STAT_ROLE r)

/-- A claim is seen (R244): an ACTIVE or TAKING unit whose claim H exceeds becomes STANDBY, and RESIGN is no longer sent (R260, R261).
(DEDUCED, log 63.) -/
def seeClaim (c : Nat) (d : Dev) : Dev :=
  let h := max d.seen c
  let d := d.wr64 F.SAFE_SEEN_LO_SEEN F.SAFE_SEEN_HI_SEEN h
  d.when ((d.role == 2 || d.role == 4) && decide (d.claim < h)) fun d =>
    (((setRole 3 d).wr F.TANDEM_EVT_DEMOTED 1).wr F.SAFE_CLAIM_CTRL_RESIGN 0).latch 61

/-- The claim that the node at a position has latched, as its latest upstream frame shows. -/
def Dev.nodeClaim (d : Dev) (k : Nat) : Nat := d.rd64 (F.SPOKE_CLAIM_LO_CLAIM k) (F.SPOKE_CLAIM_HI_CLAIM k)

/-- A position is in shadow admission (R255). (DEDUCED, log 38.) -/
def Dev.shadow (d : Dev) (k : Nat) : Bool := decide (d.claim < d.nodeClaim k)

/-- A frame of a rim leaves: its bytes, its records, the next FSEQ, and the lane busy for its blocks of 10.56 ns (R102).
(DESIGN CHOICE, log 35.) -/
def frameLeaves (n : Nat) (rs : List DownRec) (body : List (BitVec 8)) (d : Dev) : Dev :=
  let r := d.rim n
  let f := deviceFrame d.tid d.claim r.fseq n rs.length body
  d.setRim n { r with lastFrame := f, inFrame := rs, fseq := (r.fseq + 1) % 65536, frameDue := false
                      freeAt := d.now + (frameBlocks f * 10560 + 999) / 1000 }

/-- An empty frame leaves (R127, R245). -/
def emptyFrame (n : Nat) : Dev → Dev := frameLeaves n [] []

/-- The end of the lane's block that is under way: where a frame or pair may next begin (R102, R108, R245). -/
def Dev.blockEdge (d : Dev) (n : Nat) : Nat :=
  let left := 1000 * (d.rim n).freeAt - 1000 * d.now
  d.now + (left % 10560 + 999) / 1000

/-- The frame in progress is cut: its records are to leave again, in later frames and before those that wait (R23,
R245). -/
def cutFrame (n : Nat) (d : Dev) : Dev :=
  let r := d.rim n
  if r.freeAt ≤ d.now then d
  else
    let keep (p : DownRec → Bool) : List DownRec := r.inFrame.filter p
    let isTime (q : DownRec) : Bool := q == .time
    let isEdge (q : DownRec) : Bool := match q with
      | .edge .. | .sample _ => true
      | _ => false
    let isFw (q : DownRec) : Bool := match q with
      | .fwData .. => true
      | _ => false
    d.setRim n { r with
      qTime := keep isTime ++ r.qTime
      qEdge := keep isEdge ++ r.qEdge
      qCfg := keep (fun q => !isTime q && !isEdge q && !isFw q) ++ r.qCfg
      qFw := keep isFw ++ r.qFw, inFrame := [] }

/-- The frame in progress on a rim is ended at the next block boundary by the SOF of an empty frame that carries the
claim (R245). (DEDUCED, log 65.) -/
def cutByClaim (n : Nat) (d : Dev) : Dev :=
  let at_ := d.blockEdge n
  let d := emptyFrame n (cutFrame n d)
  d.setRim n { d.rim n with freeAt := (d.rim n).freeAt + (at_ - d.now) }

/-- The claim rises: on every enabled rim the frame in progress is cut by an empty frame carrying it; ESEQ restarts
for edges generated from now on, and no upstream frame has carried the new claim (R245, R160, R260). (DEDUCED, log 65.) -/
def raiseClaim (c : Nat) (d : Dev) : Dev :=
  let d := (d.wr64 F.SAFE_CLAIM_LO_CLAIM F.SAFE_CLAIM_HI_CLAIM c).wr64 F.SAFE_SEEN_LO_SEEN F.SAFE_SEEN_HI_SEEN
    (max d.seen c)
  let d := { d with tandem := { d.tandem with claimGen := d.tandem.claimGen + 1, ownSeen := false, ownAt := d.now } }
  d.each ((List.range 32).filter d.rimOn) fun n d => cutByClaim n d

/-- The claim computation (R245): none where it is refused. -/
def Dev.nextClaim (d : Dev) : Option Nat :=
  let e := d.seen / 2
  if e = 0x7FFFFFFFFFFF then none else some ((e + 1) * 2 + d.tid)

/-- A refused claim leaves the claim unchanged and latches source 61 (R245). -/
def refuseClaim (d : Dev) : Dev := (d.wr F.SAFE_CLAIM_STAT_REFUSED 1).latch 61

end Sys2Proof.Machine
end

