-- ==== Sys2Proof/Machine/Memory.lean ====
section
/-!
DEFINITION. Sys2Proof/Machine/Memory.lean: the memories (R24) as one list of address and byte pairs in canonical form,
the places where two addresses name one byte (R212), the read-only words the hardware keeps (R212, R214), and how a
meaning that touches memory becomes a meaning on the state.
-/
namespace Sys2Proof.Machine

/-- The byte at an address; an unlisted address reads 0, as after the clears of R304 and R212.
(DESIGN CHOICE, log 11.) -/
def memGet : List Host.Cell → Nat → BitVec 8
  | [], _ => 0
  | (b, v) :: t, a => if b = a then v else memGet t a

/-- The memory with one byte replaced, in canonical form: addresses rising, no entry 0. -/
def memSet : List Host.Cell → Nat → BitVec 8 → List Host.Cell
  | [], a, v => if v = 0 then [] else [(a, v)]
  | (b, w) :: t, a, v =>
    if b < a then (b, w) :: memSet t a v
    else if b = a then (if v = 0 then t else (a, v) :: t)
    else if v = 0 then (b, w) :: t else (a, v) :: (b, w) :: t

/-- The canonical form: addresses strictly rising, no entry equal to what an unlisted address reads as. -/
abbrev Memory.wf (m : List Host.Cell) : Prop := m.Pairwise (fun a b => a.1 < b.1) ∧ ∀ c ∈ m, c.2 ≠ 0

/-- Bytes written from an address upwards. -/
def memWrite : List Host.Cell → Nat → List (BitVec 8) → List Host.Cell
  | m, _, [] => m
  | m, a, b :: t => memWrite (memSet m a b) (a + 1) t

/-- The bytes from `lo` up to but not including `hi` cleared. -/
def memClear (m : List Host.Cell) (lo hi : Nat) : List Host.Cell := m.filter fun c => c.1 < lo || hi ≤ c.1

/-- What a command does to memory. -/
inductive MemEff where
  | bytes (a : Nat) (data : List (BitVec 8))
  | clear (lo hi : Nat)
  deriving DecidableEq, Repr

/-- One effect applied. -/
def MemEff.run (e : MemEff) (m : List Host.Cell) : List Host.Cell :=
  match e with
  | .bytes a data => memWrite m a data
  | .clear lo hi => memClear m lo hi

/-- Effects applied in order. -/
def runEffs (m : List Host.Cell) (l : List MemEff) : List Host.Cell := l.foldl (fun m e => e.run m) m

/-- A meaning that reads memory and may write it. -/
def liftMem (f : List Host.Cell → Dev → Dev × List MemEff) (s : State) : Out :=
  let r := f s.mem s.dev
  .next { s with dev := r.1, mem := runEffs s.mem r.2 }

/-! ## The map of the memories (R24) -/

/-- Section store, bank 0; bank 1 lies 0x4_0000 above (R212). -/
def secBase : Nat := 0x42000000
/-- Cascade table (R214). -/
def cascBase : Nat := 0x42080000
/-- Loop program RAM (R220). -/
def progBase : Nat := 0x42090000
/-- Trace RAM (R235). -/
def traceBase : Nat := 0x42100000
/-- Telemetry table (R136). -/
def telemBase : Nat := 0x43000000
/-- Safety RAM. -/
def safetyBase : Nat := 0x10000000
/-- Staging RAM. -/
def stagingBase : Nat := 0x10080000
/-- Shared SRAM. -/
def sramBase : Nat := 0x20000000

/-- The memory ranges of R24. -/
inductive MemRange where
  | rom | safety | staging | sram | section_ | cascade | program | trace | telem
  deriving DecidableEq, Repr

/-- The memory range of an address. -/
def MemRange.at (a : Nat) : Option MemRange :=
  if a < 0x40000 then some .rom
  else if safetyBase ≤ a ∧ a < safetyBase + 0x80000 then some .safety
  else if stagingBase ≤ a ∧ a < stagingBase + 0x10000 then some .staging
  else if sramBase ≤ a ∧ a < sramBase + 0x1800000 then some .sram
  else if secBase ≤ a ∧ a < secBase + 0x80000 then some .section_
  else if cascBase ≤ a ∧ a < cascBase + 0x10000 then some .cascade
  else if progBase ≤ a ∧ a < progBase + 0x10000 then some .program
  else if traceBase ≤ a ∧ a < traceBase + 0x80000 then some .trace
  else if telemBase ≤ a ∧ a < telemBase + 0x8000 then some .telem
  else none

/-- The domain of a memory range (R15). -/
def MemRange.domain : MemRange → Nat
  | .rom | .safety | .staging => domSAFE
  | .sram => domMEM
  | _ => domLOOP

/-- `SYS.ECC_INFO.MEM` of a range. -/
def MemRange.eccCode : MemRange → Nat
  | .safety => 1 | .staging => 2 | .section_ => 3 | .cascade => 4 | .program => 5 | _ => 0

/-- The address that holds a byte: the state part of a section record is one storage for both banks (R212). -/
def physAddr (a : Nat) : Nat :=
  if secBase + 0x40000 ≤ a ∧ a < secBase + 0x80000 ∧ 0x20 ≤ a % 64 then a - 0x40000 else a

/-- A byte of a 32-bit word that the hardware keeps, least significant first (R3). -/
def wordByte (w i : Nat) : BitVec 8 := BitVec.ofNat 8 (bitsOf w (8 * (i % 4)) 8)

/-- A boot ROM byte as a master reads it: the patch unit answers the protection pair (R393). -/
def romRead (d : Dev) (m a : Nat) : BitVec 8 :=
  match d.sec.unit.find? fun p => p.1 == a / 32 * 32 && m == 4 with
  | some p => wordByte (p.2.getD (a % 32 / 4) 0) a
  | none => Config.romByte a

/-- A byte of memory as a master reads it. (DESIGN CHOICE, log 11.) -/
def readByte (d : Dev) (mem : List Host.Cell) (m a : Nat) : BitVec 8 :=
  match MemRange.at a with
  | some .rom => romRead d m a
  | some .section_ =>
    let o := a % 64
    if 0x3C ≤ o then 0
    else if 0x38 ≤ o then wordByte (mget 0 d.loop.sstat ((physAddr a - secBase) % 0x40000 / 64)) a
    else memGet mem (physAddr a)
  | some .cascade =>
    let o := a % 64
    let n := (a - cascBase) / 64
    if 0x30 ≤ o then 0
    else if 0x2C ≤ o then wordByte (mget 0 d.loop.tdone n) a
    else if 0x28 ≤ o then wordByte (mget 0 d.loop.cstat n) a
    else memGet mem a
  | _ => memGet mem a

/-- `n` bytes from an address, lowest first. -/
def readBytes (d : Dev) (mem : List Host.Cell) (m a : Nat) : Nat → List (BitVec 8)
  | 0 => []
  | n + 1 => readByte d mem m a :: readBytes d mem m (a + 1) n

/-- A 32-bit word of memory, least significant byte first (R3). -/
def readWord (d : Dev) (mem : List Host.Cell) (a : Nat) : Nat := ofLeBytes (readBytes d mem 4 a 4)

/-- Whether a bus write reaches a byte: the read-only and reserved words of the records ignore writes (R212, R214). -/
def byteWritable (a : Nat) : Bool :=
  match MemRange.at a with
  | some .section_ => decide (a % 64 < 0x38)
  | some .cascade => decide (a % 64 < 0x28)
  | some .rom | some .trace | some .telem | none => false
  | _ => true

/-- The effects of a bus write of bytes from an address upwards, byte by byte. -/
def writeEffs (a : Nat) : List (BitVec 8) → List MemEff
  | [] => []
  | b :: t => (if byteWritable a then [MemEff.bytes (physAddr a) [b]] else []) ++ writeEffs (a + 1) t

/-! ## Stored errors (R300 to R303) -/

/-- The 64-bit words that an access touches. -/
def wordsOf (a n : Nat) : List Nat := (List.range ((a % 8 + n + 7) / 8)).map fun i => physAddr (a / 8 * 8 + 8 * i)

/-- Whether an access touches a word that holds an uncorrectable error. -/
def Dev.touchesBad (d : Dev) (a n : Nat) : Bool := (wordsOf a n).any fun w => d.memory.bad.contains w

/-- Counts a corrected error and judges the rate (R301, R303). (DESIGN CHOICE, log 84.) -/
def countCorrected (d : Dev) : Dev :=
  let win := clampTo 1 60000 (d.rd F.SYS_ECC_RATE_WIN) * 1000000
  let recent := d.now :: d.memory.corrAt.filter fun t => d.now ≤ t + win
  let d := { d.count F.SYS_ECC_CNT_CORR with memory := { d.memory with corrAt := recent } }
  let d := d.irPulse 135
  d.when (decide (d.rd F.SYS_ECC_RATE_LIMIT < recent.length)) fun d => d.latch 53

/-- Reports an uncorrectable error at a word: source 52, and the capture in the manner of R43 (R301). -/
def reportUncorr (w : Nat) (d : Dev) : Dev :=
  let d := d.count F.SYS_ECC_CNT_UNCORR
  let code := match MemRange.at w with
    | some r => r.eccCode
    | none => 0
  let info := putBits (putBits (2 ^ 31) F.SYS_ECC_INFO_MEM.lo F.SYS_ECC_INFO_MEM.w code) F.SYS_ECC_INFO_SYND.lo
    F.SYS_ECC_INFO_SYND.w (Config.eccSyndrome w).toNat
  let words : List (Reg × Nat) := [(.SYS_ECC_INFO, info), (.SYS_ECC_ADDR, w)]
  let d := d.noteCapture .SYS_ECC_INFO words
  let d := if d.on F.SYS_ECC_INFO_VALID then d.count F.SYS_ECC_INFO_COUNT else d.setWords words
  d.latch 52

/-- A word newly found to hold an uncorrectable error. -/
def markBad (w : Nat) (d : Dev) : Dev :=
  if d.memory.bad.contains w then d else { d with memory := { d.memory with bad := w :: d.memory.bad } }

/-- A full, aligned 64-bit write replaces data and check bits: the word's errors are gone, and a write-back that
waits is dropped (R301, R302). -/
def clearErrors (ws : List Nat) (d : Dev) : Dev :=
  { d with memory := { d.memory with
      bad := d.memory.bad.filter fun w => !ws.contains w
      fixing := d.memory.fixing.filter fun w => !ws.contains w } }

/-! ## The watch on a verified image (R390) -/

/-- POSITION and PERCENT of the verification in progress (R389): KiB and share of the payload hashed. The manual bounds the
time of a block of 136 bytes; the model takes 104 ns for each, header and key first. PERCENT is below 100 until the end
(R37), and 0xFF while PLEN is 0. (DESIGN CHOICE, log 150.) -/
def Dev.vProgress (d : Dev) : Option (Nat × Nat) :=
  d.sec.vRun.map fun _ =>
    let n := min d.sec.vPlen (136 * ((d.now - d.sec.vAt) / 104 - d.sec.vHead))
    (n / 1024, if d.sec.vPlen = 0 then 255 else min 99 (100 * n / d.sec.vPlen))

/-- A verification ends with a code; 3, 5, 6 and 8 latch source 59 (R388, R391). POSITION stays where hashing stood. -/
def endVerify (code : Nat) (d : Dev) : Dev :=
  let d := d.wr (F.PG_PROG_POSITION (.KEYS 1)) (d.vProgress.getD (0, 0)).1
  let d := ((d.wr F.KEYS_V_STAT_CODE code).wr F.KEYS_V_STAT_BUSY 0).progEnd (.KEYS 1)
  let d := { d with sec := { d.sec with vRun := none } }
  d.when (code == 3 || code == 5 || code == 6 || code == 8) fun d => d.latch 59

/-- A write by any master lands on `n` bytes from `a`: in the watched range it takes VALID away, sets TAMPER and ends
a run (R390). -/
def watchWrite (a n : Nat) (d : Dev) : Dev :=
  match d.sec.watch with
  | none => d
  | some (lo, len) =>
    d.when (decide (0 < n ∧ a < lo + len ∧ lo < a + n)) fun d =>
      let d := (d.wr F.KEYS_V_STAT_VALID 0).wr F.KEYS_V_STAT_TAMPER 1
      d.when d.sec.vRun.isSome (endVerify 8)

/-! ## Zero-fills (R304) -/

/-- The zero-fill of shared SRAM starts: READY is 0 and `PG_PROG` of SYS page 1 reports it. -/
def startSramClear (d : Dev) : Dev :=
  let d := { d with memory := { d.memory with clearAt := some d.now, sramOk := false } }
  (d.wr (F.PG_STAT_READY (.SYS 1)) 0).progStart (.SYS 1) 0 0

/-- The zero-fill of safety RAM and staging RAM starts, when SAFECLK starts for the first time after power-on. -/
def startSafeClear (d : Dev) : Dev :=
  d.when (!d.rst.safeReady && d.rst.safeClearAt.isNone) fun d => { d with rst := { d.rst with safeClearAt := some d.now } }

end Sys2Proof.Machine
end

