-- ==== Sys2Proof/Machine/Bus.lean ====
section
/-!
DEFINITION. Sys2Proof/Machine/Bus.lean: bus masters and their rights (R38, R39), the response of an access in the
order of R41, the capture of errors (R43), the clocks in ns, and what a register write does before the register's own
effect: locks (R36), expert level (R35) and the access codes (R4).
-/
namespace Sys2Proof.Machine

/-! ## Masters (R38) -/

/-- The classes of masters. -/
inductive MClass where
  | S | C | D | A | E | M | P
  deriving DecidableEq, Repr

/-- The class of a master. -/
def mclass (m : Nat) : Option MClass :=
  if m ≤ 3 ∨ m = 7 then some .C
  else if m ≤ 6 then some .S
  else if m ≤ 9 then some .E
  else if m = 10 then some .M
  else if m = 11 then some .A
  else if m = 12 then some .P
  else if 16 ≤ m ∧ m ≤ 47 then some .D
  else none

/-- A safety-partition master. -/
def isSafe (m : Nat) : Bool := mclass m == some .S

/-! ## Rights (R39) -/

/-- Pages of the SAFE partition (R16). -/
def Page.inSafe : Page → Bool
  | .FC | .THERM | .SAFE | .KEYS _ | .PROT => true
  | _ => false

/-- Whether a class may read a page. -/
def Page.canRead (p : Page) : MClass → Bool
  | .S | .C | .D | .A => true
  | .E => !(match p with | .SVCPORT => true | _ => false)
  | .M => false
  | .P => match p with | .SVCPORT => true | _ => false

/-- Whether a class may write a page. -/
def Page.canWrite (p : Page) (c : MClass) : Bool :=
  if p.inSafe then c == .S
  else match p with
    | .SVCPORT => c == .S || c == .C || c == .P
    | .RIM _ | .SPOKE _ => c == .S || c == .C || c == .D || c == .A || c == .E
    | _ => c == .S || c == .C || c == .D || c == .A

/-- Whether a class may read a memory range. -/
def MemRange.canRead (r : MemRange) (c : MClass) : Bool :=
  match r with
  | .rom => c == .S || c == .C
  | .safety => c == .S
  | .staging => c == .S || c == .C || c == .D || c == .A || c == .P
  | .sram => c != .P
  | .section_ | .cascade | .program => c == .S || c == .C || c == .D || c == .A || c == .M
  | .trace | .telem => c == .S || c == .C || c == .D || c == .A || c == .E

/-- Whether a class may write a memory range. -/
def MemRange.canWrite (r : MemRange) (c : MClass) : Bool :=
  match r with
  | .rom | .trace | .telem => false
  | _ => r.canRead c

/-- The debug module and the service port as the safety profile allows them (R40, R395): until the first application
the debug module is disabled and the service port is fully enabled; then DEBUG_EN and SVCPORT_EN decide.
(DEDUCED, log 136.) -/
def Dev.portAllowed (d : Dev) (m : Nat) (svcportRead : Bool) : Bool :=
  if m = 7 then d.sec.profile && bitAt d.sec.flags 1
  else if m = 12 then !d.sec.profile || bitAt d.sec.flags 2 || svcportRead
  else true

/-! ## Clocks in ns -/

/-- The source code that a domain multiplexer selects (R73): fields 0 to 5 are SVC, LOOP, MEM, PER, ADC, XSPI. -/
def domselOf (w f : Nat) : Nat := bitsOf w (2 * f) 2

/-- The PLL-M output of a domain multiplexer (R73). -/
def domOut (f : Nat) : Nat := [0, 1, 2, 4, 5, 7].getD f 0

/-- The period in ps that a multiplexer's source has while it runs; none for code 3. -/
def Dev.selPs (d : Dev) (f : Nat) : Option Nat :=
  match domselOf (d.word .CLK_DOMSEL) f with
  | 0 => some (d.outPs (domOut f))
  | 1 => some 4000
  | 2 => some 6400
  | _ => none

/-- Output n of PLL-M runs: its dividers have been released and it is enabled (R58, R60). -/
def Dev.outRuns (d : Dev) (n : Nat) : Bool := d.clk.pllM.released && d.on (F.CLK_OUT_CFG_EN n)

/-- SAFECLK runs: PLL-S's dividers have been released, or a stand-in clock replaces it (R58, R62). -/
def Dev.safeRuns (d : Dev) : Bool := d.clk.pllS.released || d.on F.CLK_PLLS_CFG_RESTART

/-- The root in use is present (R52). -/
def Dev.rootRuns (d : Dev) : Bool := d.rd F.CLK_ROOTSTAT_CUR != 7 && d.bit F.CLK_ROOTSTAT_PRESENT (d.rd F.CLK_ROOTSTAT_CUR)

/-- The period in ps of the clock that a multiplexer gives; none where it is stopped, its PLL output or SAFECLK does not
run, or the root has failed (R50, R73, R75). -/
def Dev.domPs (d : Dev) (f : Nat) : Option Nat :=
  let runs := match domselOf (d.word .CLK_DOMSEL) f with
    | 0 => d.outRuns (domOut f)
    | 1 => d.safeRuns
    | _ => d.rootRuns
  if runs then d.selPs f else none

/-- The ratios of R72 hold, for the clocks that run: fields 0, 1, 2, 3 and 4 are APPCLK, LOOPCLK, BUSCLK, PERCLK and
ADCCLK. (DEDUCED, log 7.) -/
def Dev.ratiosHold (d : Dev) : Bool :=
  let bus := (d.selPs 2).getD 4000
  let ok (f : Nat) (q : Nat → Bool) : Bool := match d.selPs f with
    | none => true
    | some p => q p
  ok 0 (fun p => decide (2 * p ≤ bus)) && ok 1 (fun p => decide (2 * p ≤ bus)) &&
  ok 3 (fun p => p % bus == 0 && decide (2 ≤ p / bus) && decide (p / bus ≤ 8)) &&
  decide (bus ≤ 4000) && ok 4 (fun p => decide (5000 ≤ p) && decide (p ≤ 4 * bus)) &&
  (!d.enabled (.TIME 0) || !d.on (F.CLK_OUT_CFG_EN 3) || d.rd (F.CLK_OUT_CFG_DIV 3) == 20)

/-- BUSCLK cycles in ns, from the source that `CLK.DOMSEL.MEM` selects (R73), rounded up. (DESIGN CHOICE, log 8.) -/
def Dev.busNs (d : Dev) (cycles : Nat) : Nat :=
  let ps := match d.rd F.CLK_DOMSEL_MEM with
    | 0 => d.outPs 2
    | 1 => 4000
    | _ => 6400
  (cycles * ps + 999) / 1000

/-! ## Responses and their capture (R41 to R43) -/

/-- An OKAY response with the data read. -/
def respond (m data : Nat) (d : Dev) : Dev := { d with resp := { master := m, code := .okay, data := data } }

/-- The capture of an error in `SYS.BERR_ADDR` and `BERR_INFO` (R43). -/
def captureBerr (m addr : Nat) (write size : Bool) (c : RespCode) (d : Dev) : Dev :=
  let info := 2 ^ 31 + (m % 64) * 2 ^ 8 + b2n size * 2 ^ 4 + b2n write * 2 ^ 3 + c.code
  let words : List (Reg × Nat) := [(.SYS_BERR_ADDR, addr), (.SYS_BERR_INFO, info)]
  let d := d.noteCapture .SYS_BERR_INFO words
  if d.on F.SYS_BERR_INFO_VALID then d.count F.SYS_BERR_INFO_COUNT else d.setWords words

/-- What an error response brings for its class beside the response (R42): a rim engine halts and raises its source,
an error of the mirror engine latches source 35, one of the service-port bridge shows in the status byte. -/
def classError (m : Nat) (c : RespCode) (d : Dev) : Dev :=
  match mclass m with
  | some .E => { d.irPulse (32 + (m - 8)) with rimHalt := setBitAt d.rimHalt (m - 8) }
  | some .M =>
    { (d.latch 35).wr F.TANDEM_MSTAT_STREAMING 0 with
      tandem := { d.tandem with txEpoch := [], sending := false, rxReady := false } }
  | some .P => { d with rst := { d.rst with svcErr := true, svcCode := c.code } }
  | _ => d

/-- An error response: data 0, no effect, the capture, the source of R41 and the effect of R42. -/
def busError (m addr : Nat) (write size : Bool) (c : RespCode) (d : Dev) : Dev :=
  let d := { d with resp := { master := m, code := c, data := 0 } }
  let d := captureBerr m addr write size c d
  let d := match c with
    | .decode | .violation => d.latch 58
    | .timeout => d.latch 57
    | _ => d
  classError m c d

/-- An error of an engine's own access of `n` bytes: a DATA error reports the first word that it meets (R41, R42, R301). -/
def engineError (m a n : Nat) (write size : Bool) (c : RespCode) (d : Dev) : Dev :=
  let d := match c, (wordsOf a n).find? d.memory.bad.contains with
    | .data, some w => reportUncorr w d
    | _, _ => d
  busError m a write size c d

/-! ## Targets -/

/-- What an address names. -/
inductive Target where
  | reg (r : Reg)
  /-- A reserved offset of a page: reads 0, writes have no effect (R6). -/
  | hole (p : Page)
  | mem (r : MemRange)
  deriving DecidableEq, Repr

/-- The target of one aligned 32-bit page access or memory access, or none where R41 answers DECODE. -/
def targetAt (a : Nat) : Option Target :=
  match MemRange.at a with
  | some r => some (.mem r)
  | none =>
    match Page.atAddr a with
    | none => none
    | some p =>
      match p.regAt (a % 0x1000) with
      | some r => some (.reg r)
      | none => some (.hole p)

/-- The page of a target. -/
def Target.page : Target → Option Page
  | .reg r => some r.page
  | .hole p => some p
  | .mem _ => none

/-- The gate of `CLK.GATE` that stops the block behind a page (R76). -/
def Page.gate : Page → Option Nat
  | .LOOP p => if p < 8 then some (4 + p) else none
  | .RIM n | .SPOKE n => if n < 16 then some 12 else some 13
  | .DMA _ => some 14
  | .XSPI => some 15
  | .STATION p => if p < 2 then some (16 + p) else none
  | .TANDEM _ => some 18
  | .ADC q => if 1 ≤ q ∧ q ≤ 8 then some 19 else if 9 ≤ q ∧ q ≤ 16 then some 20 else none
  | _ => none

/-- Whether a page answers GATED: its domain off, its clock gated or requested to be, or a block reset in progress,
in which reads of `PG_CTRL` and `PG_STAT` are still served (R31, R41, R76). -/
def Dev.pageGated (d : Dev) (p : Page) (statusRead : Bool) : Bool :=
  !d.domUp p.domain ||
  (match p.gate with
    | some g => bitAt (d.word .CLK_GATE) g
    | none => false) ||
  (d.blockResets.contains p && !statusRead)

/-- Whether a memory range answers GATED: its domain off, or its clear not ended (R304, R377). -/
def Dev.memGated (d : Dev) (r : MemRange) : Bool :=
  !d.domUp r.domain ||
  (match r with
    | .sram => !d.on (F.PG_STAT_READY (.SYS 1))
    | .staging => !d.rst.stgReady
    | .safety => !d.rst.safeReady
    | _ => false)

/-- A write that its register refuses with VIOLATION: a route to or from target 8 (R45), SWI4 (R44), a test force
without permission (R275), data of a publication kept for the safety partition (R339), and a reset request by a class
that may not make it (R368). -/
def Dev.writeViolates (d : Dev) (m : Nat) (r : Reg) (v : Nat) : Bool :=
  match r with
  | .IR_SRC_ROUTE s => (d.rd (F.IR_SRC_ROUTE_TARGET s) == 8 || bitsOf v 8 4 == 8) && !isSafe m
  | .IR_SWI => bitAt v 4 && !isSafe m
  | .SYS_TFORCE_LO | .SYS_TFORCE_HI => !d.on F.FC_STAT_TEST_FORCE_EN
  | .STATION_PUB_DATA u => d.on (F.STATION_PUB_CTRL_SAFE_ONLY u) && !isSafe m
  | .RST_REQ =>
    bitsOf v 16 16 == 0xD1CE &&
    (match bitsOf v 0 3 with
      | 1 => !(isSafe m || mclass m == some .A)
      | 2 => !isSafe m
      | 3 => !(isSafe m || mclass m == some .C)
      | _ => false)
  | _ => false

/-- Whether a class and the profile allow an access to a target (R39, R40). -/
def Dev.allowed (d : Dev) (m : Nat) (t : Target) (write : Bool) : Bool :=
  match mclass m with
  | none => false
  | some c =>
    let isSvc := match t.page with | some .SVCPORT => true | _ => false
    d.portAllowed m (isSvc && !write) &&
    (match t with
      | .mem r => if write then r.canWrite c else r.canRead c
      | .reg r => if write then r.page.canWrite c else r.page.canRead c
      | .hole p => if write then p.canWrite c else p.canRead c)

/-- Whether a target answers GATED. -/
def Dev.gated (d : Dev) (t : Target) (write : Bool) : Bool :=
  match t with
  | .mem r => d.memGated r
  | .hole p => d.pageGated p false
  | .reg r => d.pageGated r.page (!write && (match r with | .PG_CTRL _ | .PG_STAT _ => true | _ => false))

/-- The error that an engine's access of `n` bytes from an address meets, if any (R39, R41, R301).
(DEDUCED, log 151.) -/
def Dev.rangeError (d : Dev) (m a n : Nat) (write : Bool) : Option RespCode :=
  match targetAt a, targetAt (a + (n - 1)) with
  | some t, some u =>
    if n = 0 then none
    else if !d.allowed m t write || !d.allowed m u write then some .violation
    else if d.gated t write || d.gated u write then some .gated
    else if !write && d.touchesBad a n then some .data
    else none
  | _, _ => some .decode

/-- The response of an access to a register (R41), before any DATA error. -/
def Dev.regCode (d : Dev) (m : Nat) (r : Reg) (write : Bool) (v : Nat) : RespCode :=
  if !d.allowed m (.reg r) write then .violation
  else if write && d.writeViolates m r v then .violation
  else if d.gated (.reg r) write then .gated
  else .okay

/-! ## What a register write does before the register's own effect -/

/-- Whether a lock bit freezes a field (R36). -/
def Dev.frozen (d : Dev) (r : Reg) (f : Field) : Bool :=
  let p := r.page
  match f.acc with
  | .RWE => d.on (F.PG_LOCK_LOCK_EXPERT p)
  | .RW =>
    (match r with
      | .PG_CTRL _ => d.on (F.PG_LOCK_LOCK_CTRL p)
      | _ => decide (0x40 ≤ r.off ∧ r.off < 0x400) && d.on (F.PG_LOCK_LOCK_BASIC p))
  | _ => false

/-- Whether LOCK_BASIC freezes everything that a write to a register could act on: its writable fields are RW alone, and
frozen. The write then acts on nothing (R36). -/
def Dev.lockedOut (d : Dev) (r : Reg) : Bool :=
  r.fields.any (fun f => f.acc == .RW) && r.fields.all fun f => f.acc == .RO || (f.acc == .RW && d.frozen r f)

/-- Whether a write by a master sets a field to the written value (R4, R35, R36). -/
def Dev.takes (d : Dev) (m : Nat) (r : Reg) (f : Field) : Bool :=
  match f.acc with
  | .RW => !d.frozen r f
  | .RWE => d.on (F.PG_CTRL_EXPERT_EN r.page) && !d.frozen r f
  | .SRW => isSafe m
  | _ => false

/-- A field's bits of a word. -/
def Field.of (f : Field) (w : Nat) : Nat := bitsOf w f.lo (f.hi + 1 - f.lo)

/-- A field keeps the value that it has taken at the same instant: from a loop engine, whose write decides (R216), or
from another master, since of two writes in one BUSCLK cycle the safety-partition master's comes first and the second
decides (R29). -/
def Dev.yields (d : Dev) (m : Nat) (r : Reg) (f : Field) : Bool :=
  (d.thisTick.landed.any fun x => x.reg = r && x.lo == f.lo) ||
  (isSafe m && d.thisTick.writes.any fun e => e.1 = r && !isSafe e.2.1 && d.takes e.2.1 r f)

/-- The word after the RW, RWE and SRW fields have taken the written value where they may. -/
def Dev.merged (d : Dev) (m : Nat) (r : Reg) (v : Nat) : Nat :=
  r.fields.foldl (fun w f =>
    if d.takes m r f && !d.yields m r f then putBits w f.lo (f.hi + 1 - f.lo) (f.of v) else w) (d.word r)

/-- The word after W1C bits have been cleared and W1S bits set as the written 1s say (R4). -/
def applyW1 (r : Reg) (v w : Nat) : Nat :=
  r.fields.foldl (fun w f =>
    match f.acc with
    | .W1C => putBits w f.lo (f.hi + 1 - f.lo) (f.of w - (f.of w &&& f.of v))
    | .W1S => putBits w f.lo (f.hi + 1 - f.lo) (f.of w ||| f.of v)
    | _ => w) w

/-- What a write logs in `PG_ERR`: LOCKED for a change of a frozen field or a SOFT_RESET under LOCK_CTRL (R36), and
EXPERT_DENIED for a change of an RWE field without EXPERT_EN (R35). -/
def logWrite (r : Reg) (v : Nat) (d : Dev) : Dev :=
  let p := r.page
  let differs (f : Field) : Bool := f.of v != f.of (d.word r)
  let soft := match r with
    | .PG_CTRL _ => bitAt v 1 && d.on (F.PG_LOCK_LOCK_CTRL p)
    | _ => false
  let locked := soft || r.fields.any fun f => d.frozen r f && differs f
  let denied := !d.on (F.PG_CTRL_EXPERT_EN p) && r.fields.any fun f => f.acc == .RWE && differs f
  let d := d.when locked fun d => d.wr (F.PG_ERR_LOCKED p) 1
  d.when denied fun d => d.wr (F.PG_ERR_EXPERT_DENIED p) 1

/-- A register written at the present instant by a master: its word before the first such write is kept (R155), and the
write itself (R5, R29). -/
def Dev.noteWrite (d : Dev) (r : Reg) (m v : Nat) (old : Word) : Dev :=
  let t := d.thisTick
  { d with tick := { t with writes := (r, m, v) :: t.writes }.keepOld r old }

/-- Whether a write of a 1 to a bit of a register has come at the present instant (R5). -/
def Dev.wroteOne (d : Dev) (r : Reg) (i : Nat) : Bool := d.thisTick.writes.any fun e => e.1 = r && bitAt e.2.2 i

/-- A bit that stood at 1 before this instant has been written 1 at it: where the hardware clears it now, it stays (R5). -/
def Dev.againOne (d : Dev) (r : Reg) (i : Nat) : Bool :=
  d.wroteOne r i && (match d.thisTick.old.find? fun e => e.1 = r with
    | some e => bitAt e.2.toNat i
    | none => false)

/-- A register's own effect: the master, the written word, the word with the RW, RWE and SRW fields taken. -/
abbrev Effect := Nat → Nat → Nat → Dev → Dev

/-- The effect of a register without any of its own: the access codes of R4. -/
def plainEffect (r : Reg) : Effect := fun _ v w d => d.setWord r (applyW1 r (d.ack r v) w)

/-- Whether a gate of `CLK.GATE` has stopped its block's clock (R76). -/
def Dev.gateClosed (d : Dev) (b : Nat) : Bool := d.bit F.CLK_GATE_STAT_CLOSED b

/-- BUSCLK runs. -/
def Dev.busRuns (d : Dev) : Bool := (d.domPs 2).isSome

/-- Whether a service core's clock runs and no reset holds it (R288, R355, R364, R365). -/
def Dev.coreRuns (d : Dev) (i : Nat) : Bool :=
  d.domUp domSVC && d.on F.RST_RELEASE_SVC && d.rst.hold == 0 && !d.gateClosed i &&
  d.rd F.PWR_STATE_CUR != 1 && (d.domPs 0).isSome

/-- Whether a master can issue an access. In a hold of kind power-on, P, H or S, and while no root is in use, only the
service port does, which runs on SVC_SCK (R50, R364, R377). Every other master needs its domain up and its clock running
(R14, R15, R76): a service core its core, the debug module its domain; the engines of the safety partition SAFECLK, the
protection pair also that no miscompare has halted it (R271); a rim engine that no error response has halted it (R42).
(DEDUCED, log 15.) -/
def Dev.canIssue (d : Dev) (m : Nat) : Bool :=
  if m = 12 then true
  else if 1 ≤ d.rst.hold ∧ d.rst.hold ≤ 4 then false
  else match mclass m with
    | some .C => if m ≤ 3 then d.coreRuns m else d.domUp domSVC && d.rst.hold == 0 && (d.domPs 0).isSome
    | some .S => d.safeRuns && (m != 4 || !d.on F.PROT_STAT_HALTED)
    | some .E => d.busRuns && d.domUp (domRIMW + (m - 8)) && !d.gateClosed (12 + (m - 8)) && !bitAt d.rimHalt (m - 8)
    | some .M => d.busRuns && d.domUp domTANDEM && !d.gateClosed 18
    | some .A => d.busRuns && d.domUp domSTATION
    | some .D => d.busRuns && d.domUp domMEM && !d.gateClosed 14
    | _ => false

/-- A register write as a bus access: the response of R41, then the log and the register's effect. -/
def Dev.busWriteWith (d : Dev) (eff : Effect) (m : Nat) (r : Reg) (v : Nat) : Dev :=
  if d.canIssue m then
    match d.regCode m r true v with
    | .okay =>
      let e := logWrite r v (respond m 0 d)
      (if d.lockedOut r then e else eff m v (d.merged m r v) e).noteWrite r m v (d.regs.get r)
    | c => busError m r.addr true false c d
  else d

/-- A register read as a bus access: the response of R41, then the value and what the read itself changes.
(DEDUCED, log 15.) -/
def Dev.busReadWith (d : Dev) (rd : Nat → Dev → Nat × Dev) (m : Nat) (r : Reg) : Dev :=
  if d.canIssue m then
    match d.regCode m r false 0 with
    | .okay =>
      let x := rd m d
      respond m x.1 x.2
    | c => busError m r.addr false false c d
  else d

/-- Whether a register sets a clock ratio of R72. -/
def Reg.setsRatio : Reg → Bool
  | .CLK_OUT_CFG _ | .CLK_DOMSEL | .PG_CTRL (.TIME 0) => true
  | _ => false

/-- A command that is a register write: it stops where it leaves clock ratios under which every result is undefined
(R10, R72). (DEDUCED, log 7, 15.) -/
def writeRow (eff : Effect) (m : Nat) (r : Reg) (v : Nat) (s : State) : Out :=
  if r.setsRatio ∧ ¬ (s.dev.busWriteWith eff m r v).ratiosHold then .fault .undefinedClockRatio
  else liftDev (fun d => d.busWriteWith eff m r v) s

end Sys2Proof.Machine
end

