-- ==== Sys2Proof/Machine/Interrupts.lean ====
section
/-!
DEFINITION. Sys2Proof/Machine/Interrupts.lean: the interrupt router (R44 to R49): source lines, pending bits, the claim
and the completion of a target, software interrupts and routing, and the error lines of the pages (R32).
-/
namespace Sys2Proof.Machine

/-- Every page of the device, in rising address order (R24, R25). -/
def allPages : List Page :=
  (List.range 3).map .SYS ++ [.CLK, .PWR, .RST] ++ (List.range 2).map .TIME ++ (List.range 16).map .STATION ++
  (List.range 2).map .TANDEM ++ (List.range 32).map .RIM ++ (List.range 32).map .SPOKE ++ (List.range 29).map .EDGE ++
  (List.range 26).map .ADC ++ (List.range 9).map .LOOP ++ [.LOOP 12, .LOOP 13, .LOOP 14, .LOOP 15] ++
  (List.range 5).map .DMA ++ (List.range 3).map .IR ++ [.XSPI, .SVCPORT, .FC, .THERM, .SAFE] ++
  (List.range 3).map .KEYS ++ [.PROT]

/-- Whether a page's error line is asserted (R32). -/
def Dev.errLine (d : Dev) (p : Page) : Bool :=
  (d.word (.PG_ERR p) &&& d.word (.PG_ERREN p)) != 0 && d.domUp p.domain

/-- Whether bits `lo` upwards of an event register are 1 in the register and its enable register alike. -/
def Dev.evLine (d : Dev) (ev en : Reg) (lo w : Nat) : Bool := bitsOf (d.word ev &&& d.word en) lo w != 0

/-- Whether a Scoreboard bit is 1 whose source's present class is INTERRUPT or above (R277). -/
def Dev.fcLine (d : Dev) : Bool :=
  (List.range 64).any fun n => bitAt d.score n && decide (1 ≤ d.srcClass n)

/-- The raw state of a level source's line (R44 and the page rules); the lines of a domain that is off are
deasserted (R350). A GPIO source follows its pin. -/
def Dev.irLine (d : Dev) (s : Nat) : Bool :=
  if s < 32 then d.evLine (.RIM_EVT s) (.RIM_EVTEN s) 0 32 && d.domUp (rimDomain s)
  else if 66 ≤ s ∧ s < 74 then d.evLine (.ADC_PEVT (s - 66)) (.ADC_PEVTEN (s - 66)) 0 32 && d.domUp domANALOG
  else if s = 106 then
    ((List.range 32).any fun h => d.on (F.DMA_CH_EVT_ERR h)) && d.domUp domMEM
  else if s = 107 then d.evLine .EDGE_EVT .EDGE_EVTEN 0 8 && d.domUp domLOOP
  else if s = 108 then d.evLine .EDGE_EVT .EDGE_EVTEN 8 8 && d.domUp domLOOP
  else if s = 117 then d.evLine (.STATION_PORT_EVT 0) (.STATION_PORT_EVTEN 0) 0 32 && d.domUp domSTATION
  else if s = 118 then d.evLine (.STATION_PORT_EVT 1) (.STATION_PORT_EVTEN 1) 0 32 && d.domUp domSTATION
  else if s = 119 then !(d.time.tsqA.isEmpty && d.time.tsqB.isEmpty)
  else if s = 123 then d.evLine .TANDEM_EVT .TANDEM_EVTEN 0 8 && d.domUp domTANDEM
  else if s = 124 then d.evLine .TANDEM_EVT .TANDEM_EVTEN 8 8 && d.domUp domTANDEM
  else if s = 129 then d.evLine .CLK_EVT .CLK_EVTEN 0 32
  else if s = 130 then d.evLine .PWR_EVT .PWR_EVTEN 0 32
  else if s = 131 then d.evLine .THERM_EVT .THERM_EVTEN 0 32
  else if s = 134 then d.fcLine
  else if 141 ≤ s ∧ s < 151 then allPages.any fun p => p.domain == s - 141 && d.errLine p
  else if 151 ≤ s ∧ s < 183 then bitAt d.gpio (s - 151)
  else false

/-- Whether a source is pending: a level source while its line is asserted and it is not claimed, a pulse source
while its bit is set (R44, R47). -/
def Dev.irPend (d : Dev) (s : Nat) : Bool :=
  if d.on (F.IR_SRC_ROUTE_LEVEL s) then d.irLine s && !d.on (F.IR_SRC_ROUTE_ACTIVE s)
  else d.on (F.IR_SRC_ROUTE_PEND s)

/-- The target that a source's route names, 0 to 8. -/
def Dev.irTarget (d : Dev) (s : Nat) : Nat := d.code (F.IR_SRC_ROUTE_TARGET s) (List.range 9)

/-- Whether a source asserts target `j`'s line (R46), which it does only while MEM is up (R49). -/
def Dev.irAsserts (d : Dev) (j s : Nat) : Bool :=
  d.domUp domMEM && d.irTarget s == j && d.irPend s && !d.on (F.IR_SRC_ROUTE_ACTIVE s) &&
  decide (d.rd (F.IR_TGT_THRESH_THRESH j) < d.rd (F.IR_SRC_ROUTE_PRIO s))

/-- Whether target `j`'s interrupt line is asserted (R46). -/
def Dev.targetLine (d : Dev) (j : Nat) : Bool := (List.range 256).any (d.irAsserts j)

/-- The source a claim of target `j` chooses: the highest PRIO, among equals the lowest number; 0x100 if there is
none (R47). -/
def Dev.irBest (d : Dev) (j : Nat) : Nat :=
  (List.range 256).foldl (fun b s =>
    if d.irAsserts j s && (b == 0x100 || decide (d.rd (F.IR_SRC_ROUTE_PRIO b) < d.rd (F.IR_SRC_ROUTE_PRIO s)))
    then s else b) 0x100

/-- A claim: the chosen source becomes ACTIVE and its PEND clears (R47); where a pulse of the source comes at the same
instant, PEND remains 1 (R48). -/
def irClaim (j : Nat) (d : Dev) : Nat × Dev :=
  let b := d.irBest j
  (b, d.when (b != 0x100) fun d =>
    { (d.wr (F.IR_SRC_ROUTE_ACTIVE b) 1).wr (F.IR_SRC_ROUTE_PEND b) (b2n (d.thisTick.pulses.contains b)) with
      irOwner := mset d.irOwner b j })

/-- A completion: a source that target `j` has claimed stops being ACTIVE, also where its TARGET has been changed
since (R48); any other is ignored and sets BAD_COMPLETE (R47). -/
def irComplete (j s : Nat) (d : Dev) : Dev :=
  if s < 256 ∧ d.on (F.IR_SRC_ROUTE_ACTIVE s) ∧ mget (d.rd (F.IR_SRC_ROUTE_TARGET s)) d.irOwner s = j then
    d.wr (F.IR_SRC_ROUTE_ACTIVE s) 0
  else d.blkErr (.IR 0) 16

/-- A write to `IR.TGTj_CLAIM`: a completion; for target 8 only by a safety-partition master. -/
def claimWrite (j : Nat) : Effect := fun m v _ d =>
  if j = 8 ∧ ¬ isSafe m then d else irComplete j (bitsOf v 0 9) d

/-- A write to `IR.SWI`: each 1 sets pending of its software interrupt (R44). -/
def swiWrite : Effect := fun _ v _ d => d.each ((List.range 5).filter (bitAt v)) fun i d => d.irPulse (136 + i)

/-- A write to `IR.TGTj_THRESH`: RW, for target 8 only by a safety-partition master. -/
def threshWrite (j : Nat) : Effect := fun m v w d =>
  if j = 8 ∧ ¬ isSafe m then d else plainEffect (.IR_TGT_THRESH j) m v w d

/-- GPIO_INPUT_CHANGE (R44): an input changes level. How a pin is configured is the operand `pulse`: the manual names
no register for it. A level source follows its pin; a pulse source becomes pending on the change. (PRESUMED, log 12; DEDUCED, log 160.) -/
def execGpioInputChange (pin : Fin 32) (level pulse : Bool) : State → Out := liftDev fun d =>
  if bitAt d.gpio pin = level then d
  else
    let d := { d with gpio := putBits d.gpio pin 1 (b2n level) }
    let d := d.wr (F.IR_SRC_ROUTE_LEVEL (151 + pin)) (b2n (!pulse))
    d.when pulse fun d => d.irPulse (151 + pin)

end Sys2Proof.Machine
end

