-- ==== Sys2Proof/Machine/Pages.lean ====
section
/-!
DEFINITION. Sys2Proof/Machine/Pages.lean: what every register page has: the unlock sequence (R33, R34), expert level
(R35), locks (R36), forced errors (R32) and the block reset (R31).
-/
namespace Sys2Proof.Machine

/-- The open unlock sequence of a page, if there is one (R33). -/
def Dev.unlockOf (d : Dev) (p : Page) : Option Unlock := (d.unlocks.find? fun e => e.1 == p).map Prod.snd

/-- The unlock sequence of a page is closed. -/
def closeUnlock (p : Page) (d : Dev) : Dev := { d with unlocks := d.unlocks.filter fun e => e.1 != p }

/-- An unlock sequence fails: `KEY_FAIL` is set and the sequence is closed (R34). -/
def failUnlock (p : Page) (d : Dev) : Dev := (closeUnlock p d).wr (F.PG_ERR_KEY_FAIL p) 1

/-- The instant at which the window of an unlock sequence ends: 256 BUSCLK cycles after its first write (R33). -/
def Dev.unlockEnd (d : Dev) (u : Unlock) : Nat := u.at_ + d.busNs 256

/-- An unlock sequence whose window has ended has failed at its end, whatever comes after (R34). -/
def expireUnlock (p : Page) (d : Dev) : Dev :=
  match d.unlockOf p with
  | some u => if d.unlockEnd u < d.now then failUnlock p d else d
  | none => d

/-- A write to `PG_KEY` (R33, R34). -/
def keyWrite (p : Page) : Effect := fun m v _ d =>
  let d := expireUnlock p d
  match d.unlockOf p with
  | none => if v = 0x5EED then { d with unlocks := (p, ⟨m, d.now⟩) :: d.unlocks } else d
  | some u =>
    if m = u.master ∧ v = d.word (.PG_ID p) ∧ ¬ d.on (F.PG_LOCK_LOCK_EXPERT p) then
      (closeUnlock p d).wr (F.PG_CTRL_EXPERT_EN p) 1
    else failUnlock p d

/-- A write to `PG_LOCK`: the bits written 1 are set; `LOCK_EXPERT` also clears `EXPERT_EN` (R35, R36). -/
def lockWrite (p : Page) : Effect := fun m v w d =>
  (plainEffect (.PG_LOCK p) m v w d).when (bitAt v 0) fun d => d.wr (F.PG_CTRL_EXPERT_EN p) 0

/-- A write to `PG_ERRFORCE` sets the same bits of `PG_ERR`; the register itself reads 0 (R32). -/
def errForceWrite (p : Page) : Effect := fun _ v _ d =>
  d.setWord (.PG_ERR p)
    ((Reg.PG_ERR p).fields.foldl (fun w f => putBits w f.lo (f.hi + 1 - f.lo) (f.of w ||| f.of v)) (d.word (.PG_ERR p)))

/-- A block reset of a page starts: its drain begins and accesses receive GATED (R31). A reset that already runs
is not started again, and one asked for during another reset's hold is ignored (R366). -/
def startBlockReset (p : Page) (d : Dev) : Dev :=
  if d.blockResets.contains p ∨ d.rst.hold ≠ 0 then d
  else { d.wr (F.PG_CTRL_SOFT_RESET p) 1 with blockResets := p :: d.blockResets }

/-- UNLOCK_TIMEOUT (R34): an open sequence with no second write fails in the cycle in which its window ends. -/
def execUnlockTimeout (p : Page) : State → Out := liftDev fun d =>
  match d.unlockOf p with
  | none => d
  | some u => failUnlock p (d.jumpTo (d.unlockEnd u))

/-- PG_KEY_WRITE (R33). -/
def execPgKeyWrite (m : Nat) (p : Page) (v : Word) : State → Out := writeRow (keyWrite p) m (.PG_KEY p) v.toNat

/-- PG_ERRFORCE_WRITE (R32). -/
def execPgErrforceWrite (m : Nat) (p : Page) (v : Word) : State → Out :=
  writeRow (errForceWrite p) m (.PG_ERRFORCE p) v.toNat

/-- PG_LOCK_WRITE (R36). -/
def execPgLockWrite (m : Nat) (p : Page) (v : Word) : State → Out := writeRow (lockWrite p) m (.PG_LOCK p) v.toNat

/-! ## Error captures (R41, R43) -/

/-- A write to a register that captures: releasing VALID also clears its COUNT, where it has one, and an event of the
same instant is captured (R43). -/
def captureWrite (r : Reg) (count : Option FRef) : Effect := fun m v w d =>
  (plainEffect r m v w d).when (bitAt v 31) fun d =>
    (match count with
      | some f => d.wr f 0
      | none => d).recapture r

/-- BERR_RELEASE (R43). -/
def execBerrRelease (m : Nat) : State → Out :=
  writeRow (captureWrite .SYS_BERR_INFO (some F.SYS_BERR_INFO_COUNT)) m .SYS_BERR_INFO (2 ^ 31)

/-- ECC_RELEASE (R43). -/
def execEccRelease (m : Nat) : State → Out :=
  writeRow (captureWrite .SYS_ECC_INFO (some F.SYS_ECC_INFO_COUNT)) m .SYS_ECC_INFO (2 ^ 31)

/-! ## The commands of the interrupt router -/

/-- INTERRUPT_CLAIM (R47). -/
def execInterruptClaim (m : Nat) (j : Fin 9) : State → Out := liftDev fun d =>
  d.busReadWith (fun _ => irClaim j) m (.IR_TGT_CLAIM j)

/-- INTERRUPT_COMPLETE (R47, R48). -/
def execInterruptComplete (m : Nat) (j : Fin 9) (v : Word) : State → Out :=
  writeRow (claimWrite j) m (.IR_TGT_CLAIM j) v.toNat

/-- SOFTWARE_INTERRUPT (R44). -/
def execSoftwareInterrupt (m : Nat) (v : Word) : State → Out := writeRow swiWrite m .IR_SWI v.toNat

/-- ROUTE_WRITE (R45). -/
def execRouteWrite (m : Nat) (src : Fin 256) (v : Word) : State → Out :=
  writeRow (plainEffect (.IR_SRC_ROUTE src)) m (.IR_SRC_ROUTE src) v.toNat

end Sys2Proof.Machine
end

