-- ==== Sys2Proof/Machine/Clock.lean ====
section
/-!
DEFINITION. Sys2Proof/Machine/Clock.lean: the clock root, the two loops, Freewheel and the phase policies, domain
multiplexers, gates and the frequency monitor (R50 to R80, R431). Loop 0 is PLL-M and loop 1 PLL-S. Lengths in
reference cycles are in cycles of 6.4 ns, rounded up to whole ns.
-/
namespace Sys2Proof.Machine

/-- Reference cycles of 156.25 MHz in ns. -/
def refNs (cycles : Nat) : Nat := (cycles * 6400 + 999) / 1000

/-- The qualification length in cycles (R52). -/
def Dev.qualCycles (d : Dev) : Nat :=
  match d.rd F.CLK_PLL_XCFG_QUAL with
  | 0 => 65536
  | 1 => 16384
  | 2 => 262144
  | _ => 1048576

/-- A loop's hidden state. -/
def ClkState.pll (c : ClkState) (l : Nat) : Pll := if l = 0 then c.pllM else c.pllS

/-- Replaces a loop's hidden state. -/
def Dev.setPll (d : Dev) (l : Nat) (p : Pll) : Dev :=
  { d with clk := if l = 0 then { d.clk with pllM := p } else { d.clk with pllS := p } }

/-- `LOCK` of a loop. -/
def fLock (l : Nat) : FRef := if l = 0 then F.CLK_PLLM_STAT_LOCK else F.CLK_PLLS_STAT_LOCK
/-- `READY` of a loop. -/
def fReady (l : Nat) : FRef := if l = 0 then F.CLK_PLLM_STAT_READY else F.CLK_PLLS_STAT_READY
/-- `FREEWHEEL` of a loop. -/
def fFree (l : Nat) : FRef := if l = 0 then F.CLK_PLLM_STAT_FREEWHEEL else F.CLK_PLLS_STAT_FREEWHEEL
/-- The Scoreboard source of a loop: 37, PLL_M, or 38, PLL_S (R80). -/
def pllSrc (l : Nat) : Nat := 37 + l

/-- `DETERM` becomes 1 (R61). -/
def setDeterm (d : Dev) : Dev :=
  (d.when (!d.on F.CLK_PLLM_STAT_DETERM) fun d => d.wr F.CLK_EVT_DETERM_SET 1).wr F.CLK_PLLM_STAT_DETERM 1

/-! ## The slew of a phase error (R68, R71) -/

/-- The slew rate in ns per ms: 0 acts as 1, and 11 to 15 as 10. -/
def Dev.slewRate (d : Dev) : Nat := clampTo 1 10 (d.rd F.CLK_PHASE_POLICY_SLEW_RATE)

/-- What a slew has left at an instant, in 1/1000 ps: a rate of r ns per ms removes r of them in each ns. -/
def ClkState.slewLeftAt (c : ClkState) (t : Nat) : Nat :=
  match c.slewNext with
  | some (b, r) =>
    if b < t then c.slewLeft - (b - c.slewAt) * c.slewRate - (t - b) * r else c.slewLeft - (t - c.slewAt) * c.slewRate
  | none => c.slewLeft - (t - c.slewAt) * c.slewRate

/-- The instant at which a slew has nothing left. -/
def ClkState.slewEnd (c : ClkState) : Nat :=
  let plain := c.slewAt + (c.slewLeft + c.slewRate - 1) / max 1 c.slewRate
  match c.slewNext with
  | some (b, r) =>
    if plain ≤ b then plain
    else
      let left := c.slewLeft - (b - c.slewAt) * c.slewRate
      b + (left + r - 1) / max 1 r
  | none => plain

/-- The signed ps that a slew still has to remove: `PHASE_ERR.REMAIN`, whose sign is that of the error at its start. -/
def Dev.slewRemain (d : Dev) : Int :=
  let left := (d.clk.slewLeftAt d.now + 999) / 1000
  if d.rdInt F.CLK_PHASE_ERR_REMAIN < 0 then -(left : Int) else left

/-- A slew starts with an error in ps. -/
def startSlew (err : Int) (d : Dev) : Dev :=
  let d := (d.wrInt F.CLK_PHASE_ERR_REMAIN err).wr F.CLK_PLLM_STAT_SLEWING 1
  { d with clk := { d.clk with
    slewFrom := d.now, slewAt := d.now, slewLeft := err.natAbs * 1000, slewRate := d.slewRate, slewNext := none } }

/-- A new slew rate acts from the next millisecond of the slew in progress (R71). -/
def newSlewRate (d : Dev) : Dev :=
  let c := d.clk
  let c := match c.slewNext with
    | some (b, r) =>
      if b ≤ d.now then { c with slewLeft := c.slewLeftAt b, slewAt := b, slewRate := r, slewNext := none } else c
    | none => c
  { d with clk := { c with slewNext := some (c.slewFrom + ((d.now - c.slewFrom) / 1000000 + 1) * 1000000, d.slewRate) } }

/-- The slew and the held offset of PLL-M end without effect (R71). -/
def dropOffsets (d : Dev) : Dev :=
  (((d.wr F.CLK_PLLM_STAT_SLEWING 0).wr F.CLK_PLLM_STAT_OFFSET_HELD 0).wr F.CLK_PHASE_ERR_REMAIN 0).wr
    F.CLK_PHASE_OFS_OFS 0

/-- The first rising edge of an output after E0, in ps (R58). -/
def Dev.outEdge (d : Dev) (n : Nat) : Nat := d.time.e0Ps + 12800 + 200 * d.rd (F.CLK_OUT_CFG_DELAY n)

/-- TIMECLK stops; the count keeps its place within the cycle (R81, R83). -/
def stopTime (d : Dev) : Dev :=
  { d with time := { d.time with running := false, heldPos := d.timePos (1000 * d.now) } }

/-- TIMECLK starts: its first edge is the next one that O3's divider gives since E0 (R60), and counts as one unless it is
the first since power-on (R83). -/
def startTime (d : Dev) : Dev :=
  let p := d.outPs 3
  let first := d.outEdge 3 + (1000 * d.now - d.outEdge 3 + p - 1) / p * p
  { d with time := { d.time with
    running := true, begun := true, anchorPs := first
    anchorPos := if d.time.begun then (d.time.heldPos / p + 1) * p else 0 } }

/-- A loop is started or restarted: its dividers are held until E0 (R58). -/
def startPll (l : Nat) (d : Dev) : Dev :=
  let d := ((d.wr (fLock l) 0).wr (fReady l) 0).setPll l { started := true, startAt := d.now }
  d.when (l == 0) fun d =>
    let d := dropOffsets (d.wr F.CLK_PLLM_STAT_DETERM 0)
    stopTime d

/-! ## Candidates -/

/-- CANDIDATE_LOCK (R52). -/
def execCandidateLock (i : Fin 5) : State → Out := liftDev fun d =>
  d.when (!bitAt d.clk.candLock i) fun d =>
    { d with clk := { d.clk with candLock := setBitAt d.clk.candLock i, candAt := mset d.clk.candAt i d.now } }

/-- The power-on hunt selects a candidate (R53, R431): REFIN only at divider 1, and of several that become present at one
instant the lowest. -/
def huntSelect (i : Nat) (d : Dev) : Dev :=
  let first := d.on F.CLK_ROOTSTAT_HUNT || (d.clk.huntAt == some d.now && decide (i < d.rd F.CLK_ROOTSTAT_CUR))
  if first ∧ (i ≠ 4 ∨ d.code F.CLK_ROOT_REFDIV [0, 1, 2] = 0) then
    let d := startPll 1 (startPll 0
      (((d.wr F.CLK_ROOTSTAT_HUNT 0).wr F.CLK_ROOTSTAT_CUR i).wr F.CLK_EVT_ROOT_CHANGE 1))
    { d with clk := { d.clk with huntAt := some d.now } }
  else d

/-- A frequency-check gate of a candidate starts (R65, R66). -/
def startGate (i : Nat) (d : Dev) : Dev := { d with clk := { d.clk with gateAt := mset d.clk.gateAt i d.now } }

/-- A candidate's gate in progress, if there is one, is abandoned. -/
def dropGate (i : Nat) (d : Dev) : Dev :=
  { d with clk := { d.clk with gateAt := d.clk.gateAt.filter fun e => e.1 != i } }

/-- Whether a loop is in Freewheel. -/
def Dev.anyFree (d : Dev) : Bool := d.on F.CLK_PLLM_STAT_FREEWHEEL || d.on F.CLK_PLLS_STAT_FREEWHEEL

/-- CANDIDATE_PRESENT (R52, R53). -/
def execCandidatePresent (i : Fin 5) : State → Out := liftDev fun d =>
  if bitAt d.clk.candLock i ∧ ¬ d.bit F.CLK_ROOTSTAT_PRESENT i then
    let d := d.jumpTo (mget 0 d.clk.candAt i + refNs d.qualCycles)
    let d := huntSelect i (d.setBit F.CLK_ROOTSTAT_PRESENT i)
    d.when (d.anyFree && (bitAt d.clk.qualify i || d.rd F.CLK_ROOTSTAT_CUR == i.val)) (startGate i)
  else d

/-- A candidate's first interruption: it stops being present, and a gate that qualifies it is abandoned (R52, R66).
(DEDUCED, log 17.) -/
def candidateGone (i : Nat) (d : Dev) : Dev :=
  let d := { d with clk := { d.clk with candLock := clearBitAt d.clk.candLock i } }
  (d.clrBit F.CLK_ROOTSTAT_PRESENT i).when (d.anyFree && bitAt d.clk.qualify i) (dropGate i)

/-- CANDIDATE_LOSS (R52). -/
def execCandidateLoss (i : Fin 5) : State → Out := liftDev (candidateGone i)

/-! ## Freewheel -/

/-- An attempt of PLL-M to close its loop ends without LOCK: `CUR` names the candidate in use before it, and
`ROOT_CHANGE` is not set by it (R66, R431). (DEDUCED, log 19.) -/
def undoClosing (d : Dev) : Dev :=
  match d.clk.closing with
  | none => d
  | some (cur, ev) =>
    let d := { d with clk := { d.clk with closing := none } }
    d.when (cur != d.rd F.CLK_ROOTSTAT_CUR) fun d =>
      (d.wr F.CLK_ROOTSTAT_CUR cur).when (ev == 0) fun d => d.wr F.CLK_EVT_ROOT_CHANGE 0

/-- Gates start for the candidates that are to be qualified and are present; every other is abandoned (R66). -/
def qualifyGates (mask : Nat) (d : Dev) : Dev :=
  let here := (List.range 5).filter fun i => bitAt mask i && d.bit F.CLK_ROOTSTAT_PRESENT i
  { d with clk := { d.clk with qualify := mask, gateAt := here.map fun i => (i, d.now) } }

/-- A loop enters Freewheel, or stays in it with a new cause (R54, R63, R64, R71). -/
def enterFreewheel (l cause : Nat) (d : Dev) : Dev :=
  let d := d.when (l == 0) undoClosing
  let p := d.clk.pll l
  if !p.started then d
  else
    let d := d.when (!d.on (fFree l)) fun d =>
      (d.wr (fFree l) 1).wr (if l = 0 then F.CLK_EVT_FW_ENTER_M else F.CLK_EVT_FW_ENTER_S) 1
    let d := ((d.wr (fLock l) 0).wr (fReady l) 0).setPll l { p with closed := false, policy := 0 }
    d.when (l == 0) fun d => dropOffsets ((d.wr F.CLK_PLLM_STAT_DETERM 0).wr F.CLK_ROOTSTAT_CAUSE cause)

/-- The candidates to be qualified after a reference loss (R55). -/
def Dev.lossQualify (d : Dev) : Nat :=
  let lost := 2 ^ d.rd F.CLK_ROOTSTAT_CUR
  if d.on F.CLK_ROOT_FAILOVER then lost ||| d.rd F.CLK_ROOT_FO_MASK else lost

/-- The reference is lost, with cause 1 or 2: both loops enter Freewheel, and ROOT_LOSS latches as PLL-M does (R63,
R80). A loop that is in Freewheel already has entered on the first event. (DEDUCED, log 17.) -/
def referenceLoss (cause : Nat) (d : Dev) : Dev :=
  let m := d.clk.pllM.started && !d.on F.CLK_PLLM_STAT_FREEWHEEL
  let d := d.when m fun d =>
    let d := enterFreewheel 0 cause d
    let d := { d with clk := { d.clk with
      lost := d.rd F.CLK_ROOTSTAT_CUR, failover := d.on F.CLK_ROOT_FAILOVER } }
    (qualifyGates d.lossQualify d).latch 39
  d.when (!d.on F.CLK_PLLS_STAT_FREEWHEEL) (enterFreewheel 1 cause)

/-- MISSING_EDGE (R52, R63): the root gives no edge for 64 ns, so it is no longer present either; an attempt to leave
Freewheel has no further effect here. (DEDUCED, log 17.) -/
def execMissingEdge : State → Out := liftDev fun d =>
  d.when (d.rd F.CLK_ROOTSTAT_CUR != 7) fun d => referenceLoss 1 (candidateGone (d.rd F.CLK_ROOTSTAT_CUR) d)

/-- LOCK_LOSS (R63, R80): the loop whose LOCK falls enters Freewheel with cause 3. (DEDUCED, log 17.) -/
def execLockLoss (pll : Fin 2) : State → Out := liftDev fun d =>
  if d.on (fLock pll) ∧ ¬ d.on (fFree pll) ∧ (d.clk.pll pll).gateOk then
    let d := enterFreewheel pll 3 d
    let cur := d.rd F.CLK_ROOTSTAT_CUR
    let d := d.when (pll == 0) fun d =>
      qualifyGates (2 ^ cur) { d with clk := { d.clk with lost := cur, failover := false } }
    (d.when (pll == 1) (startGate cur)).latch (pllSrc pll)
  else d

/-- The phase error measured, to 10 ps (R67). The manual gives the resolution and no direction of rounding: the model takes
the multiple of 10 ps at or below the error. (DESIGN CHOICE, log 164.) -/
def measured (err : Int) : Int := err / 10 * 10

/-- PLL-M closes its loop on a candidate (R66 to R68, R431). (DEDUCED, log 19.) -/
def closeM (i : Nat) (err : Int) (d : Dev) : Dev :=
  let e := measured err
  let d := undoClosing d
  let was := d.rd F.CLK_ROOTSTAT_CUR
  let d := { d with clk := { d.clk with closing := some (was, d.rd F.CLK_EVT_ROOT_CHANGE) } }
  let d := d.when (was != i) fun d => (d.wr F.CLK_ROOTSTAT_CUR i).wr F.CLK_EVT_ROOT_CHANGE 1
  let d := d.wrInt F.CLK_PHASE_ERR_MEAS e
  let p := d.clk.pllM
  let pol := if !p.released then 0 else match d.rd F.CLK_PHASE_POLICY_POLICY with
    | 1 => 2
    | 2 => 3
    | _ => 1
  let d := d.setPll 0 { p with closed := true, closedAt := d.now, policy := pol, gateOk := true }
  match pol with
  | 1 => d.wrInt F.CLK_PHASE_ERR_REMAIN e
  | 3 => (d.wrInt F.CLK_PHASE_OFS_OFS e).wr F.CLK_PLLM_STAT_OFFSET_HELD 1
  | _ => d

/-- PLL-S closes its loop, without regard to phase (R66). (DEDUCED, log 19.) -/
def closeS (d : Dev) : Dev := d.setPll 1 { d.clk.pllS with closed := true, closedAt := d.now, gateOk := true }

/-- Whether a frequency-check gate passes (R65). -/
def gatePasses (count : Nat) : Bool := decide (156235 ≤ count) && decide (count ≤ 156265)

/-- FREQUENCY_GATE_END (R65, R66): the gate of candidate `i`, 1 ms after its start, ends with `count`; `err` is the phase
error in ps that a closing loop measures. The next gate follows at once. Of candidates whose gates pass at one instant the
lowest is taken (R55). The check is suspended during a restart of PLL-S (R62). (DEDUCED, log 17, 19.) -/
def execFrequencyGateEnd (i : Fin 5) (count : Nat) (err : Int) : State → Out := liftDev fun d =>
  if d.on F.CLK_PLLS_CFG_RESTART then d
  else
    let d := d.jumpTo (mget d.now (d.clk.gateAt.map fun e => (e.1, e.2 + 1000000)) i)
    let d := d.when (d.clk.gateAt.any fun e => e.1 == i.val) (startGate i)
    let pass := gatePasses count
    let cur := d.rd F.CLK_ROOTSTAT_CUR == i.val
    let freeM := d.on F.CLK_PLLM_STAT_FREEWHEEL
    let freeS := d.on F.CLK_PLLS_STAT_FREEWHEEL
    let present := d.bit F.CLK_ROOTSTAT_PRESENT i
    let tie (p : Pll) : Bool := p.closedAt == d.now && decide (i.val < d.rd F.CLK_ROOTSTAT_CUR)
    let waitM := freeM && (!d.clk.pllM.closed || tie d.clk.pllM)
    let onM := waitM && bitAt d.clk.qualify i && present && pass
    let onS := freeS && (!d.clk.pllS.closed || tie d.clk.pllS) && present && pass &&
      (if waitM then bitAt d.clk.qualify i else cur)
    let d := d.when cur fun d => { d with clk := { d.clk with
      pllM := { d.clk.pllM with gateOk := pass }, pllS := { d.clk.pllS with gateOk := pass } } }
    if cur ∧ ¬ pass then referenceLoss 2 d
    else (d.when onM (closeM i err)).when onS closeS

/-- RELOCK_FAIL (R66, R80): LOCK has not become 1 within 1 ms of the closing. -/
def execRelockFail (pll : Fin 2) : State → Out := liftDev fun d =>
  let p := d.clk.pll pll
  if d.on (fFree pll) ∧ p.closed ∧ ¬ d.on (fLock pll) then
    let d := (d.jumpTo (p.closedAt + 1000000)).setPll pll { p with closed := false, policy := 0 }
    let d := d.when (pll == 0) fun d => undoClosing (dropOffsets d)
    let again := if pll = 0 then d.clk.qualify else 2 ^ d.rd F.CLK_ROOTSTAT_CUR
    let d := d.each ((List.range 5).filter fun i => bitAt again i && d.bit F.CLK_ROOTSTAT_PRESENT i) startGate
    d.latch (pllSrc pll)
  else d

/-- The exit of PLL-M from Freewheel is complete (R66); a failover to another candidate than the lost one counts (R431). -/
def exitM (d : Dev) : Dev :=
  let d := d.when (d.clk.failover && d.rd F.CLK_ROOTSTAT_CUR != d.clk.lost) fun d => d.count F.CLK_ROOTSTAT_FO_COUNT
  let d := { d with clk := { d.clk with closing := none, failover := false } }
  (d.count F.CLK_PLLM_STAT_RELOCKS).wr F.CLK_EVT_FW_EXIT_M 1

/-- PLL_LOCK (R57, R66): LOCK becomes 1; in Freewheel the exit is complete. A restart of PLL-S in Freewheel, in which the
frequency check is suspended (R62), locks to the present root without a gate. (DEDUCED, log 19.) -/
def execPllLock (pll : Fin 2) : State → Out := liftDev fun d =>
  let p := d.clk.pll pll
  let free := d.on (fFree pll)
  let restart := pll == 1 && d.on F.CLK_PLLS_CFG_RESTART && d.rootRuns
  if p.started ∧ ¬ d.on (fLock pll) ∧ (¬ free ∨ p.closed ∨ restart) then
    let d := (d.wr (fLock pll) 1).setPll pll { p with lockAt := d.now, closed := false }
    d.when free fun d =>
      let d := d.wr (fFree pll) 0
      if pll = 0 then exitM d else d.wr F.CLK_EVT_FW_EXIT_S 1
  else d

/-! ## Phase -/

/-- The length of a step in ps, in whole VCO periods of 200 ps (R68). The manual gives no rule for a tie: the model takes the
nearest, half a period upwards. (DESIGN CHOICE, log 164.) -/
def stepLength (err : Int) : Nat := ((if 0 ≤ err then err else 6400 + err).toNat + 100) / 200 * 200

/-- A step of PLL-M's outputs (R68, R70): TIMECLK holds for it, and no value of the count is skipped or repeated (R85). -/
def stepClocks (err : Int) (d : Dev) : Dev :=
  let len := stepLength err
  let d := setDeterm (dropOffsets d)
  let d := (d.wr F.TIME_CLKSTEP_D len).wr F.TIME_STAT_CLK_STEPPED 1
  let t := d.time
  let here := d.timePos (1000 * d.now)
  let ahead := decide (1000 * d.now < t.anchorPs)
  { d with time := { t with
    e0Ps := t.e0Ps + len, reload := true
    heldPos := here
    anchorPs := (if ahead then t.anchorPs else 1000 * d.now) + len
    anchorPos := if ahead then t.anchorPos else here } }

/-- What the phase policy does at READY (R68, R69). -/
def policyAtReady (d : Dev) : Dev :=
  let p := d.clk.pllM
  let d := d.setPll 0 { p with policy := 0 }
  let meas := d.rdInt F.CLK_PHASE_ERR_MEAS
  let slew (d : Dev) : Dev :=
    if meas = 0 then setDeterm d
    else startSlew meas d
  match p.policy with
  | 1 => slew d
  | 2 => if d.cellsBlocked then stepClocks meas d else slew (d.blkErr .CLK 19)
  | _ => d

/-- PLL_READY (R57): LOCK has been 1 for 8,192 reference cycles. -/
def execPllReady (pll : Fin 2) : State → Out := liftDev fun d =>
  let p := d.clk.pll pll
  if d.on (fLock pll) ∧ ¬ d.on (fReady pll) then
    let d := d.jumpTo (p.lockAt + refNs 8192)
    let d := ((d.wr (fReady pll) 1).wr (if pll = 0 then F.CLK_EVT_READY_M else F.CLK_EVT_READY_S) 1).setPll pll
      { p with readyAt := d.now }
    d.when (pll == 0) policyAtReady
  else d

/-- RELEASE_EDGE (R58, R61, R62, R83): the dividers of a loop are released at E0. After a restart of PLL-S the SAFE domain
changes back from the stand-in clocks, by force where they have stopped, and the frequency check restarts with a full
gate. -/
def execReleaseEdge (pll : Fin 2) : State → Out := liftDev fun d =>
  let p := d.clk.pll pll
  if d.on (fReady pll) ∧ ¬ p.released then
    let d := (d.jumpTo (p.readyAt + refNs 256)).setPll pll { p with released := true }
    if pll = 0 then
      let d := d.when (!d.memory.sramOk && d.memory.clearAt.isNone && d.domUp domMEM) startSramClear
      let d := setDeterm (d.wr F.CLK_PLLM_CFG_RESTART 0)
      let d := { d with time := { d.time with e0Ps := 1000 * d.now } }
      d.when (d.on (F.CLK_OUT_CFG_EN 3)) startTime
    else
      let standIn := d.on F.CLK_PLLS_CFG_RESTART
      let d := d.when (standIn && !(d.outRuns 3 && d.outRuns 5)) fun d => d.blkErr .CLK 17
      startGate (d.rd F.CLK_ROOTSTAT_CUR) (startSafeClear (d.wr F.CLK_PLLS_CFG_RESTART 0))
  else d

/-- PLL_START_TIMEOUT (R80): a loop has not reached READY within 1 ms of starting. -/
def execPllStartTimeout (pll : Fin 2) : State → Out := liftDev fun d =>
  let p := d.clk.pll pll
  if p.started ∧ ¬ p.released ∧ ¬ p.late ∧ ¬ d.on (fReady pll) then
    ((d.jumpTo (p.startAt + 1000000)).setPll pll { p with late := true }).latch (pllSrc pll)
  else d

/-- SLEW_END (R68): the offset reaches 0. -/
def execSlewEnd : State → Out := liftDev fun d =>
  if d.on F.CLK_PLLM_STAT_SLEWING then
    let d := d.jumpTo d.clk.slewEnd
    setDeterm ((d.wr F.CLK_PHASE_ERR_REMAIN 0).wr F.CLK_PLLM_STAT_SLEWING 0)
  else d

/-- The phase error present at the outputs: what a slew has left at this instant, or a held offset (R70). -/
def Dev.presentErr (d : Dev) : Int :=
  if d.on F.CLK_PLLM_STAT_SLEWING then d.slewRemain
  else if d.on F.CLK_PLLM_STAT_OFFSET_HELD then d.rdInt F.CLK_PHASE_OFS_OFS
  else 0

/-- A write to `CLK.PHASE_POLICY` (R70, R71): during a slew a new rate acts from the next millisecond. -/
def phasePolicyWrite : Effect := fun _ v w d =>
  let old := d.slewRate
  let d := d.setWord .CLK_PHASE_POLICY w
  let d := d.when (d.on F.CLK_PLLM_STAT_SLEWING && d.slewRate != old) newSlewRate
  if bitAt v 8 then
    if d.on F.CLK_PLLM_STAT_READY ∧ d.cellsBlocked then stepClocks d.presentErr d
    else d.blkErr .CLK 19
  else d

/-! ## Root, restarts and outputs -/

/-- A write to `CLK.ROOT` (R54): `SRC` changes only with an accepted root change, and `REFDIV` not while REFIN is in
use; the other fields take the written value. -/
def rootWrite : Effect := fun _ _ w d =>
  let src := bitsOf w 0 3
  let old := d.word .CLK_ROOT
  let cur := d.rd F.CLK_ROOTSTAT_CUR
  let divRefused := bitsOf w 4 2 != bitsOf old 4 2 && cur == 4
  let w := if divRefused then putBits w 4 2 (bitsOf old 4 2) else w
  let d := d.when divRefused fun d => d.blkErr .CLK 16
  let d := d.setWord .CLK_ROOT (putBits w 0 3 (bitsOf old 0 3))
  if d.on (F.PG_LOCK_LOCK_BASIC .CLK) ∨ 4 < src ∨ src = cur then d
  else if !d.bit F.CLK_ROOTSTAT_PRESENT src then d.blkErr .CLK 16
  else
    let d := enterFreewheel 1 4 (enterFreewheel 0 4 (d.wr F.CLK_ROOT_SRC src))
    qualifyGates (2 ^ src) { d with clk := { d.clk with failover := false } }

/-- Whether any multiplexer selects a source code. -/
def Dev.anyDomsel (d : Dev) (c : Nat) : Bool := (List.range 6).any fun f => domselOf (d.word .CLK_DOMSEL) f == c

/-- A write to `CLK.PLLM_CFG` (R58). -/
def pllmCfgWrite : Effect := fun _ v _ d =>
  if !bitAt v 0 then d
  else if d.cellsBlocked ∧ ¬ d.anyDomsel 0 then startPll 0 (d.wr F.CLK_PLLM_CFG_RESTART 1)
  else d.blkErr .CLK 16

/-- A write to `CLK.PLLS_CFG` by a safety-partition master (R62); the hardware alone clears the bit. -/
def pllsCfgWrite : Effect := fun m v _ d =>
  if !(bitAt v 0 && isSafe m) then d
  else if d.on F.CLK_PLLM_STAT_READY ∧ ¬ d.on F.CLK_PLLM_STAT_FREEWHEEL ∧ d.on (F.CLK_OUT_CFG_EN 3) ∧
      d.on (F.CLK_OUT_CFG_EN 5) ∧ d.rd (F.CLK_OUT_CFG_DIV 5) = 25 ∧ ¬ d.anyDomsel 1 then
    let d := startPll 1 (d.wr F.CLK_PLLS_CFG_RESTART 1)
    { d with clk := { d.clk with gateAt := [] } }
  else d.blkErr .CLK 16

/-- Whether any SerDes lane is enabled: a rim, a station port or a tandem lane (R60). -/
def Dev.anySerdes (d : Dev) : Bool :=
  (List.range 32).any d.rimOn || d.enabled (.STATION 0) || d.enabled (.STATION 1) || d.enabled (.TANDEM 0)

/-- Whether an output is in use (R60). -/
def Dev.outInUse (d : Dev) (n : Nat) : Bool :=
  ((List.range 6).any fun f => domOut f == n && domselOf (d.word .CLK_DOMSEL) f == 0) ||
  (n == 3 && d.enabled (.TIME 0)) || (n == 6 && d.anySerdes)

/-- A write to `CLK.OUTn_CFG` (R60). TIMECLK starts and stops with O3 (R83). -/
def outCfgWrite (n : Nat) : Effect := fun _ _ w d =>
  let en := d.on (F.CLK_OUT_CFG_EN n)
  if (en ∧ ¬ bitAt w 16 ∧ d.outInUse n) ∨ (en ∧ bitsOf w 0 16 ≠ bitsOf (d.word (.CLK_OUT_CFG n)) 0 16) ∨
      bitsOf w 0 8 < 4 then
    d.blkErr .CLK 20
  else
    let was := d.outPs 3
    let d := d.when (n == 3 && en && !bitAt w 16) stopTime
    let d := d.setWord (.CLK_OUT_CFG n) w
    let d := d.when (n == 3 && !en) fun d =>
      { d with time := { d.time with heldPos := d.time.heldPos % was * d.outPs 3 / was } }
    d.when (n == 3 && !en && bitAt w 16 && d.clk.pllM.released) startTime

/-! ## Domain multiplexers (R72 to R75) -/

/-- Whether a source of a multiplexer is ready (R73). -/
def Dev.srcReady (d : Dev) (f c : Nat) : Bool :=
  match c with
  | 0 => d.on F.CLK_PLLM_STAT_READY && d.on (F.CLK_OUT_CFG_EN (domOut f))
  | 1 => d.on F.CLK_PLLS_STAT_READY
  | 2 =>
    let cur := d.rd F.CLK_ROOTSTAT_CUR
    cur != 7 && d.bit F.CLK_ROOTSTAT_PRESENT cur && !d.on F.CLK_PLLM_STAT_FREEWHEEL
  | _ => f != 2

/-- A write to `CLK.DOMSEL` (R74): refused as a whole, or each changed multiplexer starts to switch. -/
def domselWrite : Effect := fun _ _ w d =>
  let old := d.word .CLK_DOMSEL
  let changed := (List.range 6).filter fun f => domselOf w f != domselOf old f
  if (changed.any fun f => !d.srcReady f (domselOf w f) || d.bit F.CLK_DOMSEL_BUSY f) ∨ domselOf w 2 = 3 then
    d.blkErr .CLK 16
  else
    (d.setWord .CLK_DOMSEL w).each changed fun f d => d.setBit F.CLK_DOMSEL_BUSY f

/-- DOMSEL_RESUME (R74): the multiplexer resumes and its BUSY falls. -/
def execDomselResume (f : Fin 6) : State → Out := liftDev fun d => d.clrBit F.CLK_DOMSEL_BUSY f

/-- SW_FORCED (R75): a switch in progress is completed by force; its resumption is DOMSEL_RESUME. -/
def execSwForced (f : Fin 6) : State → Out := liftDev fun d =>
  d.when (d.bit F.CLK_DOMSEL_BUSY f) fun d => d.blkErr .CLK 17

/-! ## Gates (R76) -/

/-- `DRAINING` follows the drains in progress. -/
def setDraining (n : Nat) (d : Dev) : Dev :=
  { d.wr F.CLK_GATE_STAT_DRAINING (b2n (n != 0)) with clk := { d.clk with draining := n } }

/-- A write to `CLK.GATE`: requests, reopenings and abandoned drains. -/
def gateWrite : Effect := fun _ _ w d =>
  let old := d.word .CLK_GATE
  let d := d.setWord .CLK_GATE w
  let d := d.each ((List.range 21).filter fun b => bitAt w b && !bitAt old b) fun b d =>
    let d := setDraining (setBitAt d.clk.draining b) d
    { d with clk := { d.clk with drainAt := mset d.clk.drainAt b d.now } }
  d.each ((List.range 21).filter fun b => !bitAt w b) fun b d =>
    (setDraining (clearBitAt d.clk.draining b) d).clrBit F.CLK_GATE_STAT_CLOSED b

/-- GATE_CLOSE (R76): the drain ends and the clock stops. -/
def execGateClose (b : Fin 21) : State → Out := liftDev fun d =>
  d.when (bitAt d.clk.draining b) fun d =>
    (setDraining (clearBitAt d.clk.draining b) d).setBit F.CLK_GATE_STAT_CLOSED b

/-- A drain still open 1,024 BUSCLK cycles after its start is closed by force (R76). -/
def forceGate (b : Nat) (d : Dev) : Dev :=
  let d := d.jumpTo (mget d.now (d.clk.drainAt.map fun e => (e.1, e.2 + d.busNs 1024)) b)
  (((setDraining (clearBitAt d.clk.draining b) d).setBit F.CLK_GATE_STAT_CLOSED b).blkErr .CLK 18).wr
    F.CLK_GATE_STAT_LAST_FORCED b

/-! ## The frequency monitor (R77, R78) -/

/-- The period in ps of a monitor input, where the device's state fixes it: an output of PLL-M, SAFECLK or MONCLK that runs
(R77). -/
def Dev.fmonPs (d : Dev) (c : Nat) : Option Nat :=
  if 6 ≤ c ∧ c ≤ 13 then (if d.outRuns (c - 6) then some (d.outPs (c - 6)) else none)
  else if c = 14 then (if d.safeRuns then some 4000 else none)
  else if c = 15 then (if d.safeRuns then some 10000 else none)
  else none

/-- A monitor input stands still: an output, SAFECLK or MONCLK that does not run, or no root is in use. -/
def Dev.fmonStopped (d : Dev) (c : Nat) : Bool :=
  if 6 ≤ c then (d.fmonPs c).isNone else c == 5 && d.rd F.CLK_ROOTSTAT_CUR == 7

/-- Two monitor inputs stand in the ratio of their nominal periods: they come from one loop, or both loops are locked to
the root and no slew runs (R57, R64, R68). -/
def Dev.fmonTied (d : Dev) (a b : Nat) : Bool :=
  decide (a < 14) == decide (b < 14) ||
  (d.on F.CLK_PLLM_STAT_LOCK && d.on F.CLK_PLLS_STAT_LOCK && !d.on F.CLK_PLLM_STAT_SLEWING)

/-- The count of a measurement: 0 for a stopped input; exact to ±1 where the state fixes it; else what the inputs give
(R77, R78). -/
def Dev.fmonCount (d : Dev) (count : Nat) : Nat :=
  let m := d.rd F.CLK_FMON_CFG_MEAS
  let g := d.rd F.CLK_FMON_CFG_GATE
  if d.fmonStopped m then 0
  else match d.fmonPs m, d.fmonPs g with
    | some pm, some pg =>
      let n := d.rd F.CLK_FMON_CFG_N * pg
      if d.fmonTied m g then max ((n + pm - 1) / pm - 1) (min count (n / pm + 1)) else count
    | _, _ => count

/-- A write to `CLK.FMON_CFG`. A START that is refused does not hold back the other fields of the same write: the manual
does not say, and the model lets them take the written values. (DESIGN CHOICE, log 165.) -/
def fmonCfgWrite : Effect := fun _ v w d =>
  let d := d.setWord .CLK_FMON_CFG w
  if !bitAt v 8 then d
  else if d.rd F.CLK_FMON_CFG_N = 0 ∨ d.clk.fmonRun then d.blkErr .CLK 16
  else
    let d := (d.wr F.CLK_FMON_CFG_START 1).setWord .CLK_FMON_RES 0
    { d with clk := { d.clk with fmonRun := true, fmonAt := d.now } }

/-- A measurement ends, and the next starts at once if `again`. -/
def fmonEnd (again : Bool) (d : Dev) : Dev :=
  let d := { (d.wr F.CLK_FMON_RES_DONE 1).wr F.CLK_EVT_FMON_DONE 1 with
    clk := { d.clk with fmonRun := again, fmonAt := d.now } }
  d.when (!again) fun d => d.wr F.CLK_FMON_CFG_START 0

/-- FMON_DONE (R78): the Nth gate edge, with the edges counted. A gate input that stands still gives none. -/
def execFmonDone (count : Nat) : State → Out := liftDev fun d =>
  if d.clk.fmonRun ∧ ¬ d.fmonStopped (d.rd F.CLK_FMON_CFG_GATE) then
    let gate := ((d.fmonPs (d.rd F.CLK_FMON_CFG_GATE)).getD 0 * d.rd F.CLK_FMON_CFG_N + 999) / 1000
    let d := d.jumpTo (d.clk.fmonAt + gate)
    let count := d.fmonCount count
    let out := d.on F.CLK_FMON_CFG_ALARM_EN &&
      (decide (count < d.rd F.CLK_FMON_LO_LIMIT) || decide (d.rd F.CLK_FMON_HI_LIMIT < count))
    let d := fmonEnd (d.on F.CLK_FMON_CFG_CONT) d
    let d := ((d.wr F.CLK_FMON_RES_COUNT count).wr F.CLK_FMON_RES_ALARM (b2n out)).wr F.CLK_FMON_RES_NOGATE 0
    d.when out fun d => (d.wr F.CLK_EVT_FMON_ALARM 1).latch 40
  else d

/-- FMON_NOGATE (R78): the gate input has given no edge for 1,024 BUSCLK cycles, as no input does that runs. -/
def execFmonNogate : State → Out := liftDev fun d =>
  d.when (d.clk.fmonRun && (d.fmonPs (d.rd F.CLK_FMON_CFG_GATE)).isNone) fun d =>
    (fmonEnd false (d.jumpTo (d.clk.fmonAt + d.busNs 1024))).wr F.CLK_FMON_RES_NOGATE 1

/-! ## The commands that write clock registers -/

/-- ROOT_SRC_WRITE (R54). -/
def execRootSrcWrite (m : Nat) (v : Word) : State → Out := writeRow rootWrite m .CLK_ROOT v.toNat

/-- PLLM_RESTART (R58). -/
def execPllmRestart (m : Nat) : State → Out := writeRow pllmCfgWrite m .CLK_PLLM_CFG 1

/-- PLLS_RESTART (R62). -/
def execPllsRestart (m : Nat) : State → Out := writeRow pllsCfgWrite m .CLK_PLLS_CFG 1

/-- OUT_CFG_WRITE (R60). -/
def execOutCfgWrite (m : Nat) (n : Fin 8) (v : Word) : State → Out :=
  writeRow (outCfgWrite n) m (.CLK_OUT_CFG n) v.toNat

/-- DO_STEP (R70). -/
def execDoStep (m : Nat) (v : Word) : State → Out := writeRow phasePolicyWrite m .CLK_PHASE_POLICY v.toNat

/-- DOMSEL_WRITE (R74). -/
def execDomselWrite (m : Nat) (v : Word) : State → Out := writeRow domselWrite m .CLK_DOMSEL v.toNat

/-- GATE_REQUEST (R76). -/
def execGateRequest (m : Nat) (v : Word) : State → Out := writeRow gateWrite m .CLK_GATE v.toNat

/-- FMON_START (R78). -/
def execFmonStart (m : Nat) (v : Word) : State → Out := writeRow fmonCfgWrite m .CLK_FMON_CFG v.toNat

end Sys2Proof.Machine
end

