-- ==== Sys2Proof/Machine/Time.lean ====
section
/-!
DEFINITION. Sys2Proof/Machine/Time.lean: the timebase, its steering by addend, offset slew and step, the distribution
boundaries, alarms, the servo watchdog and the transmit timestamp queues (R81 to R99).
-/
namespace Sys2Proof.Machine

/-- The distribution period of a code in ns (`TIME.DIST.PERIOD`). -/
def periodNs (code : Nat) : Nat := [10000, 20000, 25000, 40000, 50000, 100000].getD code 10000

/-- The period that `TIME.DIST` asks for, as a code (R4, R87). (DESIGN CHOICE for the reserved codes, log 7.) -/
def Dev.distCode (d : Dev) : Nat := d.code F.TIME_DIST_PERIOD (List.range 6)

/-- The registers that show the hidden state of the timebase. -/
def timeRegs (d : Dev) : Dev :=
  let t := d.time
  let eff := ((t.base : Int) + t.slew).toNat
  let d := (d.when (d.rd F.TIME_ADDEND_EFF_EFF != eff) Dev.noteRate).wr F.TIME_ADDEND_EFF_EFF eff
  let d := d.wrInt F.TIME_ADJ_REMAIN_REMAIN (t.remain.tdiv nsUnit)
  let d := d.wr F.TIME_STAT_ADJ_BUSY (b2n t.slewing)
  let d := d.wr F.TIME_STAT_ADDEND_PEND (b2n (d.rd F.TIME_ADDEND_ADDEND != t.base))
  (d.wr F.TIME_STAT_PERIOD_PEND (b2n t.pend)).wr F.TIME_STEP_BUSY (b2n (t.stepCmd != 0))

/-- The timebase state replaced, with the registers that show it. -/
def Dev.setTime (d : Dev) (t : TimeState) : Dev := timeRegs { d with time := t }

/-- The basic region of a page is frozen by `LOCK_BASIC` (R36). -/
def Dev.basicLocked (d : Dev) (p : Page) : Bool := d.on (F.PG_LOCK_LOCK_BASIC p)

/-! ## The count -/

/-- A read of `TIME.NOW_NS`: the snapshot of the reading master (R84). (DEDUCED, log 20.) -/
def nowRead (m : Nat) (d : Dev) : Nat × Dev :=
  let v := d.tbVal
  (v / nsUnit % 1000000000, { d with time := { d.time with snaps := mset d.time.snaps m v } })

/-- The snapshot of a master (R84). -/
def Dev.snapOf (d : Dev) (m : Nat) : Nat := mget 0 d.time.snaps m

/-! ## Addend and slew -/

/-- A new `TIME.ADDEND` (R86, R87): refused outside 500 ppm, else pending; a value announced and not yet applied
is never applied. -/
def newAddend (w : Nat) (d : Dev) : Dev :=
  if w < 0x7FEF9DB2 ∨ 0x8010624E < w then d.blkErr (.TIME 0) 16
  else (d.wr F.TIME_ADDEND_ADDEND w).setTime { d.time with annBase := d.time.base }

/-- A new `TIME.ADJ_NS` (R88). (DEDUCED, log 25.) -/
def newAdjust (w : Nat) (d : Dev) : Dev :=
  let d := d.setWord .TIME_ADJ_NS w
  let ofs := signedOf 32 w
  let t := { d.time with slewLast := false, annLast := false }
  if ofs ≠ 0 then d.setTime { t with remain := ofs * nsUnit, slewing := true, ending := 0 }
  else if d.time.slewing ∧ d.time.ending = 0 then d.setTime { t with remain := 0, ending := 1 }
  else d

/-- The slew part of RATE in units per cycle: RATE × 2^31 / 1,000,000, rounded (R88). -/
def Dev.slewDelta (d : Dev) : Nat :=
  (clampTo 1 100 (d.rd F.TIME_ADJ_CFG_RATE) * 2 ^ 31 + 500000) / 1000000

/-- A boundary books the slew part of the period just ended; the last period ends the slew (R88). -/
def bookSlew (d : Dev) : Dev :=
  let t := d.time
  if !(t.slewing && t.ending == 0) then d
  else if t.slewLast then
    { d.wr F.TIME_STAT_ADJ_DONE 1 with time := { t with remain := 0, slewing := false, slewLast := false } }
  else { d with time := { t with remain := t.remain - t.slew * t.cyc } }

/-- The announced change takes effect (R87); an ended slew is over (R88). (DEDUCED, log 25.) -/
def applyAnnounced (d : Dev) : Dev :=
  let t := d.time
  let t := { t with base := t.annBase, slew := t.annSlew, slewLast := t.annLast, annLast := false }
  { d with time := if t.ending = 2 then { t with ending := 0, slewing := false } else t }

/-- The change announced at a boundary for the next one: the written addend, and the slew part of the period that
starts there (R87, R88). (DEDUCED, log 25.) -/
def announce (d : Dev) : Dev :=
  let t := d.time
  let t := if t.ending = 1 then { t with ending := 2 } else t
  let after := t.remain - t.slew * t.cyc
  let sign : Int := if 0 < after then 1 else -1
  let idle := !t.slewing || t.slewLast || t.ending != 0
  let last := !idle && decide (after.natAbs ≤ d.slewDelta * t.cyc)
  let slew : Int := if idle then 0 else if last then sign * (after.natAbs / t.cyc : Nat) else sign * d.slewDelta
  { d with time := { t with annBase := d.rd F.TIME_ADDEND_ADDEND, annSlew := slew, annLast := last } }

/-- A number of ps as whole ns, rounded to nearest. (DEDUCED, log 67.) -/
def nearestNs (ps : Int) : Int := (ps + 500) / 1000

/-- Time follow at a boundary (R253 items 2 and 3): a standby corrects its offset from its partner by an offset slew,
or by a step where it exceeds 1,000 ns and the cells are blocked. (DEDUCED, log 67.) -/
def timeFollow (d : Dev) : Dev :=
  let err := d.rdInt F.TANDEM_TFERR_VAL
  if ¬ (d.rd F.SAFE_CLAIM_STAT_ROLE = 3 ∧ d.on F.TANDEM_CFG_TFOLLOW ∧ d.enabled (.TANDEM 0)) then d
  else if 1000000 < err.natAbs ∧ d.cellsBlocked then
    (if d.time.stepCmd = 0 then d.setTime { d.time with stepCmd := 2, stepNs := nearestNs (-err) } else d)
  else if 500 < err.natAbs ∧ ¬ d.time.slewing ∧ ¬ d.basicLocked (.TIME 0) then
    newAdjust (unsignedOf 32 (nearestNs (-err))) d
  else d

/-- The boundary at the value `b` (R87, R88, R90, R99): between a period change and its effect the effective addend
does not change. Every enabled rim owes a time record. (DEDUCED, log 21.) -/
def boundaryAt (b : Nat) (d : Dev) : Dev :=
  let d := bookSlew d
  let p := periodNs d.time.period
  let d := { d with time := { d.time with cyc := p / 4, nextB := (b / p + 1) * p, boundAt := d.now
                                          recReload := d.time.reload, reload := false } }
  let d := if d.time.pend then d else announce (applyAnnounced d)
  let d := timeFollow (timeRegs d)
  d.when (d.enabled (.TIME 0)) fun d =>
    d.each ((List.range 32).filter d.rimOn) fun n d =>
      d.setRim n { d.rim n with qTime := (d.rim n).qTime ++ [.time] }

/-- DIST_BOUNDARY (R87, R99): the timebase reaches the next boundary. -/
def execDistBoundary : State → Out := liftDev fun d =>
  if d.time.running then
    let d := d.jumpToTb d.time.nextB
    boundaryAt d.time.nextB d
  else d

/-! ## Period changes (R90) -/

/-- The value at which a pending period change takes effect: the first common multiple of both periods at least 1 ms
after the landing (R90). -/
def Dev.periodDue (d : Dev) : Nat :=
  let l := Nat.lcm (periodNs d.time.period) (periodNs d.distCode)
  (d.time.periodAt + 1000000 + l - 1) / l * l

/-- A period change is accepted: changes announced and not yet applied are requested again after it (R90).
(DEDUCED, log 21.) -/
def acceptPeriod (code : Nat) (d : Dev) : Dev :=
  let t := d.time
  (d.wr F.TIME_DIST_PERIOD code).setTime { t with
    pend := true, periodAt := d.tns, annBase := t.base, annSlew := t.slew, annLast := false, slewLast := false
    ending := min t.ending 1 }

/-- The new period takes effect at the value `x`, a boundary of both periods (R90). (DEDUCED, log 21.) -/
def changePeriod (x : Nat) (d : Dev) : Dev :=
  boundaryAt x { d with time := { d.time with period := d.distCode, pend := false } }

/-- PERIOD_CHANGE (R90). -/
def execPeriodChange : State → Out := liftDev fun d =>
  if d.time.pend ∧ d.time.running then
    let x := d.periodDue
    changePeriod x (d.jumpToTb x)
  else d

/-- A boundary whose tick has come is taken before a change that lands in that tick (R87). -/
def boundaryFirst (d : Dev) : Dev :=
  let t := d.time
  if ¬ (t.running ∧ t.anchorPs ≤ 1000 * d.now) then d
  else if t.pend ∧ d.periodDue ≤ d.tns then changePeriod d.periodDue d
  else if t.nextB ≤ d.tns then boundaryAt t.nextB d
  else d

/-- A write to `TIME.ADDEND` (R86, R87). -/
def addendWrite : Effect := fun _ _ w d => newAddend w (boundaryFirst d)

/-- A write to `TIME.ADJ_NS` (R87, R88). -/
def adjWrite : Effect := fun _ _ w d => newAdjust w (boundaryFirst d)

/-- A write to `TIME.ADJ_CFG`, whose RATE the boundary of its tick does not see (R87, R88). -/
def adjCfgWrite : Effect := fun m v w d => plainEffect .TIME_ADJ_CFG m v w (boundaryFirst d)

/-! ## Steps (R89) -/

/-- A write to `TIME.STEP` (R89): CMD 1 or 2; 0 and 3 are ignored. The operand is taken with the command.
(DEDUCED, log 6.) -/
def stepWrite : Effect := fun _ v _ d =>
  let cmd := bitsOf v 0 2
  let ns := d.rd F.TIME_SET_NS_VAL
  let sec := d.rd64 F.TIME_SET_SEC_LO_VAL F.TIME_SET_SEC_HI_VAL
  if cmd = 0 ∨ cmd = 3 then d
  else if d.time.stepCmd ≠ 0 ∨ ¬ d.cellsBlocked ∨ 1000000000 ≤ ns then d.blkErr (.TIME 0) 17
  else d.setTime { d.time with
    stepCmd := cmd
    stepNs := (if cmd = 1 then (sec : Int) else signedOf 64 sec) * 1000000000 + ns }

/-- By how many ns a step that waits moves the timebase: REL by its operand, ABS to its operand at the present tick
(R89). (DEDUCED, log 22.) -/
def Dev.stepBy (d : Dev) : Int := if d.time.stepCmd = 1 then d.time.stepNs - (d.tns : Nat) else d.time.stepNs

/-- The count after a step: REL adds to it and leaves its fraction, ABS makes the present tick its operand with fraction 0
(R89). (DEDUCED, log 22.) -/
def Dev.steppedCount (d : Dev) : Nat :=
  let units : Int := d.time.stepNs * (nsUnit : Nat)
  let here : Nat := d.rd F.TIME_ADDEND_EFF_EFF * d.timePhase / 4
  let count : Int := if d.time.stepCmd = 1 then units - here else d.time.count + units
  (count % (wrapUnits : Int)).toNat

/-- An accepted step lands: the count takes the new value (R89, R90). (DEDUCED, log 22.) -/
def landStep (d : Dev) : Dev :=
  let p := periodNs d.time.period
  let d := { d.noteRate with time := { d.noteRate.time with count := d.steppedCount } }.wr F.TIME_STAT_TIME_STEPPED 1
  let t := d.time
  d.setTime { t with
    stepCmd := 0, slewing := false, ending := 0, remain := 0, slewLast := false, annLast := false
    nextB := (d.tns + p - 1) / p * p
    periodAt := if t.pend then d.tns else t.periodAt
    reload := true }

/-! ## Alarms (R91) and the watchdog (R92) -/

/-- The time of an alarm in ns. -/
def Dev.alarmNs (d : Dev) (n : Nat) : Nat :=
  d.rd64 (F.TIME_ALARM_SEC_LO_SEC n) (F.TIME_ALARM_SEC_HI_SEC n) * 1000000000 + d.rd (F.TIME_ALARM_NS_NS n)

/-- The repetition period of `REP` in ns; none for 0. (DEDUCED, log 23.) -/
def repNs (rep : Nat) : Option Nat :=
  match rep with
  | 1 => some 1000000000
  | 2 => some 100000000
  | 3 => some 10000000
  | 4 => some 1000000
  | _ => none

/-- The time of an alarm replaced. -/
def Dev.setAlarm (d : Dev) (n x : Nat) : Dev :=
  (d.wr64 (F.TIME_ALARM_SEC_LO_SEC n) (F.TIME_ALARM_SEC_HI_SEC n) (x / 1000000000 % 2 ^ 64)).wr
    (F.TIME_ALARM_NS_NS n) (x % 1000000000)

/-- ALARM_FIRE (R91). -/
def execAlarmFire (n : Fin 4) : State → Out := liftDev fun d =>
  if d.on (F.TIME_ALARM_CTRL_EN n) ∧ d.time.running then
    let at_ := d.alarmNs n
    let d := (d.jumpToTb at_).irPulse (125 + n)
    let width := d.rd (F.TIME_ALARM_CTRL_WIDTH n)
    let d := d.when (d.on (F.TIME_ALARM_CTRL_GPIO_EN n) && width != 0) fun d =>
      { d with time := { d.time with
        pulses := mset d.time.pulses n (d.rd (F.TIME_ALARM_CTRL_GPIO n), d.now + 1000 * width) } }
    match repNs (d.code (F.TIME_ALARM_CTRL_REP n) (List.range 5)) with
    | none => d.wr (F.TIME_ALARM_CTRL_EN n) 0
    | some r => d.setAlarm n (at_ + ((d.tns - at_) / r + 1) * r)
  else d

/-- ALARM_PULSE_END (R91). -/
def execAlarmPulseEnd (n : Fin 4) : State → Out := liftDev fun d =>
  if mhas d.time.pulses n then
    let d := d.jumpTo (mget (0, 0) d.time.pulses n).2
    { d with time := { d.time with pulses := merase d.time.pulses n } }
  else d

/-- Whether an alarm drives a GPIO high: one whose GPIO_EN is 1 within its pulse (R91). -/
def Dev.alarmDrives (d : Dev) (g : Nat) : Bool :=
  d.time.pulses.any fun e => e.2.1 == g && d.on (F.TIME_ALARM_CTRL_GPIO_EN e.1)

/-- A write to `TIME.WD_CFG` (R92): setting EN starts the timeout, clearing it stops it. (DEDUCED, log 23.) -/
def wdCfgWrite : Effect := fun _ _ w d =>
  let was := d.on F.TIME_WD_CFG_EN
  let d := d.setWord .TIME_WD_CFG w
  let on := d.on F.TIME_WD_CFG_EN
  if on = was then d else { d with time := { d.time with wdRun := on, wdAt := d.now } }

/-- A write to `TIME.WD_KICK` (R92): any write restarts the timeout. -/
def wdKickWrite : Effect := fun _ _ _ d =>
  d.when (d.on F.TIME_WD_CFG_EN) fun d => { d with time := { d.time with wdRun := true, wdAt := d.now } }

/-- WD_EXPIRE (R92). (DEDUCED, log 23.) -/
def execWdExpire : State → Out := liftDev fun d =>
  if d.time.wdRun then
    let d := d.jumpTo (d.time.wdAt + max 1 (d.rd F.TIME_WD_CFG_TIMEOUT) * 1000000)
    ({ d.wr F.TIME_STAT_WD_EXP 1 with time := { d.time with wdRun := false } }).latch 36
  else d

/-- TIME_RECORD_LATE (R92): an enabled rim port that still owes the record of a boundary 2 us after it. -/
def execTimeRecordLate (n : Fin 32) : State → Out := liftDev fun d =>
  d.when (d.rimOn n && (d.rim n).qTime.any (· == .time)) fun d => (d.jumpTo (d.time.boundAt + 2000)).latch 36

/-! ## Transmit timestamps (R95) -/

/-- A port's transmit timestamp queue. -/
def TimeState.tsq (t : TimeState) (x : Nat) : List TsqEntry := if x = 0 then t.tsqA else t.tsqB

/-- Replaces a port's queue, with its count. -/
def Dev.setTsq (d : Dev) (x : Nat) (q : List TsqEntry) : Dev :=
  { d.wr (F.TIME_PORT_TSQ_STAT_COUNT x) q.length with
    time := if x = 0 then { d.time with tsqA := q } else { d.time with tsqB := q } }

/-- A transmit timestamp enters its queue, or is discarded where it finds 64 entries. (DEDUCED, log 24.) -/
def tsqPush (x : Nat) (e : TsqEntry) (d : Dev) : Dev :=
  let q := d.time.tsq x
  if 64 ≤ q.length then d.count (F.TIME_PORT_TSQ_STAT_OVF x) else d.setTsq x (q ++ [e])

/-- A read of `PORTx_TSQ_W0` pops the oldest entry into the reader's snapshot. -/
def tsqPop (m x : Nat) (d : Dev) : Nat × Dev :=
  let q := d.time.tsq x
  let e := q.head?
  let d := d.setTsq x q.tail
  let d := { d with time := { d.time with tsqSnap := mset d.time.tsqSnap (x + 2 * m) e } }
  match e with
  | none => (0, d)
  | some e => (2 ^ 31 + e.time / nsUnit % 1000000000, d)

/-- The words W1 to W3 of a reader's popped entry; 0 where none was popped. -/
def Dev.tsqWord (d : Dev) (m x i : Nat) : Nat :=
  match mget none d.time.tsqSnap (x + 2 * m) with
  | none => 0
  | some e =>
    let sec := e.time / secUnit
    match i with
    | 1 => sec % 2 ^ 32
    | 2 => bitsOf (e.time % nsUnit) 13 16 * 2 ^ 16 + bitsOf sec 32 16
    | _ => (e.domain % 256) * 2 ^ 20 + (e.mtype % 16) * 2 ^ 16 + e.seqId % 2 ^ 16

/-! ## The commands that access timebase registers -/

/-- TIME_SNAPSHOT (R84). -/
def execTimeSnapshot (m : Nat) : State → Out := liftDev fun d => d.busReadWith nowRead m .TIME_NOW_NS

/-- ADDEND_WRITE (R86). -/
def execAddendWrite (m : Nat) (v : Word) : State → Out := writeRow addendWrite m .TIME_ADDEND v.toNat

/-- ADJ_NS_WRITE (R88). -/
def execAdjNsWrite (m : Nat) (v : Word) : State → Out := writeRow adjWrite m .TIME_ADJ_NS v.toNat

/-- STEP_ABS (R89). -/
def execStepAbs (m : Nat) : State → Out := writeRow stepWrite m .TIME_STEP 1

/-- STEP_REL (R89). -/
def execStepRel (m : Nat) : State → Out := writeRow stepWrite m .TIME_STEP 2

/-- WD_ENABLE (R92). -/
def execWdEnable (m : Nat) (v : Word) : State → Out := writeRow wdCfgWrite m .TIME_WD_CFG v.toNat

/-- WD_KICK (R92). -/
def execWdKick (m : Nat) (v : Word) : State → Out := writeRow wdKickWrite m .TIME_WD_KICK v.toNat

/-- TSQ_POP (R95). -/
def execTsqPop (m : Nat) (port : Fin 2) : State → Out := liftDev fun d =>
  d.busReadWith (fun m => tsqPop m port) m (.TIME_PORT_TSQ_W0 port)

end Sys2Proof.Machine
end

