-- ==== Sys2Proof/Machine/RimOps.lean ====
section
/-!
DEFINITION. Sys2Proof/Machine/RimOps.lean: the rim engine's shared operations: what a rim shows of its positions, the
states of positions and the actions of entering them (R129 to R135, R255, R432), discovery runs (R133) and configuration
items with the interlock order of R167.
-/
namespace Sys2Proof.Machine

/-! ## Positions -/

/-- The rim of spoke `k` and its position on it (R26). -/
def rimOf (k : Nat) : Nat := k / 8
/-- The position of spoke `k` on its rim. -/
def posOf (k : Nat) : Nat := k % 8

/-- The spokes of a rim. -/
def spokesOf (n : Nat) : List Nat := (List.range 8).map fun p => 8 * n + p

/-- `SPOKEk.STATE.STATE`: 0 ABSENT, 1 DISCOVERED, 2 IDENTIFIED, 3 CONFIGURED, 4 SYNCED, 5 ADMITTED, 6 BYPASSED,
7 FAILED (R133). -/
def Dev.spokeSt (d : Dev) (k : Nat) : Nat := d.rd (F.SPOKE_STATE_STATE k)

/-- CONFIGURED or later (R432). -/
def Dev.configured (d : Dev) (k : Nat) : Bool := decide (3 ≤ d.spokeSt k ∧ d.spokeSt k ≤ 6)

/-- IDENTIFIED or later (R432). -/
def Dev.identified (d : Dev) (k : Nat) : Bool := decide (2 ≤ d.spokeSt k ∧ d.spokeSt k ≤ 6)

/-- The rim engine of a rim runs: its rim enabled, its domain powered, its clock not gated (R76) and no error response
has halted it (R42). (DEDUCED, log 34.) -/
def Dev.rimRuns (d : Dev) (n : Nat) : Bool :=
  d.rimOn n && d.domUp (rimDomain n) && !d.gateClosed (12 + n / 16) && !bitAt d.rimHalt (n / 16)

/-- The rim port of a rim sends: its rim enabled, its domain powered and SERREF running (R57, R102). Neither the rim
engine nor its clock gate has a part in this: block pairs, time records, edges and the frame of each rim cycle need no
engine (R17, R108, R114, R127). (DEDUCED, log 34.) -/
def Dev.rimSends (d : Dev) (n : Nat) : Bool := d.rimOn n && d.domUp (rimDomain n) && d.outRuns 6

/-- The rims whose ports send. -/
def Dev.sendingRims (d : Dev) : List Nat := (List.range 32).filter d.rimSends

/-- A record joins the queue of configuration, discovery and echo records of a rim (R127). The manual's order of priority
names no class for FW_START, FW_ACTIVATE, ACK_FAULT, RELEASE, BYPASS and DELAY: the model gives them this one.
(DESIGN CHOICE, log 170.) -/
def sendCfg (n : Nat) (r : DownRec) (d : Dev) : Dev :=
  d.setRim n { d.rim n with qCfg := (d.rim n).qCfg ++ [r] }

/-! ## What a rim shows -/

/-- `RIMn.LATENCY` (R131). The manual does not say what a CONFIGURED position adds before its D has been delivered in
this admission: the model leaves it out of the maximum, so that LATENCY reads 520 with VALID 1 while there is no D.
(DESIGN CHOICE, log 168.) -/
def rimLatency (n : Nat) (d : Dev) : Dev :=
  let ks := (spokesOf n).filter d.configured
  let dmax := (ks.filter fun k => (d.spoke k).calDone).foldl (fun a k => max a (d.rd (F.SPOKE_DLY_VAL k))) 0
  (d.wr (F.RIM_LATENCY_VALID n) (b2n !ks.isEmpty)).wr (F.RIM_LATENCY_LAT n)
    (if ks.isEmpty then 0 else (dmax + 999) / 1000 + 520)

/-- The node count N of a rim. -/
def Dev.nodes (d : Dev) (n : Nat) : Nat := d.inRange (F.RIM_CTRL_NODES n) 1 8

/-- T, the target state of a discovery run (R133). -/
def Dev.runTarget (d : Dev) (n : Nat) : Nat := if d.on (F.RIM_CTRL_AUTO_ADMIT n) then 5 else 4

/-! ## Progress (R37, R133, R140)

The discovery run and the firmware transfer of a rim share its `PG_PROG`. -/

/-- POSITION and PERCENT of a discovery run as they stand (R133); 100 appears only with its end (R37).
(DEDUCED, log 30.) -/
def Dev.runShare (d : Dev) (n : Nat) : Nat × Nat :=
  let t := d.runTarget n
  let ps := List.range (d.nodes n)
  let pos := (ps.find? fun p => decide (d.spokeSt (8 * n + p) < t)).getD (d.nodes n)
  let sum := ps.foldl (fun a p => a + min (d.spokeSt (8 * n + p)) t) 0
  (pos, min 99 (100 * sum / (t * d.nodes n)))

/-- The targets of a transfer that have not failed. -/
def Dev.fwLive (d : Dev) (n : Nat) (x : FwXfer) : Nat := x.mask - (x.mask &&& d.rd (F.RIM_FW_STAT_FAIL n))

/-- Whether every target not yet failed has acknowledged a block. -/
def Dev.fwBlockDone (d : Dev) (n : Nat) (x : FwXfer) (b : Nat) : Bool :=
  d.fwLive n x &&& mget 0 x.acked b == d.fwLive n x

/-- POSITION and PERCENT of a transfer as they stand: the block in flight, and the share of blocks acknowledged (R140).
(DEDUCED, log 30.) -/
def Dev.fwShare (d : Dev) (n : Nat) (x : FwXfer) : Nat × Nat :=
  (x.next - 1, min 99 (100 * ((List.range x.blocks).filter (d.fwBlockDone n x)).length / max 1 x.blocks))

/-- An operation of a rim starts, 1 a discovery run or 2 a firmware transfer, and is shown. -/
def rimProgStart (n op : Nat) (x : Nat × Nat) (d : Dev) : Dev :=
  (d.setRim n { d.rim n with shown := op }).progStart (.RIM n) x.1 x.2

/-- Progress of an operation, where it is the one shown; PERCENT never falls within it (R37). -/
def rimProgAt (n op : Nat) (x : Nat × Nat) (d : Dev) : Dev :=
  d.when ((d.rim n).shown == op) fun d => d.progAt (.RIM n) x.1 (max x.2 (d.rd (F.PG_PROG_PERCENT (.RIM n))))

/-- An operation ends. Where it is the one shown and the other is still in progress, that one is shown from now on, as an
operation with a SEQ of its own. (DESIGN CHOICE, log 30.) -/
def rimProgEnd (n op : Nat) (d : Dev) : Dev :=
  if (d.rim n).shown ≠ op then d
  else match (d.rim n).run, (d.rim n).fw with
    | some _, _ => rimProgStart n 1 (d.runShare n) d
    | none, some x => rimProgStart n 2 (d.fwShare n x) d
    | none, none => (d.setRim n { d.rim n with shown := 0 }).progEnd (.RIM n)

/-- Progress of a discovery run. -/
def runProgress (n : Nat) (d : Dev) : Dev :=
  d.when (d.rim n).run.isSome (rimProgAt n 1 (d.runShare n))

/-- The registers of a rim that follow its positions' states (R131, R133, R433). -/
def rimViews (n : Nat) (d : Dev) : Dev :=
  let ps := List.range 8
  let mask (st : Nat) : Nat := ps.foldl (fun a p => if d.spokeSt (8 * n + p) = st then a + 2 ^ p else a) 0
  let present := (ps.filter fun p => d.spokeSt (8 * n + p) ≠ 0).length
  runProgress n (rimLatency n ((d.wr (F.RIM_STAT_PRESENT n) present).wr (F.PG_STAT_BLK (.RIM n))
    (mask 7 * 256 + mask 5)))

/-! ## The tandem link (R249) -/

/-- Whether a lane of the tandem link is enabled. -/
def Dev.laneUsed (d : Dev) (lane : Nat) : Bool := if lane = 0 then d.on F.TANDEM_CFG_L0_EN else d.on F.TANDEM_CFG_L1_EN

/-- A record leaves on a lane, in a frame of its own. (DESIGN CHOICE, log 69.) -/
def linkSendOn (lane : Nat) (body : List (BitVec 8)) (d : Dev) : Dev :=
  let t := d.tandem
  let q := mget 0 t.fseq lane
  { d with tandem := { t with
    fseq := mset t.fseq lane ((q + 1) % 65536)
    linkOut := t.linkOut ++ [(lane, tandemFrame d.tid d.claim q 1 body)] } }

/-- A record leaves on the lowest enabled lane of a working tandem page. (DESIGN CHOICE, log 69.) -/
def linkSend (body : List (BitVec 8)) (d : Dev) : Dev :=
  if ¬ (d.enabled (.TANDEM 0) ∧ d.domUp domTANDEM ∧ ¬ d.gateClosed 18) then d
  else match (List.range 2).find? d.laneUsed with
    | none => d
    | some lane => linkSendOn lane body d

/-! ## Configuration items (R134) and the interlock (R167) -/

/-- A configuration item goes to a position; one of the same parameter is replaced. (DEDUCED, log 36.) -/
def cfgItem (k param : Nat) (vals : List Nat) (d : Dev) : Dev :=
  let p := d.spoke k
  let d := d.setSpoke k { p with cfg := (p.cfg.filter fun i => i.param ≠ param) ++ [{ param, vals, at_ := d.now }] }
  sendCfg (rimOf k) (.cfg (posOf k) param vals) d

/-- WDOG as sent (`SPOKEk.WDOG`). -/
def Dev.wdogVal (d : Dev) (k : Nat) : Nat := clampTo 2000 64000 (d.rd (F.SPOKE_WDOG_WDOG k))

/-- INTERLOCK as it acts: below 20 acts as 20. -/
def Dev.ilkVal (d : Dev) (k : Nat) : Nat := max 20 (d.rd (F.SPOKE_WDOG_INTERLOCK k))

/-- The values of WDOG, SAFE and TYPEPAR0-15 as they would be sent. -/
def Dev.cfgVals (d : Dev) (k : Nat) : List Nat :=
  d.wdogVal k :: d.rd (F.SPOKE_SAFE_STATE_SAFE k) :: (List.range 16).map fun i => d.rd (F.SPOKE_PAR_VAL k i)

/-- The parameter of an element of `cfgVals` (R120). -/
def cfgParam (i : Nat) : Nat := if i < 2 then i + 1 else 0x100 + (i - 2)

/-- The interlock that the scheduler holds or takes at the next commit. -/
def SpokeState.ilkNext (p : SpokeState) : Nat := p.ilkCommit.getD p.interlock

/-- The oldest waiting interlock change begins: an increase is in force from the next commit, its CFG follows later; a
decrease is sent at once (R167). A change to the value that holds already is none. (DEDUCED, log 36, 37.) -/
def ilkBegin (k : Nat) : Nat → Dev → Dev
  | 0, d => d
  | fuel + 1, d =>
    let p := d.spoke k
    match p.ilkCur, p.ilkQ with
    | none, v :: rest =>
      let p := { p with ilkQ := rest }
      if p.ilkNext < v then d.setSpoke k { p with ilkCur := some v, ilkUp := true, ilkCommit := some v, ilkAt := d.now }
      else if v < p.ilkNext then cfgItem k 4 [v] (d.setSpoke k { p with ilkCur := some v, ilkUp := false })
      else ilkBegin k fuel (d.setSpoke k p)
    | _, _ => d

/-- A change of INTERLOCK at a position that is CONFIGURED or later (R167, R255). (DEDUCED, log 37, 38.) -/
def ilkChange (k v : Nat) (d : Dev) : Dev :=
  let p := d.spoke k
  if d.shadow k then d.setSpoke k { p with ilkCommit := some v, ilkAt := d.now, ilkCur := none, ilkUp := false, ilkQ := [] }
  else
    let q := p.ilkQ ++ [v]
    ilkBegin k (q.length + 1) (d.setSpoke k { p with ilkQ := q })

/-- The last value of INTERLOCK that a write has asked for. -/
def SpokeState.ilkLast (p : SpokeState) : Nat := p.ilkQ.getLast?.getD (p.ilkCur.getD p.ilkNext)

/-- Elements of `cfgVals` go out as CFG (R134), and a change of INTERLOCK under R167; a position in shadow is sent
nothing (R255). (DEDUCED, log 36, 38.) -/
def sendVals (k : Nat) (is : List Nat) (d : Dev) : Dev :=
  let new := d.cfgVals k
  let d := d.when (!d.shadow k) fun d => d.each is fun i d => cfgItem k (cfgParam i) [new.getD i 0] d
  let d := d.setSpoke k { d.spoke k with sent := new }
  d.when (d.ilkVal k != (d.spoke k).ilkLast) (ilkChange k (d.ilkVal k))

/-- Values changed since they were last sent go out. -/
def sendChanged (k : Nat) (d : Dev) : Dev :=
  sendVals k ((List.range 18).filter fun i => (d.cfgVals k).getD i 0 != (d.spoke k).sent.getD i 0) d

/-! ## States of positions (R133) -/

/-- The state and cause of a position change. -/
def putState (k st cause : Nat) (d : Dev) : Dev :=
  let d := d.when (d.spokeSt k != st) fun d => d.wr (F.RIM_EVT_SPOKE_CHANGE (rimOf k)) 1
  rimViews (rimOf k) ((d.wr (F.SPOKE_STATE_STATE k) st).wr (F.SPOKE_STATE_CAUSE k) cause)

/-- FAILED with a cause: what was under way to the position ends. -/
def failSpoke (cause k : Nat) (d : Dev) : Dev :=
  let p := d.spoke k
  putState k 7 cause (d.setSpoke k { p with cfg := [], init := false, pend := [], echoes := [], restarting := false
                                            calDone := false, ilkCur := none, ilkQ := [], ilkUp := false })

/-- ABSENT: the position is rediscovered from nothing. The scheduler's interlock stands, and so do the faults that its
node has reported (R139). -/
def absentSpoke (k : Nat) (d : Dev) : Dev :=
  let p := d.spoke k
  putState k 0 0 (d.setSpoke k { interlock := p.interlock, ilkCommit := p.ilkCommit, ilkAt := p.ilkAt
                                 faults := p.faults, acked := p.acked })

/-- CONFIGURED is entered: calibration starts (R129), and values written since the configuration was sent go out. In
shadow the interlock written is in force from the next commit (R255). (DEDUCED, log 38.) -/
def enterConfigured (k : Nat) (d : Dev) : Dev :=
  let p := d.spoke k
  let d := d.setSpoke k { p with
    echoes := [], pend := [], lost := 0, calDone := false, discards := 0, init := false, lastTag := 65536
    cfg := if d.shadow k then [] else p.cfg
    sent := if d.shadow k then d.cfgVals k else p.sent }
  sendChanged k (putState k 3 0 d)

/-- IDENTIFIED is entered: the initial CFG goes out, with which every pending interlock change is void (R167); in
shadow CONFIGURED follows at once (R255). (DEDUCED, log 36.) -/
def enterIdentified (k : Nat) (d : Dev) : Dev :=
  let d := putState k 2 0 d
  let p := { d.spoke k with restarting := false, ilkCur := none, ilkQ := [], ilkUp := false, cfg := [] }
  if d.shadow k then enterConfigured k (d.setSpoke k p)
  else
    let vals := d.cfgVals k
    let d := d.setSpoke k { p with init := true, sent := vals, ilkCommit := none }
    let d := cfgItem k 1 [d.wdogVal k, d.rd (F.SPOKE_SAFE_STATE_SAFE k), periodNs d.distCode,
      d.ilkVal k] d
    cfgItem k 0x100 (vals.drop 2) d

/-- BYPASS open and the RELEASE that admits the position, with the LEGS of its latest HELLO (R133, R135). -/
def sendAdmit (k : Nat) (d : Dev) : Dev :=
  sendCfg (rimOf k) (.release (posOf k) (d.spoke k).legs) (sendCfg (rimOf k) (.bypass (posOf k) 2) d)

/-- ADMITTED is entered by the unit's own records. -/
def admitSpoke (k : Nat) (d : Dev) : Dev := putState k 5 0 (sendAdmit k d)

/-- LEGS and BYP of the latest NSTAT (R122). -/
def Dev.nodeLegs (d : Dev) (k : Nat) : Nat := bitsOf (d.rd (F.SPOKE_NSTAT_VAL k)) 8 4
/-- BYP of the latest NSTAT (R122). -/
def Dev.nodeByp (d : Dev) (k : Nat) : Bool := bitAt (d.rd (F.SPOKE_NSTAT_VAL k)) 3

/-- UID and TYPE match `XUID` and `XTYPE`, where 0 matches any (R133). -/
def Dev.matches (d : Dev) (k : Nat) : Bool :=
  let ok (x v : Nat) : Bool := x == 0 || x == v
  ok (d.rd (F.SPOKE_XUID_LO_VAL k)) (d.rd (F.SPOKE_UID_LO_VAL k)) &&
  ok (d.rd (F.SPOKE_XUID_HI_VAL k)) (d.rd (F.SPOKE_UID_HI_VAL k)) &&
  ok (d.rd (F.SPOKE_XTYPE_VAL k)) (d.rd (F.SPOKE_TYPE_VAL k))

/-- ASSIGN is sent to a DISCOVERED position whose node is not in shadow (R133, R255). -/
def assignSpoke (k : Nat) (d : Dev) : Dev :=
  d.when (d.spokeSt k == 1 && !d.shadow k) fun d =>
    let d := d.setSpoke k { d.spoke k with assigned := true }
    sendCfg (rimOf k) (.assign (d.rd64 (F.SPOKE_UID_LO_VAL k) (F.SPOKE_UID_HI_VAL k)) (posOf k)) d

/-- Whether the HELLO window of a discovery run is open on a rim. -/
def Dev.windowOpen (d : Dev) (n : Nat) : Bool :=
  match (d.rim n).run with
  | some r => r.window
  | none => false

/-- The standing conditions of a position, judged after its claim, NSTAT or the rim's settings have changed: those of
R255 in shadow, else the admission of R133 and an ASSIGN that is owed. -/
def settle (k : Nat) (d : Dev) : Dev :=
  let st := d.spokeSt k
  if d.shadow k then
    if st = 2 then enterConfigured k d
    else if (st = 4 ∨ st = 5) ∧ d.nodeByp k then putState k 6 0 d
    else if (st = 4 ∨ st = 6) ∧ d.nodeLegs k ≠ 0 ∧ ¬ d.nodeByp k then putState k 5 0 d
    else d
  else if st = 4 ∧ d.on (F.RIM_CTRL_AUTO_ADMIT (rimOf k)) then admitSpoke k d
  else if st = 1 ∧ ¬ (d.spoke k).assigned ∧ ¬ d.windowOpen (rimOf k) then assignSpoke k d
  else d

/-! ## Discovery runs (R133) -/

/-- DISCOVER is sent, which opens the window of a run. -/
def sendDiscover (n : Nat) (d : Dev) : Dev :=
  let r := d.rim n
  sendCfg n (.discover r.dtag) (d.setRim n { r with
    dtag := (r.dtag + 1) % 65536
    run := r.run.map fun x => { x with sent := true, sentAt := d.now, window := true } })

/-- A discovery run starts; one in progress goes on. -/
def startRun (n : Nat) (d : Dev) : Dev :=
  if (d.rim n).run.isSome ∨ ¬ d.rimRuns n then d
  else
    let d := d.setRim n { d.rim n with run := some { start := d.now } }
    let d := rimProgStart n 1 (d.runShare n) ((d.wr (F.RIM_CTRL_DISCOVER n) 1).wr (F.RIM_STAT_DISC_BUSY n) 1)
    d.when (d.on (F.RIM_STAT_RXLOCK n)) (sendDiscover n)

/-- The RESCAN commands of a rim's positions are no longer waiting: their DISCOVER has left, or their run has ended
without one. -/
def rescanSent (n : Nat) (d : Dev) : Dev := d.each (spokesOf n) fun k d => d.wr (F.SPOKE_CTRL_RESCAN k) 0

/-- A discovery run is over (R133). -/
def runOver (n : Nat) (d : Dev) : Dev :=
  let d := d.setRim n { d.rim n with run := none }
  rimProgEnd n 1 (((d.wr (F.RIM_CTRL_DISCOVER n) 0).wr (F.RIM_STAT_DISC_BUSY n) 0).wr (F.RIM_EVT_DISC_DONE n) 1)

/-- A discovery run ends; a RESCAN that came during it, or a DISCOVER written at this very instant (R5), starts another. -/
def endRun (n : Nat) (d : Dev) : Dev :=
  match (d.rim n).run with
  | none => d
  | some r =>
    let again := r.again || d.againOne (.RIM_CTRL n) 8
    let d := runOver n (runProgress n d)
    if again then startRun n d else rescanSent n d

/-- A firmware transfer is over: a failed target sets FW_FAIL (R140). -/
def fwOver (n : Nat) (d : Dev) : Dev :=
  let d := d.setRim n { d.rim n with fw := none }
  let d := (((d.wr (F.RIM_FW_CTRL_START n) 0).wr (F.RIM_FW_CTRL_ABORT n) 0).wr (F.RIM_STAT_FW_BUSY n) 0).wr
    (F.RIM_EVT_FW_DONE n) 1
  rimProgEnd n 2 (d.when (d.on (F.RIM_FW_STAT_FAIL n)) fun d => d.blkErr (.RIM n) 20)

/-! ## Claim learning (R247) -/

/-- A rim that learns sends its DISCOVER as soon as it has block lock. -/
def learnRim (n : Nat) (d : Dev) : Dev :=
  if d.on (F.RIM_STAT_RXLOCK n) then
    let r := d.rim n
    let d := sendCfg n (.discover r.dtag) (d.setRim n { r with dtag := (r.dtag + 1) % 65536 })
    { d with tandem := { d.tandem with learnDisc := clearBitAt d.tandem.learnDisc n } }
  else { d with tandem := { d.tandem with learnDisc := setBitAt d.tandem.learnDisc n } }

/-- Learning starts (R247). -/
def learnStart (d : Dev) : Dev :=
  let d := setRole 1 { d with tandem := { d.tandem with
    learnAt := d.now, partnerSeen := false, hbInLearn := false, learnDisc := 0 } }
  d.each ((List.range 32).filter d.rimOn) learnRim

/-- The first enable of a rim page or of TANDEM page 0 after a reset, with AUTO set (R247). -/
def learnOnEnable (d : Dev) : Dev :=
  d.when (d.tandem.learnArmed && d.on F.SAFE_CLAIM_CTRL_AUTO) fun d =>
    learnStart { d with tandem := { d.tandem with learnArmed := false } }

/-! ## Enabling and disabling a rim (R133, R433) -/

/-- `PG_CTRL.ENABLE` of a rim rises. -/
def rimEnable (n : Nat) (d : Dev) : Dev :=
  let r := d.rim n
  let d := (d.setRim n { r with
    enabledAt := d.now, everLock := false, lockAt := d.now, rescanAt := d.now, frameDue := true
    pairDue := d.blockInForce n }).wr (F.RIM_STAT_TXON n) 1
  let learning := d.role == 1
  let d := learnOnEnable d
  startRun n (d.when learning (learnRim n))

/-- `PG_CTRL.ENABLE` of a rim falls (R433): a run and a transfer in progress end, every position becomes ABSENT, and
`EVT.SPOKE_CHANGE` is set. Edges that wait in the rim's queue keep their place (R23). -/
def rimDisable (n : Nat) (d : Dev) : Dev :=
  let d := d.setRim n { cutFrame n d |>.rim n with
    pairDue := false, frameDue := false, samples := [], back := [], peerCycle := none, freeAt := d.blockEdge n }
  let d := d.when (d.rim n).run.isSome (runOver n)
  let d := d.when (d.rim n).fw.isSome (fwOver n)
  let d := d.setRim n { d.rim n with qTime := [], qCfg := [], qFw := [] }
  let d := d.each (spokesOf n) fun k d => (absentSpoke k d).setWord (.SPOKE_CTRL k) 0
  let d := d.wr (F.RIM_EVT_SPOKE_CHANGE n) 1
  let d := d.when (d.on (F.RIM_STAT_RXLOCK n)) fun d => d.wr (F.RIM_EVT_LINK_CHANGE n) 1
  let d := (((d.wr (F.RIM_STAT_TXON n) 0).wr (F.RIM_STAT_RXLOCK n) 0).wr (F.RIM_STAT_SIDE_VALID n) 0).wr
    (F.RIM_STAT_PEER n) 0
  let d := { d with tandem := { d.tandem with peerAt := merase d.tandem.peerAt n } }.setBit F.TANDEM_SILENT_RIMS n
  rimViews n d

end Sys2Proof.Machine
end

