-- ==== Sys2Proof/Machine/Adc.lean ====
section
/-!
DEFINITION. Sys2Proof/Machine/Adc.lean: the converters: slots and boundaries (R180, R181), channels, reference and
result formats (R182 to R187, R434), select queues, triggers and injected selects (R188 to R194), pairs (R195, R196),
check DACs and diagnosis (R197, R198), calibration and hand-over (R200, R201), over-range and recovery (R202 to R204).
Voltages are in nV.
-/
namespace Sys2Proof.Machine

/-! ## Converters and their clock -/

/-- A converter. -/
def Dev.conv (d : Dev) (c : Nat) : AdcConv := mget {} d.adc.convs c

/-- The partner of a converter. -/
def partner (c : Nat) : Nat := if c % 2 = 0 then c + 1 else c - 1

/-- The pair of a converter. -/
def pairOf (c : Nat) : Nat := c / 2

/-- The page of a converter, and that of a pair (R205). -/
def convPage (c : Nat) : Page := .ADC (1 + c)
/-- The page of a pair. -/
def pairPage (p : Nat) : Page := .ADC (17 + p)

/-- The period of ADCCLK in ps; 0 where it is stopped. (DESIGN CHOICE, log 8.) -/
def Dev.adcPs (d : Dev) : Nat := (d.domPs 4).getD 0

/-- Whether a converter works: its page enabled, ANALOG up, ADCCLK running and its gate open (R76). -/
def Dev.convRuns (d : Dev) (c : Nat) : Bool :=
  d.enabled (convPage c) && d.domUp domANALOG && d.adcPs != 0 && !d.gateClosed (19 + c / 8)

/-- The first rising edge of ADCCLK at or after an instant, in ps (R58, R181). -/
def Dev.adcEdgePs (d : Dev) (t : Nat) : Nat :=
  let p := max 1 d.adcPs
  t + (d.outEdge (domOut 4) % p + p - t % p) % p

/-- The same in ns. -/
def Dev.adcEdge (d : Dev) (t : Nat) : Nat := (d.adcEdgePs (1000 * t) + 999) / 1000

/-- ADCCLK cycles in ns. -/
def Dev.adcNs (d : Dev) (n : Nat) : Nat := (n * d.adcPs + 999) / 1000

/-- The first ADCCLK edge after an instant in ns: the end of its ADCCLK cycle, in ps. -/
def Dev.adcCycleEnd (d : Dev) (t : Nat) : Nat := d.adcEdgePs (1000 * t + 1)

/-- The converter that does the work of `c`: its partner while a hand-over lasts (R201). -/
def Dev.carrier (d : Dev) (c : Nat) : Nat := if (d.conv c).handed then partner c else c

/-- The registers that show a converter (R188, R195, R201). -/
def convViews (c : Nat) (d : Dev) : Dev :=
  let x := d.conv c
  let carried (c : Nat) : Bool := (d.conv c).handed
  let front := x.queue.head?.getD x.last
  let d := d.setWord (.ADC_SEL c) (front % 2 ^ 16 + (if x.queue.isEmpty then 2 ^ 31 else 0))
  let d := (d.wr (F.ADC_QSTAT_COUNT c) x.queue.length).wr (F.ADC_FSTAT_LEVEL c) x.fifo.length
  let d := ((d.wr (F.ADC_STAT_BUSY c) (b2n x.slot.isSome)).wr (F.ADC_STAT_WAIT_PAIR c)
    (b2n (x.wait.isSome && x.slot.isNone)))
  (d.wr (F.ADC_STAT_CARRIED c) (b2n (carried c))).wr (F.ADC_STAT_CARRYING c) (b2n (carried (partner c)))

/-- Replaces a converter, with the registers that show it. -/
def Dev.setConv (d : Dev) (c : Nat) (x : AdcConv) : Dev :=
  convViews c { d with adc := { d.adc with convs := mset d.adc.convs c x } }

/-- An event of a converter: a pulse of source 50 + c where its bit becomes 1 and is enabled. -/
def adcEvent (c : Nat) (ev en : Nat → FRef) (d : Dev) : Dev := d.eventPulse (ev c) (en c) (50 + c)

/-! ## Channels and formats (R182 to R186, R434) -/

/-- Fields of a select word (`ADCc.SEL`). -/
def selChan (s : Nat) : Nat := s % 128
/-- `ACQ` of a select. -/
def selAcq (s : Nat) : Nat := bitsOf s 8 6
/-- `PAIRED` of a select. -/
def selPaired (s : Nat) : Bool := bitAt s 14
/-- `DIAG` of a select. -/
def selDiag (s : Nat) : Bool := bitAt s 15

/-- A channel code that R182 lists. -/
def chanOk (ch : Nat) : Bool := decide (ch ≤ 0x47) || decide (0x50 ≤ ch ∧ ch ≤ 0x53)

/-- A differential channel. -/
def chanSigned (ch : Nat) : Bool := decide (0x30 ≤ ch ∧ ch ≤ 0x47)

/-- The mux group of a channel. -/
def chanGroup (ch : Nat) : Option Nat :=
  if ch < 0x30 then some (ch / 8) else if ch ≤ 0x47 then some ((ch - 0x30) / 4) else none

/-- Bits of a resolution code. -/
def resBits (res : Nat) : Nat := if res = 0 then 16 else if res = 1 then 14 else 12

/-- Cycles of the base acquisition (R180). -/
def baseAcq (res : Nat) : Nat := if res = 0 then 4 else if res = 1 then 3 else 2

/-- Cycles of a conversion phase at a place of its repeating pattern (R180). -/
def convCycles (res pat : Nat) : Nat :=
  if res = 0 then 16 else if res = 1 then (if pat % 3 = 2 then 13 else 14) else if pat % 3 = 0 then 12 else 11

/-- The input lies outside its span by more than 2 mV: above, or below (R185). -/
def overRange (signed : Bool) (v vref : Int) : Option Bool :=
  if vref + 2000000 < v then some true
  else if v < (if signed then -vref else 0) - 2000000 then some false
  else none

/-- The DATA field of a conversion (R184, R185): its OVR and its value. (DESIGN CHOICE, log 49.) -/
def dataOf (signed : Bool) (res : Nat) (align : Bool) (v vref : Int) : Bool × Nat :=
  match overRange signed v vref with
  | some above => (true, if signed then (if above then 0x7FFF else 0x8000) else if above then 0xFFFF else 0)
  | none =>
    let n := resBits res
    let full : Int := if signed then (2 ^ (n - 1) : Nat) else (2 ^ n : Nat)
    let lo : Int := if signed then -full else 0
    let code := min (full - 1) (max lo (v * full / max 1 vref))
    (false, if align then unsignedOf n code * 2 ^ (16 - n) else unsignedOf 16 code)

/-- The 16-bit left-aligned form of a result word made with the form RES + 4 × ALIGN (R434), as a number with the
sign of its channel. -/
def leftForm (word form : Nat) : Int :=
  let data := word % 2 ^ 16
  let x := if bitAt word 16 ∨ 4 ≤ form then data else data * 2 ^ (16 - resBits (form % 4)) % 2 ^ 16
  if chanSigned (bitsOf word 20 7) then signedOf 16 x else (x : Int)

/-- The voltage of a channel at a hold instant: the internal ones follow from VREF, a check DAC that has settled stays
within 2 LSB of its code, the others are measured (R182, R197). (DEDUCED, log 50.) -/
def Dev.chanVolt (d : Dev) (x ch hold : Nat) (v vref : Int) : Int :=
  let p := pairOf x
  let code : Int := d.rd (F.ADC_DAC_CODE p)
  if ch = 0x51 then vref / 2
  else if ch = 0x52 then 0
  else if ch ≠ 0x50 then v
  else if d.rd (F.ADC_DAC_MODE p) = 0 then 0
  else if mget 0 d.adc.dacAt p + 2000 ≤ hold then max ((code - 2) * vref / 4096) (min v ((code + 2) * vref / 4096))
  else v

/-! ## The select queue (R188, R189) -/

/-- A new front is tracked from the next ADCCLK cycle on. -/
def retrack (c : Nat) (d : Dev) : Dev :=
  let x := d.conv c
  d.when x.slot.isNone fun d => d.setConv c { x with trackAt := d.adcEdge (d.now + 1) }

/-- The resolution in force of a converter (R180). -/
def Dev.adcRes (d : Dev) (c : Nat) : Nat := d.code (F.ADC_FMT_RES c) [0, 1, 2]

/-- `MODE` as a converter's registers hold it (R190). -/
def Dev.adcMode (d : Dev) (c : Nat) : Nat := d.code (F.ADC_CTRL_MODE c) [0, 1, 2]

/-- The select that an idle converter tracks (R181). -/
def AdcConv.front (x : AdcConv) : Nat := x.queue.head?.getD x.last

/-- The hold instant in ps of an idle converter's next queued conversion: the end of the acquisition counted from the start
of tracking, and not before the next edge (R181, R190). (DEDUCED, log 44.) -/
def Dev.idleHold (d : Dev) (c : Nat) : Nat :=
  let x := d.conv c
  max (d.adcEdgePs (1000 * x.trackAt + (baseAcq (d.adcRes c) + selAcq x.front) * d.adcPs)) (d.adcEdgePs (1000 * d.now))

/-- Queued work of a converter is due: CONTINUOUS, or a burst in progress (R190). -/
def Dev.queuedDue (d : Dev) (o : Nat) : Bool :=
  d.enabled (convPage o) && ((d.conv o).mode == 2 || decide (0 < (d.conv o).burst))

/-- A queued conversion of a converter takes an entry out of its queue in the ADCCLK cycle of the present instant, at a
boundary that is still to be told (R188). -/
def Dev.popDue (d : Dev) (c : Nat) : Bool :=
  let x := d.carrier c
  let s := d.conv x
  let here (t : Nat) : Bool := d.adcCycleEnd t == d.adcCycleEnd d.now
  d.convRuns x && !d.on (F.ADC_CTRL_RING c) && d.queuedDue c && d.adcMode c != 0 && s.inj.isNone && (d.conv c).inj.isNone &&
    !s.calReq && s.wait.isNone &&
    here (match s.slot with | some k => k.endAt | none => (d.idleHold x + 999) / 1000)

/-- A write to `ADCc.SEL`. A push into a full queue in the cycle of a pop comes after it (R188). -/
def selWrite (c : Nat) : Effect := fun _ v _ d =>
  let x := d.conv c
  let bad := !chanOk (selChan v)
  let full := decide (8 ≤ x.queue.length) && !(x.queue.length == 8 && d.popDue c)
  if d.basicLocked (convPage c) then d
  else if bad ∨ full then
    (d.when bad fun d => d.blkErr (convPage c) 18).when full fun d => d.blkErr (convPage c) 16
  else
    let d := d.setConv c { x with
      queue := x.queue ++ [v % 2 ^ 16 - bitsOf v 7 1 * 2 ^ 7], pushAt := d.now
      pushN := if d.adcCycleEnd x.pushAt = d.adcCycleEnd d.now then x.pushN + 1 else 1 }
    d.when x.queue.isEmpty (retrack c)

/-- SEL_PUSH (R188). -/
def execSelPush (m : Nat) (c : Fin 16) (v : Word) : State → Out := writeRow (selWrite c) m (.ADC_SEL c) v.toNat

/-- The queue is emptied; the last select stays. -/
def flushQueue (c : Nat) (d : Dev) : Dev :=
  let x := d.conv c
  (d.setConv c { x with queue := [], pushN := 0 }).when (!x.queue.isEmpty) (retrack c)

/-- The select that a queued conversion takes, whether it is a repeat, and the converter after it; the last `late`
entries were pushed in the cycle of the pop, which acts first (R188, R189). -/
def AdcConv.pop (x : AdcConv) (ring : Bool) (late : Nat) : Nat × Bool × AdcConv :=
  let n := x.queue.length - late
  match x.queue.take n with
  | [] => (x.last, true, x)
  | s :: rest => (s, false, { x with queue := rest ++ (if ring then [s] else []) ++ x.queue.drop n, last := s })

/-! ## Slots (R180, R181, R195, R201, R202) -/

/-- A slot of converter `x` for the work of `o` begins, with its acquisition from `start` and its hold not before
`least`, both in ps, nor before the present. -/
def beginSlot (x o sel : Nat) (inj qempty plaus paired : Bool) (start least : Nat) (d : Dev) : Dev :=
  let c := d.conv x
  let res := d.adcRes o
  let pat := if c.idle || c.patRes != res then 0 else c.pat
  let acqEnd := d.adcEdgePs (start + (baseAcq res + selAcq sel) * d.adcPs)
  let hold := max (max acqEnd least) (d.adcEdgePs (1000 * d.now))
  let g := chanGroup (selChan sel)
  let left := match g with
    | some g => mget 0 c.recov g
    | none => 0
  let marked := match g with
    | some g => decide (0 < left) || d.bit F.ADC_GRPINJ_ACTIVE g
    | none => false
  let recov := match g with
    | some g => if 0 < left then mset c.recov g (left - 1) else c.recov
    | none => c.recov
  let s : AdcSlot :=
    { owner := o, sel, inj, qempty, res, align := d.on (F.ADC_FMT_ALIGN o), ts := d.on (F.ADC_FMT_TS o)
      endAt := (hold + convCycles res pat * d.adcPs + 999) / 1000, stamp := (d.jumpTo (hold / 1000)).tbNs, plaus, paired
      holdAt := (hold + 999) / 1000, acq := hold - start
      recov := marked, undef := marked || (c.overV && decide (hold - start < 100000)), last := !inj && (d.conv o).burst == 1 }
  let d := d.setConv x { c with slot := some s, pat := pat + 1, patRes := res, recov, idle := false, overV := false }
  let own := d.conv o
  d.when (!inj && decide (0 < own.burst)) fun d => d.setConv o { own with burst := own.burst - 1 }

/-- Both members of a pair that wait hold on the same edge (R195). (DEDUCED, log 48.) -/
def tryJoin (x : Nat) (d : Dev) : Dev :=
  let p := partner x
  match (d.conv x).wait, (d.conv p).wait with
  | some a, some b =>
    if (d.conv x).slot.isSome ∨ (d.conv p).slot.isSome then d
    else
      let acq (c s at_ : Nat) : Nat := d.adcEdgePs (1000 * at_ + (baseAcq (d.adcRes c) + selAcq s) * d.adcPs)
      let hold := max (max (acq x a.sel a.track) (acq p b.sel b.track)) (d.adcEdgePs (1000 * d.now))
      let d := d.setConv x { d.conv x with wait := none }
      let d := d.setConv p { d.conv p with wait := none }
      let d := beginSlot x x a.sel false a.qempty false true (1000 * a.track) hold d
      beginSlot p p b.sel false b.qempty false true (1000 * b.track) hold d
  | _, _ => d

/-- A burst ends. (DEDUCED, log 46.) -/
def burstDone (o : Nat) (d : Dev) : Dev := adcEvent o F.ADC_EVT_BURST_DONE F.ADC_EVTEN_BURST_DONE d

/-- A converter goes idle at a boundary: it tracks its next select from then on (R181). -/
def goIdle (x : Nat) (d : Dev) : Dev :=
  let c := d.conv x
  d.when (!c.idle) fun d => d.setConv x { c with trackAt := d.now, other := false, idle := true }

/-- Entries pushed in the ADCCLK cycle of the present instant. -/
def Dev.latePushes (d : Dev) (o : Nat) : Nat :=
  let c := d.conv o
  if d.adcCycleEnd c.pushAt = d.adcCycleEnd d.now then c.pushN else 0

/-- A queued conversion for `o` on converter `x`, acquired from `start` and held not before `least`
(R188, R189, R195, R201). (DEDUCED, log 44, 45, 46.) -/
def queuedSlot (x o start least : Nat) (d : Dev) : Dev :=
  let c := d.conv o
  let r := c.pop (d.on (F.ADC_CTRL_RING o)) (d.latePushes o)
  let alone := x != o || (d.conv (partner x)).cal.isSome
  if r.2.1 ∧ d.on (F.ADC_XCFG_SKIP_EMPTY o) then
    let d := adcEvent o F.ADC_EVT_QEMPTY F.ADC_EVTEN_QEMPTY d
    goIdle x (d.when (decide (0 < c.burst)) fun d => burstDone o (d.setConv o { c with burst := 0 }))
  else
    let d := d.setConv o r.2.2
    let d := d.when r.2.1 (adcEvent o F.ADC_EVT_QEMPTY F.ADC_EVTEN_QEMPTY)
    if selPaired r.1 ∧ ¬ alone then
      tryJoin x (d.setConv x { d.conv x with wait := some ⟨r.1, r.2.1, start / 1000, d.adcEdge d.now⟩ })
    else
      let d := d.when (selPaired r.1) fun d => d.count (F.ADC_PSTAT_SKIPPED (pairOf x))
      beginSlot x o r.1 false r.2.1 false false start least d

/-- An injected conversion for `o` on converter `x`, acquired from `start`. -/
def injSlot (x o start : Nat) (d : Dev) : Dev :=
  let c := d.conv o
  let d := d.setConv o { c with inj := none }
  beginSlot x o (c.inj.getD 0x52) true false false false start 0 d

/-- Queued work that begins on converter `x` is kept with what stood before it (R191). -/
def noteUndo (x : Nat) (was d : Dev) : Dev :=
  match (d.conv x).slot with
  | none => d
  | some s =>
    let p := partner x
    let u : AdcUndo :=
      { till := d.adcCycleEnd d.now, own := was.conv x, mate := was.conv p, slot := s
        ownLen := (d.conv x).queue.length, mateLen := (d.conv p).queue.length
        qempty := was.rd (F.ADC_EVT_QEMPTY s.owner), skipped := was.rd (F.ADC_PSTAT_SKIPPED (pairOf x)) }
    { d with adc := { d.adc with undo := mset d.adc.undo x u } }

/-- A converter as it was before a slot began; entries pushed since stay in its queue. -/
def AdcConv.back (was now_ : AdcConv) (len : Nat) : AdcConv :=
  { now_ with
    queue := was.queue ++ now_.queue.drop len, last := was.last, burst := was.burst, wait := was.wait, pat := was.pat
    patRes := was.patRes, idle := was.idle, other := was.other, trackAt := was.trackAt, overV := was.overV
    recov := was.recov }

/-- An injected select of `o` that lands in the ADCCLK cycle of a boundary is taken at that boundary: a queued slot that
began there gives way to it, with its entry (R191, R192). (DEDUCED, log 45.) -/
def injTakesOver (o : Nat) (d : Dev) : Dev :=
  let x := d.carrier o
  let p := partner x
  match d.adc.undo.find? fun e => e.1 == x with
  | none => d
  | some (_, u) =>
    if (d.conv x).slot ≠ some u.slot ∨ u.till ≤ 1000 * d.now then d
    else
      let own := { u.own.back (d.conv x) u.ownLen with slot := none }
      let mate := u.mate.back (d.conv p) u.mateLen
      let d := d.setConv x own
      let d := d.when (u.slot.paired || u.slot.owner == p) fun d =>
        d.setConv p (if u.slot.paired then { mate with slot := none } else mate)
      let d := d.when u.slot.qempty fun d => d.wr (F.ADC_EVT_QEMPTY u.slot.owner) u.qempty
      injSlot x o (u.till - d.adcPs) (d.wr (F.ADC_PSTAT_SKIPPED (pairOf x)) u.skipped)

/-- A converter chooses its next slot at a boundary (R181, R191, R201). An idle one begins its own queued work at the hold
instant, and a paired select at the boundary. (DEDUCED, log 44.) -/
def chooseSlot (x : Nat) (d : Dev) : Dev :=
  let p := partner x
  let carry := (d.conv p).handed
  let c := d.conv x
  let start := 1000 * d.now
  if c.inj.isSome then injSlot x x start d
  else if carry ∧ (d.conv p).inj.isSome then injSlot x p start d
  else
    let mine := d.queuedDue x
    let theirs := carry && d.queuedDue p
    if mine ∧ (¬ theirs ∨ c.other ∨ c.idle) then
      if c.idle then
        let hold := if selPaired c.front ∧ (d.conv p).cal.isNone then start else d.idleHold x
        let d := d.jumpTo ((hold + 999) / 1000)
        noteUndo x d (queuedSlot x x (1000 * c.trackAt) hold (d.setConv x { c with other := false }))
      else noteUndo x d (queuedSlot x x start 0 (d.setConv x { c with other := false }))
    else if theirs then noteUndo x d (queuedSlot x p start 0 (d.setConv x { c with other := true }))
    else goIdle x d

/-- The slot in progress ends: its result is due 4 cycles later. -/
def endSlot (x : Nat) (d : Dev) : Dev :=
  let c := d.conv x
  match c.slot with
  | none => d.jumpTo (d.adcEdge d.now)
  | some s =>
    let d := d.jumpTo s.endAt
    let d := d.setConv x { c with slot := none, done := c.done ++ [s] }
    match c.wait with
    | some w => d.setConv x { d.conv x with wait := some { w with track := d.now, since := d.now } }
    | none => d

/-- MODE applies at a boundary; OFF abandons a burst (R190). -/
def takeMode (o : Nat) (d : Dev) : Dev :=
  let c := d.conv o
  let m := d.adcMode o
  d.setConv o { c with mode := m, burst := if m = 1 then c.burst else 0 }

/-- A calibration begins: the partner carries the converter's work (R200, R201). A partner that waits for it converts
alone. -/
def calBegin (x : Nat) (d : Dev) : Dev :=
  let c := d.conv x
  let p := partner x
  let d := d.setConv x { c with cal := some d.now, handed := true, calReq := false }
  let d := ((d.wr (F.ADC_CAL_BUSY x) 1).wr (F.ADC_CAL_CAL_PEND x) 0).progStart (convPage x) 0 0
  match (d.conv p).wait with
  | none => convViews p d
  | some w =>
    let d := (d.setConv p { d.conv p with wait := none }).count (F.ADC_PSTAT_SKIPPED (pairOf x))
    beginSlot p p w.sel false w.qempty false false (1000 * w.track) (1000 * d.now) d

/-- A conversion boundary of converter `x` (R181). (DEDUCED, log 45.) -/
def boundary (x : Nat) (d : Dev) : Dev :=
  if (d.conv x).cal.isSome ∨ ¬ d.convRuns x then d
  else
    let d := takeMode x (endSlot x d)
    let d := d.when (d.conv (partner x)).handed (takeMode (partner x))
    let c := d.conv x
    if c.calReq ∧ c.inj.isNone ∧ c.wait.isNone then calBegin x d
    else if c.wait.isSome then (if c.inj.isSome then injSlot x x (1000 * d.now) d else tryJoin x d)
    else chooseSlot x d

/-- CONVERSION_BOUNDARY (R181). -/
def execConversionBoundary (c : Fin 16) : State → Out := liftDev (boundary c)

/-- PAIR_TIMEOUT (R195): 64 ADCCLK cycles of waiting. (DEDUCED, log 48.) -/
def execPairTimeout (c : Fin 16) : State → Out := liftDev fun d =>
  let x := d.conv c
  match x.wait with
  | none => d
  | some w =>
    if x.slot.isSome ∨ ¬ d.convRuns c then d
    else
      let d := d.jumpTo (w.since + d.adcNs 64)
      let d := (d.setConv c { x with wait := none }).wr (F.ADC_PEVT_PAIR_TIMEOUT (pairOf c)) 1
      beginSlot c c w.sel false w.qempty true false (1000 * w.track) (d.adcEdgePs (1000 * d.now)) (d.latch 41)

/-! ## Triggers (R190) -/

/-- A trigger reaches a converter: an idle TRIGGERED converter starts a burst, whose first conversion begins at its boundary
row. Several triggers in one tick are one. (DEDUCED, log 44, 45.) -/
def adcTrigger (c : Nat) (d : Dev) : Dev :=
  let x := d.conv c
  let carried := x.handed
  let p := d.conv (partner c)
  let served := x.slot.isSome || x.wait.isSome || decide (0 < x.burst) ||
    (carried && (match p.slot with | some s => s.owner == c | none => false))
  let mode := if x.slot.isNone && !carried then d.adcMode c else x.mode
  if mode ≠ 1 ∨ ¬ d.convRuns c ∨ x.trigAt = some d.now then d
  else
    let d := d.setConv c { x with trigAt := some d.now }
    if served then adcEvent c F.ADC_EVT_TRG_OVR F.ADC_EVTEN_TRG_OVR (d.count (F.ADC_STAT_TRGOVR c))
    else
      let n := d.rd (F.ADC_CTRL_BURST c)
      d.setConv c { d.conv c with mode := 1, burst := if n = 0 then 8 else n }

/-- ADC_TRIGGER (R190). -/
def execAdcTrigger (c : Fin 16) : State → Out := liftDev (adcTrigger c)

/-- A write to `ADCc.CTRL`: MODE is taken at the next boundary, FLUSH and SWTRIG act at once (R188, R190). -/
def adcCtrlWrite (c : Nat) : Effect := fun _ v w d =>
  let d := d.setWord (.ADC_CTRL c) w
  let d := d.when (bitAt v 10) (flushQueue c)
  d.when (bitAt v 9) (adcTrigger c)

/-- ADC_SWTRIG (R190). -/
def execAdcSwtrig (m : Nat) (c : Fin 16) (v : Word) : State → Out := writeRow (adcCtrlWrite c) m (.ADC_CTRL c) v.toNat

/-- QUEUE_FLUSH (R188). -/
def execQueueFlush (m : Nat) (c : Fin 16) (v : Word) : State → Out := writeRow (adcCtrlWrite c) m (.ADC_CTRL c) v.toNat

/-! ## Injected selects (R191, R192) -/

/-- A write to `ADCc.INJ` (R182, R191). -/
def injWrite (c : Nat) : Effect := fun _ v w d =>
  let bad := !chanOk (selChan v)
  let busy := d.on (F.ADC_INJ_PEND c)
  if d.basicLocked (convPage c) then d
  else if bad ∨ busy then
    (d.when bad fun d => d.blkErr (convPage c) 18).when busy fun d => d.blkErr (convPage c) 17
  else
    let d := ((d.setWord (.ADC_INJ c) w).wr (F.ADC_INJ_PEND c) 1).clrBit (F.ADC_INJRES_VAL c) 27
    let d := d.when (d.conv c).calReq fun d => d.wr (F.ADC_CAL_CAL_PEND c) 1
    injTakesOver c (d.setConv c { d.conv c with inj := some (v % 2 ^ 14) })

/-- INJ_REQUEST (R191). -/
def execInjRequest (m : Nat) (c : Fin 16) (v : Word) : State → Out := writeRow (injWrite c) m (.ADC_INJ c) v.toNat

/-! ## Results (R186, R187, R192 to R194, R196, R198, R204) -/

/-- VREF: the internal 2.5 V, or what stands on VREFIO (R183). -/
def Dev.vref (d : Dev) (vref : Nat) : Int := if d.on F.ADC_REF_SRC then vref else 2500000000

/-- The result word of a slot of converter `x` (R186), and whether it is over range. An undefined value is free
(R183, R202). (DESIGN CHOICE, log 47.) -/
def resultWord (x : Nat) (s : AdcSlot) (v : Int) (vref : Nat) (d : Dev) : Nat × Dev :=
  let ch := selChan s.sel
  let vr := d.vref vref
  let undef := s.undef || (d.on F.ADC_REF_SRC && !(decide (2000000000 ≤ vref) && decide (vref ≤ 2600000000)))
  let r := dataOf (chanSigned ch) s.res s.align (d.chanVolt x ch s.holdAt v vr) vr
  let active := match chanGroup ch with
    | some g => d.bit F.ADC_GRPINJ_ACTIVE g
    | none => false
  let recov := s.recov || active || d.pwr.vddaBad || !d.on (F.PG_STAT_READY (.ADC 0))
  let data := if undef || active then d.free % 2 ^ 16 else r.2
  let d := if undef || active then d.taken else d
  (x * 2 ^ 28 + 2 ^ 27 + ch * 2 ^ 20 + b2n s.qempty * 2 ^ 19 + b2n s.plaus * 2 ^ 18 + b2n recov * 2 ^ 17 +
    b2n r.1 * 2 ^ 16 + data, d)

/-- The conversion after an over-range one is undefined where its acquisition phase was shorter than 100 ns (R202): the one
already made, or in progress, or to come. -/
def markNext (x : Nat) (d : Dev) : Dev :=
  let c := d.conv x
  let hit (s : AdcSlot) : AdcSlot := { s with undef := s.undef || decide (s.acq < 100000) }
  d.setConv x (match c.done, c.slot with
    | s :: rest, _ => { c with done := hit s :: rest }
    | [], some s => { c with slot := some (hit s) }
    | [], none => { c with overV := true })

/-- The events of a result that carries OVR or RECOV (R204): RECOV by an unsettled reference alone latches nothing. -/
def resultEvents (x : Nat) (s : AdcSlot) (w : Nat) (d : Dev) : Dev :=
  let o := s.owner
  let ovr := bitAt w 16
  let recov := bitAt w 17
  let cause := s.recov || d.pwr.vddaBad || match chanGroup (selChan s.sel) with
    | some g => d.bit F.ADC_GRPINJ_ACTIVE g
    | none => false
  let d := d.when ovr (markNext x)
  d.when (ovr || recov) fun d =>
    let d := adcEvent o F.ADC_EVT_OVR F.ADC_EVTEN_OVR d
    d.when ((ovr || cause) && d.on (F.ADC_CTRL_OVR_SRC o)) fun d => d.latch 43

/-- The judgement of a `DIAG` result (R198). -/
def diagResult (p : Nat) (v : Int) (d : Dev) : Dev :=
  let delta := d.on (F.ADC_DIAG_CFG_MODE p)
  let judged := !delta || mhas d.adc.ref p
  let y := if delta then v - mget 0 d.adc.ref p else v
  let d := { d with adc := { d.adc with ref := mset d.adc.ref p v } }
  if ¬ judged then d
  else if d.rdInt (F.ADC_DIAG_LO_LIMIT p) ≤ y ∧ y ≤ d.rdInt (F.ADC_DIAG_HI_LIMIT p) then
    d.wr (F.ADC_PEVT_DIAG_PASS p) 1
  else (d.wr (F.ADC_PEVT_DIAG_FAIL p) 1).latch 42

/-- A queued result is written: FIFO, channel result table, diagnosis and the end of its burst (R193, R194).
(DEDUCED, log 46.) -/
def putResult (x : Nat) (s : AdcSlot) (w : Nat) (d : Dev) : Dev :=
  let o := s.owner
  let ch := selChan s.sel
  let form := s.res + b2n s.align * 4
  let words := if s.ts then [w, s.stamp] else [w]
  let c := d.conv o
  let d := if 32 < c.fifo.length + words.length then
      adcEvent o F.ADC_EVT_FIFO_OVF F.ADC_EVTEN_FIFO_OVF (d.count (F.ADC_FSTAT_OVF o))
    else d.setConv o { c with
      fifo := c.fifo ++ words, fifoForm := c.fifoForm ++ words.map fun _ => form }
  let d := if selDiag s.sel then diagResult (pairOf x) (leftForm w form) d
    else if o % 2 = 1 ∧ mget 0 d.adc.wroteAt ch = d.now ∧ mget o d.adc.wroteBy ch = partner o then d
    else { (d.wr (F.ADC_CHRES_VAL ch) w).wr (F.ADC_CHTS_VAL ch) s.stamp with
      adc := { d.adc with
        form := mset d.adc.form ch form, wroteAt := mset d.adc.wroteAt ch d.now, wroteBy := mset d.adc.wroteBy ch o } }
  (resultEvents x s w d).when s.last (burstDone o)

/-- The comparison of a pair (R196): the words as both are written. (DEDUCED, log 48.) -/
def comparePair (p : Nat) (a b : AdcSlot) (wa wb : Nat) (d : Dev) : Nat × Nat × Dev :=
  if ¬ d.on (F.ADC_PAIR_TOL_EN p) then (wa, wb, d)
  else
    let diff := (leftForm wa (a.res + b2n a.align * 4) - leftForm wb (b.res + b2n b.align * 4)).natAbs
    let d := d.wr (F.ADC_PSTAT_DIFF p) (min 65535 diff)
    if diff ≤ d.rd (F.ADC_PAIR_TOL_TOL p) then (wa, wb, d)
    else (setBitAt wa 18, setBitAt wb 18, ((d.count (F.ADC_PSTAT_FAILS p)).wr (F.ADC_PEVT_PLAUS_FAIL p) 1).latch 41)

/-- The partner's slot of a paired conversion, where it awaits its result. -/
def Dev.pairMate (d : Dev) (x : Nat) : Option AdcSlot := (d.conv (partner x)).done.find? fun s => s.paired

/-- The slot at the front of a converter's results is done with. -/
def dropDone (x : Nat) (d : Dev) : Dev :=
  let c := d.conv x
  d.setConv x { c with done := c.done.tail }

/-- RESULT_WRITE (R181): the result of converter `c`'s oldest ended slot, with the channel's voltage and that on VREFIO.
The first of a compared pair is kept until the other is known. (DESIGN CHOICE, log 49.) -/
def execResultWrite (c : Fin 16) (v : Int) (vref : Nat) : State → Out := liftDev fun d =>
  match (d.conv c).done with
  | [] => d
  | s :: rest =>
    if s.inj ∨ ¬ d.convRuns c then d
    else
      let d := d.jumpTo (s.endAt + d.adcNs 4)
      let r := resultWord c s v vref d
      let d := r.2
      if ¬ s.paired then putResult c s r.1 (dropDone c d)
      else match d.pairMate c with
        | none => d.setConv c { d.conv c with done := { s with word := some r.1 } :: rest }
        | some m => match m.word with
          | none => d.setConv c { d.conv c with done := { s with word := some r.1 } :: rest }
          | some wm =>
            let x := comparePair (pairOf c) s m r.1 wm d
            let p := partner c
            let d := x.2.2.setConv c { x.2.2.conv c with done := rest }
            let d := d.setConv p { d.conv p with done := (d.conv p).done.eraseP fun s => s.paired }
            if c.val % 2 = 0 then putResult c s x.1 (putResult p m x.2.1 d) else putResult p m x.2.1 (putResult c s x.1 d)

/-- INJ_RESULT (R192): the result of an injected conversion. (DESIGN CHOICE, log 49.) -/
def execInjResult (c : Fin 16) (v : Int) (vref : Nat) : State → Out := liftDev fun d =>
  match (d.conv c).done with
  | [] => d
  | s :: _ =>
    if ¬ s.inj ∨ ¬ d.convRuns c then d
    else
      let o := s.owner
      let d := d.jumpTo (s.endAt + d.adcNs 4)
      let r := resultWord c s v vref d
      let d := dropDone c r.2
      let d := d.setConv o { d.conv o with injForm := s.res + b2n s.align * 4 }
      let d := ((d.wr (F.ADC_INJRES_VAL o) r.1).wr (F.ADC_INJTS_VAL o) s.stamp).wr (F.ADC_INJ_PEND o) 0
      let d := adcEvent o F.ADC_EVT_INJ_DONE F.ADC_EVTEN_INJ_DONE d
      let d := d.wr (F.ADC_CAL_CAL_PEND o) 0
      resultEvents c s r.1 d

/-- A read of `ADCc.RES` pops the oldest word (R193). -/
def fifoPop (c : Nat) (d : Dev) : Nat × Dev :=
  let x := d.conv c
  (x.fifo.headD 0, d.setConv c { x with fifo := x.fifo.tail, fifoForm := x.fifoForm.tail })

/-- FIFO_POP (R193). -/
def execFifoPop (m : Nat) (c : Fin 16) : State → Out := liftDev fun d =>
  d.busReadWith (fun _ => fifoPop c) m (.ADC_RES c)

/-! ## Reference, check DACs, diagnosis, detectors -/

/-- The reference starts to settle (R183). -/
def refSettle (d : Dev) : Dev :=
  { d.wr (F.PG_STAT_READY (.ADC 0)) 0 with adc := { d.adc with settling := true, setAt := d.now } }

/-- A write to `ADC.REF` (R183). -/
def refWrite : Effect := fun _ _ w d =>
  let src := bitsOf w 0 1
  if src = d.rd F.ADC_REF_SRC then d
  else if (List.range 16).any fun c => d.on (F.ADC_CTRL_MODE c) || d.on (F.ADC_INJ_PEND c) || (d.conv c).cal.isSome
  then d.blkErr (.ADC 0) 16
  else refSettle (d.wr F.ADC_REF_SRC src)

/-- REF_SRC_WRITE (R183). -/
def execRefSrcWrite (m : Nat) (v : Word) : State → Out := writeRow refWrite m .ADC_REF v.toNat

/-- REF_SETTLED (R183): 300 us after the enable or the change; READY stays 0 while VDDA is absent (R345).
(DEDUCED, log 113.) -/
def execRefSettled : State → Out := liftDev fun d =>
  if d.adc.settling ∧ d.enabled (.ADC 0) ∧ ¬ d.on F.PWR_VMON_VDDA_LOW then
    let d := d.jumpTo (d.adc.setAt + 300000)
    { d.wr (F.PG_STAT_READY (.ADC 0)) 1 with adc := { d.adc with settling := false } }
  else d

/-- A pin that another pair's DAC is connected to (R197). -/
def Dev.pinTaken (d : Dev) (p pin : Nat) : Bool :=
  (List.range 8).any fun q => q != p && decide (2 ≤ d.rd (F.ADC_DAC_MODE q)) && d.rd (F.ADC_DAC_PIN q) == pin

/-- A write to `ADCp.DAC` (R197). -/
def dacWrite (p : Nat) : Effect := fun _ _ w d =>
  if 2 ≤ bitsOf w 12 2 ∧ d.pinTaken p (bitsOf w 16 6) then d.blkErr (pairPage p) 16
  else
    let same := d.rd (F.ADC_DAC_CODE p) == bitsOf w 0 12 && d.rd (F.ADC_DAC_MODE p) == bitsOf w 12 2
    (d.setWord (.ADC_DAC p) w).when (!same) fun d => { d with adc := { d.adc with dacAt := mset d.adc.dacAt p d.now } }

/-- DAC_WRITE (R197). -/
def execDacWrite (m : Nat) (p : Fin 8) (v : Word) : State → Out := writeRow (dacWrite p) m (.ADC_DAC p) v.toNat

/-- A write to `ADCp.DIAG_CFG` clears the DELTA reference (R198). -/
def diagCfgWrite (p : Nat) : Effect := fun _ _ w d =>
  { d.setWord (.ADC_DIAG_CFG p) w with adc := { d.adc with ref := merase d.adc.ref p } }

/-- DIAG_CFG_WRITE (R198). -/
def execDiagCfgWrite (m : Nat) (p : Fin 8) (v : Word) : State → Out := writeRow (diagCfgWrite p) m (.ADC_DIAG_CFG p) v.toNat

/-- INJECTION_DETECTOR (R202, R203): the detector of a mux group asserts or falls. -/
def execInjectionDetector (g : Fin 6) (active : Bool) : State → Out := liftDev fun d =>
  if d.bit F.ADC_GRPINJ_ACTIVE g = active ∨ ¬ d.domUp domANALOG then d
  else if active then (d.setBit F.ADC_GRPINJ_ACTIVE g).setBit F.ADC_GRPINJ_SEEN g
  else
    (d.clrBit F.ADC_GRPINJ_ACTIVE g).each (List.range 16) fun c d =>
      d.setConv c { d.conv c with recov := mset (d.conv c).recov g 2 }

/-! ## Calibration (R200) -/

/-- A calibration is asked for. -/
def calAsk (c : Nat) (d : Dev) : Dev :=
  let x := d.conv c
  let p := partner c
  if x.calReq ∨ x.cal.isSome then d
  else if ¬ d.enabled (convPage c) ∨ ¬ d.enabled (convPage p) ∨ (d.conv p).cal.isSome then d.blkErr (convPage c) 19
  else
    let d := (d.wr (F.ADC_CAL_START c) 1).wr (F.ADC_CAL_CAL_PEND c) (d.rd (F.ADC_INJ_PEND c))
    d.setConv c { x with calReq := true }

/-- A write to `ADCc.CAL`. -/
def calWrite (c : Nat) : Effect := fun _ v _ d => d.when (bitAt v 0) (calAsk c)

/-- CAL_START (R200). -/
def execCalStart (m : Nat) (c : Fin 16) (v : Word) : State → Out := writeRow (calWrite c) m (.ADC_CAL c) v.toNat

/-- CAL_BEGIN (R200): the first boundary with no injected select pending. -/
def execCalBegin (c : Fin 16) : State → Out := liftDev fun d => d.when (d.conv c).calReq (boundary c)

/-- A calibration is over, whatever its result. -/
def calEnd (c status : Nat) (d : Dev) : Dev :=
  let x := d.conv c
  let d := d.setConv c { x with cal := none, handed := false, calReq := false, trackAt := d.now }
  let d := convViews (partner c) d
  ((((d.wr (F.ADC_CAL_BUSY c) 0).wr (F.ADC_CAL_START c) 0).wr (F.ADC_CAL_CAL_PEND c) 0).wr
    (F.ADC_CAL_STATUS c) status)

/-- CAL_DONE (R200): 2,048 slots of 20 cycles have passed; `ok` says that the trims lie within their ranges. A START written
at this very instant asks again (R5). -/
def execCalDone (c : Fin 16) (ok : Bool) (gain offset : BitVec 16) : State → Out := liftDev fun d =>
  match (d.conv c).cal with
  | none => d
  | some t =>
    let d := d.jumpTo (t + d.adcNs 40960)
    let again := d.againOne (.ADC_CAL c) 0
    let d := ((calEnd c (if ok then 1 else 2) d).progAt (convPage c) 2048 100).progEnd (convPage c)
    let d := adcEvent c F.ADC_EVT_CAL_DONE F.ADC_EVTEN_CAL_DONE d
    let d := if ok then (d.wr (F.ADC_CALVAL_GAIN c) gain.toNat).wr (F.ADC_CALVAL_OFFSET c) offset.toNat else d.latch 42
    d.when again (calAsk c)

/-- A block reset of a converter page (R206): queue, FIFO, injected select and slots go, a calibration ends ABORTED, and
any hand-over ends. A result of the partner that waits for an abandoned one is written alone, and a carried injected select
that is abandoned leaves `INJ.PEND` of its owner (DESIGN CHOICE, log 48). -/
def adcReset (c : Nat) (d : Dev) : Dev :=
  let x := d.conv c
  let p := partner c
  let status := if x.cal.isSome || x.calReq then 3 else 0
  let y := d.conv p
  let alone (s : AdcSlot) : AdcSlot := { s with paired := false, word := none }
  let mine (s : AdcSlot) : Bool := s.owner == c
  let gone := (x.slot.toList ++ x.done).any fun s => s.inj && s.owner == p
  let d := d.setConv p { y with
    slot := (y.slot.filter fun s => !mine s).map alone, done := (y.done.filter fun s => !mine s).map alone, handed := false }
  let d := d.when gone fun d => d.wr (F.ADC_INJ_PEND p) 0
  let d := (d.setConv c { recov := x.recov, trackAt := d.now }).wr (F.ADC_CAL_STATUS c) status
  convViews p d

end Sys2Proof.Machine
end

