-- ==== Sys2Proof/Machine/Edge.lean ====
section
/-!
DEFINITION. Sys2Proof/Machine/Edge.lean: the edge scheduler: carriers and commits (R145 to R158), the generation of
edges with short pulses and late edges (R159 to R164, R174), dead times and their adaptation (R165 to R171), blocks at
the scheduler (R176), and the landing of a step of the timebase (R89, R149).
-/
namespace Sys2Proof.Machine

/-! ## Legs -/

/-- What the scheduler holds of a leg. -/
def Dev.leg (d : Dev) (l : Nat) : Leg := mget {} d.edge.legs l

/-- Replaces what the scheduler holds of a leg. -/
def Dev.setLeg (d : Dev) (l : Nat) (g : Leg) : Dev := { d with edge := { d.edge with legs := mset d.edge.legs l g } }

/-- The spoke of a leg (R26). -/
def legSpoke (l : Nat) : Nat := l / 4
/-- The rim of a leg. -/
def legRim (l : Nat) : Nat := l / 32
/-- The legs of a rim. -/
def legsOf (n : Nat) : List Nat := (List.range 32).map fun i => 32 * n + i

/-- The adapted dead time of a direction, 1 RISE and 2 FALL. -/
def fAdt (l dir : Nat) : FRef := if dir = 1 then F.EDGE_LEG_ADT_RISE l else F.EDGE_LEG_ADT_FALL l
/-- The fallback flag of a direction. -/
def fFb (l dir : Nat) : FRef := if dir = 1 then F.EDGE_LEG_ADT_FB_R l else F.EDGE_LEG_ADT_FB_F l
/-- The limit flag of a direction. -/
def fLim (l dir : Nat) : FRef := if dir = 1 then F.EDGE_LEG_ADT_LIM_R l else F.EDGE_LEG_ADT_LIM_F l
/-- The miss count of a direction. -/
def fMiss (l dir : Nat) : FRef := if dir = 1 then F.EDGE_LEG_DSTAT_MISS_R l else F.EDGE_LEG_DSTAT_MISS_F l

/-- The filter value of a direction. -/
def Leg.f16 (g : Leg) (dir : Nat) : Option Nat := if dir = 1 then g.f16R else g.f16F
/-- Replaces the filter value of a direction. -/
def Leg.setF16 (g : Leg) (dir : Nat) (v : Option Nat) : Leg :=
  if dir = 1 then { g with f16R := v } else { g with f16F := v }
/-- The last ESEQ processed of a direction. -/
def Leg.done (g : Leg) (dir : Nat) : Option Nat := if dir = 1 then g.doneR else g.doneF
/-- An entry of a direction has been processed; its ESEQ is remembered when it is not 0 (R168). -/
def Leg.processed (g : Leg) (dir eseq : Nat) : Leg :=
  if dir = 1 then { g with gotR := true, doneR := some eseq } else { g with gotF := true, doneF := some eseq }

/-- The effective dead time of a direction (R166). -/
def Dev.dtEff (d : Dev) (l dir : Nat) : Nat :=
  max (if d.on (F.EDGE_LEG_DT_ADAPT l) then d.rd (fAdt l dir) else d.rd (F.EDGE_LEG_DT_DT l))
    (d.spoke (legSpoke l)).interlock

/-- The held state of a leg becomes UNKNOWN: it has no previous edge, and its carries are 0 (R152, R164). -/
def heldUnknown (l : Nat) (d : Dev) : Dev :=
  let d := ((d.wr (F.EDGE_LEG_ESEQ_HELD l) 2).wr (F.EDGE_LEG_CARRY_UPPER l) 0).wr (F.EDGE_LEG_CARRY_LOWER l) 0
  d.setLeg l { d.leg l with lastq := none }

/-- A late edge: the first after a release is captured, and source 46 latches (R174, R175). -/
def lateEdge (kind l : Nat) (d : Dev) : Dev :=
  let f := F.EDGE_LATEINFO_KIND
  let g := F.EDGE_LATEINFO_LEG
  let words : List (Reg × Nat) := [(.EDGE_LATEINFO, putBits (putBits (2 ^ 31) f.lo f.w kind) g.lo g.w l)]
  let d := (d.noteCapture .EDGE_LATEINFO words).when (!d.on F.EDGE_LATEINFO_VALID) fun d => d.setWords words
  d.latch 46

/-! ## Carriers -/

/-- A carrier. -/
def Dev.car (d : Dev) (c : Nat) : Carrier := mget {} d.edge.cars c
/-- Replaces a carrier. -/
def Dev.setCar (d : Dev) (c : Nat) (x : Carrier) : Dev := { d with edge := { d.edge with cars := mset d.edge.cars c x } }

/-- `EDGE.LEAD` as it is written (R157). -/
def Dev.leadSet (d : Dev) : Nat := clampTo 2000 20000 (d.rd F.EDGE_LEAD_LEAD)

/-- `EDGE.LEAD` as it acts: a new value from the tick after it lands (R157). (DEDUCED, log 40.) -/
def Dev.lead (d : Dev) : Nat := d.before.leadSet

/-- The period that a carrier's register asks for (R146). -/
def Dev.carPeriod (d : Dev) (c : Nat) : Nat := max 2000 (d.rd (F.EDGE_CAR_PERIOD_PERIOD c))

/-- A write to a carrier is refused (R147, R148). -/
def carRefused (d : Dev) : Dev := d.blkErr (.EDGE 0) 16

/-- ARMED as a carrier stands: a first start lies ahead, or is yet to be committed (R147). -/
def Dev.carArmed (d : Dev) (c : Nat) : Bool :=
  !(d.car c).firsts.isEmpty || (d.on (F.EDGE_CAR_CTRL_EN c) && !(d.car c).begun)

/-- What a carrier holds is replaced, and ARMED follows. -/
def putCar (c : Nat) (x : Carrier) (d : Dev) : Dev :=
  let d := d.setCar c x
  d.wr (F.EDGE_CAR_STAT_ARMED c) (b2n (d.carArmed c))

/-- The carriers whose arms wait for a carrier (R147). -/
def Dev.waiters (d : Dev) (c : Nat) : List Nat :=
  (List.range 64).filter fun x => x != c && (d.car x).waiting && d.rd (F.EDGE_CAR_CTRL_REF x) == c

/-- The arms that wait for a carrier whose EN becomes 0 are cancelled, and with each the arms that wait for it (R147).
The first argument bounds the chain: it passes no carrier twice, since a cancelled arm waits no more. -/
def cancelArms : Nat → Nat → Dev → Dev
  | 0, _, d => d
  | fuel + 1, c, d => d.each (d.waiters c) fun x d =>
    d.when (d.car x).waiting fun d =>
      cancelArms fuel x (carRefused (putCar x { d.car x with waiting := false } (d.wr (F.EDGE_CAR_CTRL_EN x) 0)))

/-- A carrier's EN becomes 0: nothing more is committed, committed periods run to their end, and an arm without a commit
falls (R148). -/
def carOff (c : Nat) (d : Dev) : Dev :=
  let x := d.car c
  let d := putCar c { x with next := none, waiting := false, stopAt := if x.begun then some x.endAt else x.stopAt }
    (d.wr (F.EDGE_CAR_CTRL_EN c) 0)
  cancelArms 64 c d

/-- The first start of an arm with `ALIGN` 0 (R147): START + m × PERIOD at least LEAD + 1,000 ns ahead. -/
def Dev.firstStart (d : Dev) (c : Nat) : Nat :=
  let p := d.carPeriod c
  let start := (d.tbSec / 2 ^ 32 * 2 ^ 32 + d.rd (F.EDGE_CAR_START_SEC_VAL c)) * 1000000000 +
    d.rd (F.EDGE_CAR_START_NS_VAL c)
  let least := d.tns + d.lead + 1000
  if least ≤ start then start else start + (least - start + p - 1) / p * p

/-- A carrier is running for the purpose of `ALIGN`: its periods run and more will be committed. (DEDUCED, log 39.) -/
def Dev.carRuns (d : Dev) (c : Nat) : Bool := d.on (F.EDGE_CAR_STAT_RUN c) && d.on (F.EDGE_CAR_CTRL_EN c)

/-- An arm is refused: `ALIGN` with a REF that does not run, or that names the carrier itself (R147). -/
def Dev.armRefused (d : Dev) (c : Nat) : Bool :=
  let ref := d.rd (F.EDGE_CAR_CTRL_REF c)
  d.on (F.EDGE_CAR_CTRL_ALIGN c) && (ref == c || !d.carRuns ref)

/-- A carrier is armed (R147). (DEDUCED, log 39.) -/
def armCar (c : Nat) (d : Dev) : Dev :=
  let align := d.on (F.EDGE_CAR_CTRL_ALIGN c)
  putCar c { d.car c with
    landing := d.tns, waiting := align, begun := false, next := if align then none else some (d.firstStart c) } d

/-- A leg with EN 1 is bound to a carrier (R148). -/
def Dev.carBound (d : Dev) (c : Nat) : Bool :=
  (List.range 1024).any fun l => d.on (F.EDGE_LEG_CTRL_EN l) && d.rd (F.EDGE_LEG_CTRL_CAR l) == c

/-- A write to `EDGE.CARc_CTRL`: a refused one changes nothing (R147, R148). -/
def carCtrlWrite (c : Nat) : Effect := fun _ _ w d =>
  let new := d.setWord (.EDGE_CAR_CTRL c) w
  let was := d.on (F.EDGE_CAR_CTRL_EN c)
  let on := new.on (F.EDGE_CAR_CTRL_EN c)
  if on = was then new
  else if on then (if new.armRefused c then carRefused d else armCar c new)
  else if d.carBound c then carRefused d
  else carOff c new

/-- CARRIER_ARM (R147). -/
def execCarrierArm (m : Nat) (c : Fin 64) (v : Word) : State → Out := writeRow (carCtrlWrite c) m (.EDGE_CAR_CTRL c) v.toNat

/-- CARRIER_DISABLE (R148). -/
def execCarrierDisable (m : Nat) (c : Fin 64) (v : Word) : State → Out :=
  writeRow (carCtrlWrite c) m (.EDGE_CAR_CTRL c) v.toNat

/-- CARRIER_START (R147): the first period starts. -/
def execCarrierStart (c : Fin 64) : State → Out := liftDev fun d =>
  match (d.car c).firsts with
  | [] => d
  | s :: rest =>
    let d := d.jumpToTb s
    ((putCar c { d.car c with firsts := rest } d).wr (F.EDGE_CAR_STAT_RUN c) 1).wr F.EDGE_EVT_CAR_START 1

/-- The legs bound to a carrier. -/
def Dev.boundLegs (d : Dev) (c : Nat) : List Nat :=
  (List.range 1024).filter fun l => d.rd (F.EDGE_LEG_CTRL_CAR l) == c

/-- CARRIER_STOP (R148): the last committed period of a disabled carrier ends. RUN falls, unless the periods of a later
arm run by then. (DEDUCED, log 39.) -/
def execCarrierStop (c : Fin 64) : State → Out := liftDev fun d =>
  match (d.car c).stopAt with
  | none => d
  | some e =>
    let d := d.jumpToTb e
    let x := d.car c
    let d := (d.setCar c { x with stopAt := none }).wr F.EDGE_EVT_CAR_STOP 1
    if x.begun ∧ x.firsts = [] ∧ d.on (F.EDGE_CAR_CTRL_EN c) then d
    else (d.wr (F.EDGE_CAR_STAT_RUN c) 0).each (d.boundLegs c) heldUnknown

/-- LEAD_WRITE (R157). (DEDUCED, log 40.) -/
def execLeadWrite (m : Nat) (v : Word) : State → Out := writeRow (plainEffect .EDGE_LEAD) m .EDGE_LEAD v.toNat

/-- A transfer request lands (R156). -/
def xferRequest (c : Nat) (d : Dev) : Dev :=
  let x := d.car c
  (d.wr (F.EDGE_CAR_STAT_XFER_PEND c) 1).setCar c
    { x with xfer := true, xferAt := d.now, xferOld := if x.xferAt = d.now then x.xferOld else x.xfer }

/-- Whether a transfer request has landed before the present tick (R156). -/
def Carrier.xferBefore (x : Carrier) (now : Nat) : Bool := if x.xferAt = now then x.xferOld else x.xfer

/-- A write to `EDGE.CARc_XFER` (R156). -/
def xferWrite (c : Nat) : Effect := fun _ _ _ => xferRequest c

/-- XFER_REQUEST (R156). -/
def execXferRequest (m : Nat) (c : Fin 64) (v : Word) : State → Out := writeRow (xferWrite c) m (.EDGE_CAR_XFER c) v.toNat

/-! ## The landing of a step of the timebase (R89, R149) -/

/-- A timebase value in ns moved by a step. -/
def movedBy (by_ : Int) (x : Nat) : Nat := (((x : Int) + by_) % (wrapNs : Int)).toNat

/-- A carrier moved by a step. -/
def Carrier.moved (by_ : Int) (x : Carrier) : Carrier :=
  { x with landing := movedBy by_ x.landing, next := x.next.map (movedBy by_), firsts := x.firsts.map (movedBy by_)
           stopAt := x.stopAt.map (movedBy by_), endAt := movedBy by_ x.endAt
           periods := x.periods.map fun (q : Nat × Nat) => (movedBy by_ q.1, q.2) }

/-- The scheduler's times moved by a step. (DEDUCED, log 42.) -/
def EdgeState.moved (by_ : Int) (e : EdgeState) : EdgeState :=
  { e with
    cars := e.cars.map fun (x : Nat × Carrier) => (x.1, x.2.moved by_)
    gens := e.gens.map fun (j : GenJob) => { j with start := movedBy by_ j.start, at_ := movedBy by_ j.at_ }
    genAt := movedBy by_ e.genAt
    fires := e.fires.map fun (f : Firing) => { f with at_ := movedBy by_ f.at_ } }

/-- A sampling instant that has not been sent, moved by a step. (DEDUCED, log 32.) -/
def DownRec.moved (by_ : Int) : DownRec → DownRec
  | .sample x => .sample (movedBy by_ x)
  | q => q

/-- Every period start, committed firing and sampling instant that is not cut moves with the timebase (R149, R137).
(DEDUCED, log 32, 42.) -/
def shiftEdges (by_ : Int) (d : Dev) : Dev :=
  let cs := (d.edge.cars.filter fun e => decide (0 < e.2.commits)).map Prod.fst
  let d := { d with edge := d.edge.moved by_ }
  let d := d.each cs fun c d =>
    let x := movedBy by_ (d.rd (F.EDGE_CAR_PSTART_SEC_VAL c) * 1000000000 + d.rd (F.EDGE_CAR_PSTART_NS_VAL c))
    (d.wr (F.EDGE_CAR_PSTART_SEC_VAL c) (x / 1000000000)).wr (F.EDGE_CAR_PSTART_NS_VAL c) (x % 1000000000)
  { d with rims := d.rims.map fun (r : Nat × RimState) =>
      (r.1, { r.2 with qEdge := r.2.qEdge.map (DownRec.moved by_), inFrame := r.2.inFrame.map (DownRec.moved by_)
                       samples := r.2.samples.map (movedBy by_) }) }

/-- An accepted step lands (R89, R149). -/
def landAll (d : Dev) : Dev :=
  if d.time.stepCmd = 0 then d
  else
    shiftEdges d.stepBy (landStep d)

/-- STEP_LANDING (R89). -/
def execStepLanding : State → Out := liftDev landAll

/-- A change under which `CELLS_BLOCKED` may fall: a step that is BUSY lands first (R90). -/
def landFirst (f : Dev → Dev) (d : Dev) : Dev :=
  let d' := f d
  if d.time.stepCmd ≠ 0 ∧ d.cellsBlocked ∧ ¬ d'.cellsBlocked then f (landAll d) else d'

/-- `landFirst` for the effect of a register write. -/
def landFirstWrite (e : Effect) : Effect := fun m v w => landFirst (e m v w)

/-! ## Commits (R154 to R158) -/

/-- A leg's values are taken (R154, R156): its job where it produces edges, else its held state is UNKNOWN (R153). The
values are those of `b`, before this tick's writes (R155); spokes and blocks are judged as they stand in it. -/
def commitLeg (b : Dev) (c : Nat) (take : Bool) (no : Nat) (acc : Dev × List LegJob) (l : Nat) : Dev × List LegJob :=
  let d := acc.1
  let g := d.leg l
  let fresh := take || !(g.car == c && g.commit == no)
  let duty := if fresh then b.rd (F.EDGE_LEG_DUTY_DUTY l) else g.duty
  let offset := if fresh then b.rd (F.EDGE_LEG_OFFSET_OFFSET l) else g.offset
  let d := d.setLeg l { g with car := c, commit := no + 1, duty, offset }
  if b.on (F.EDGE_LEG_CTRL_EN l) ∧ d.spokeSt (legSpoke l) = 5 ∧ ¬ d.blockInForce (legRim l) then
    (d, acc.2 ++ [{ leg := l, duty, offset, dtR := b.dtEff l 1, dtF := b.dtEff l 2
                    minp := b.rd (F.EDGE_LEG_MINP_MINP l), pol := b.rd (F.EDGE_LEG_MINP_POLICY l)
                    ilk := (d.spoke (legSpoke l)).interlock }])
  else (heldUnknown l d, acc.2)

/-- The interlocks that have waited for a commit tick since an earlier tick are in force (R167). -/
def takeInterlocks (d : Dev) : Dev :=
  { d with spokes := d.spokes.map fun e =>
      if e.2.ilkAt < d.now then (e.1, { e.2 with interlock := e.2.ilkNext, ilkCommit := none }) else e }

/-- A firing takes its place in order of time and compare. -/
def insertFiring (f : Firing) : List Firing → List Firing
  | [] => [f]
  | g :: t => if g.at_ < f.at_ ∨ (g.at_ = f.at_ ∧ g.trg < f.trg) then g :: insertFiring f t else f :: g :: t

/-- A generation takes its place in order of commit tick and carrier (R158). -/
def insertJob (j : GenJob) : List GenJob → List GenJob
  | [] => [j]
  | g :: t => if g.at_ < j.at_ ∨ (g.at_ = j.at_ ∧ g.car < j.car) then g :: insertJob j t else j :: g :: t

/-- A SAMPLE record for a committed firing goes to each enabled rim that samples on the compare (R119). -/
def queueSamples (f : Firing) (d : Dev) : Dev :=
  d.each (d.sendingRims.filter fun n => d.on (F.RIM_TCFG_TEN n) && d.rd (F.RIM_TCFG_TRG n) == f.trg) fun n d =>
    d.setRim n { d.rim n with qEdge := (d.rim n).qEdge ++ [.sample f.at_] }

/-- Arms that wait for a carrier and whose first start this period is (R147). (DEDUCED, log 39.) -/
def alignArms (c start : Nat) (d : Dev) : Dev :=
  d.each ((d.waiters c).filter fun x => decide ((d.car x).landing + d.lead + 1000 ≤ start)) fun x d =>
    d.setCar x { d.car x with waiting := false, next := some start }

/-- The commit of a carrier's period that starts at `s`, with the values that stood before this tick's writes
(R154 to R156). -/
def commitAt (c s : Nat) (d : Dev) : Dev :=
  let d := takeInterlocks d
  let b := d.before
  let x := d.car c
  let asked := x.xferBefore d.now
  let gated := b.on (F.EDGE_CAR_CTRL_GATED c)
  let take := !gated || asked || !x.begun
  let p := if take then b.carPeriod c else x.period
  let d := d.when gated fun d =>
    if asked then d.wr F.EDGE_EVT_XFER_TAKEN 1 else if x.begun then d.wr F.EDGE_EVT_NOXFER 1 else d
  let cmps := (List.range 8).map fun i => if take then b.rd (F.EDGE_TRG_CMP_CMP (8 * c + i)) else x.cmps.getD i 0
  let fires := ((List.range 8).filter fun i => b.on (F.EDGE_TRG_CMP_EN (8 * c + i)) && decide (cmps.getD i 0 < p)).map
    fun i => ({ at_ := s + cmps.getD i 0, trg := 8 * c + i } : Firing)
  let r := (b.boundLegs c).foldl (commitLeg b c take x.commits) (d, [])
  let d := r.1
  let job : GenJob := { car := c, start := s, period := p, at_ := d.tns, legs := r.2 }
  let d := { d with edge := { d.edge with
    gens := if r.2.isEmpty then d.edge.gens else insertJob job d.edge.gens
    fires := fires.foldl (fun l f => insertFiring f l) d.edge.fires } }
  let d := d.each fires queueSamples
  let later := x.xfer && x.xferAt == d.now
  let d := d.setCar c { x with
    next := some (s + p), firsts := if x.begun then x.firsts else x.firsts ++ [s], endAt := s + p
    periods := ((s, p) :: x.periods).take 16
    commits := x.commits + 1, begun := true, xfer := later, xferOld := false, period := p, cmps }
  let d := ((d.wr (F.EDGE_CAR_STAT_XFER_PEND c) (b2n later)).wr (F.EDGE_CAR_STAT_CPERIOD c) p)
  let d := (d.wr (F.EDGE_CAR_PSTART_NS_VAL c) (s % 1000000000)).wr (F.EDGE_CAR_PSTART_SEC_VAL c) (s / 1000000000)
  alignArms c s d

/-- The value at whose tick the period that starts at `s` is committed (R154). Where LEAD has been written in this tick,
its old value decides in it and its new value from the next tick on (R157). (DEDUCED, log 40.) -/
def Dev.commitTick (d : Dev) (s : Nat) : Nat :=
  if d.lead = d.leadSet ∨ s - d.lead ≤ d.tns then s - d.lead else max (s - d.leadSet) (d.tns + 1)

/-- COMMIT (R154): the commit tick of a carrier's next period. -/
def execCommit (c : Fin 64) : State → Out := liftDev fun d =>
  match (d.car c).next with
  | none => d
  | some s => commitAt c s (d.jumpToTb (d.commitTick s))

/-! ## Generation (R159 to R164, R174) -/

/-- An edge before it is queued: T1, the state it sets, dead time. -/
abbrev OutEdge := Nat × Bool × Nat

/-- The working values of the pseudocode of R159. -/
structure GenAcc where
  out    : List OutEdge := []
  /-- T1 and dead time of the previous edge, and whether it was queued at an earlier commit. -/
  prev   : Option (Nat × Nat)
  old    : Bool := true
  cur    : Option Bool
  upper  : Nat
  lower  : Nat
  stretched : Nat := 0
  dropped   : Nat := 0
  forced : Bool := false
  deriving DecidableEq, Repr

/-- An edge joins `out`. -/
def GenAcc.push (a : GenAcc) (e : OutEdge) : GenAcc :=
  { a with out := a.out ++ [e], prev := some (e.1, e.2.2), old := false, cur := some e.2.1 }

/-- The carry of the switch that an edge turns off: LOWER for a rise, UPPER for a fall. (DEDUCED, log 41.) -/
def GenAcc.carry (a : GenAcc) (s : Bool) : Nat := if s then a.lower else a.upper
/-- Replaces that carry. -/
def GenAcc.setCarry (a : GenAcc) (s : Bool) (v : Nat) : GenAcc :=
  if s then { a with lower := v } else { a with upper := v }

/-- The previous edge and this one are both withdrawn (R163). -/
def GenAcc.withdraw (a : GenAcc) (lastq : Option (Nat × Nat)) (s : Bool) : GenAcc :=
  let out := a.out.dropLast
  { a with out, dropped := a.dropped + 1, cur := some s
           prev := match out.getLast? with
             | some e => some (e.1, e.2.2)
             | none => lastq
           old := out.isEmpty }

/-- One change of the ideal state at a count (R159, R163). (DEDUCED, log 41.) -/
def genEdge (j : LegJob) (start : Nat) (lastq : Option (Nat × Nat)) (a : GenAcc) (e : Nat × Bool) : GenAcc :=
  let s := e.2
  if a.cur = some s then a
  else
    let t1 := start + e.1
    let dt := if s then j.dtR else j.dtF
    match a.prev with
    | none => a.push (t1, s, dt)
    | some p =>
      let least := p.1 + p.2 + max j.minp 10
      if least ≤ t1 then (a.setCarry s 0).push (t1, s, dt)
      else if a.old ∨ j.pol = 1 then
        { a.push (least, s, dt) with stretched := a.stretched + 1, forced := a.forced || a.old }
      else if j.pol = 2 then
        let sum := min 8191 ((a.carry s : Int) + t1 - p.1).toNat
        let need := p.2 + max j.minp 10
        if need ≤ sum then (a.setCarry s (sum - need)).push (least, s, dt)
        else (a.setCarry s sum).withdraw lastq s
      else a.withdraw lastq s

/-- A change takes its place by its count; equal counts keep their order. -/
def insertChange (e : Nat × Bool) : List (Nat × Bool) → List (Nat × Bool)
  | [] => [e]
  | g :: t => if g.1 ≤ e.1 then g :: insertChange e t else e :: g :: t

/-- The changes of the ideal state in a period, by count (R151, R159). -/
def changesOf (j : LegJob) (p : Nat) (held : Option Bool) : List (Nat × Bool) :=
  let du := min j.duty p
  let o := j.offset % p
  let x0 := decide ((p - o) % p < du)
  let l := if held = some x0 then [] else [(0, x0)]
  if 0 < du ∧ du < p then insertChange ((o + du) % p, false) (insertChange (o, true) l) else l

/-- The held state of a leg: none is UNKNOWN. -/
def Dev.heldState (d : Dev) (l : Nat) : Option Bool :=
  match d.rd (F.EDGE_LEG_ESEQ_HELD l) with
  | 0 => some false
  | 1 => some true
  | _ => none

/-- Edges in a rim's queue (R161). -/
def Dev.edgesQueued (d : Dev) (n : Nat) : Nat :=
  ((d.rim n).qEdge.filter fun
    | .edge .. => true
    | _ => false).length

/-- An edge counts in the load of its millisecond (`EDGE.LOAD`). -/
def countLoad (t : Nat) (d : Dev) : Dev :=
  let ms := t / 1000000
  let e := d.edge
  if ms = e.loadMs then { d with edge := { e with load := e.load + 1 } }
  else
    { d.wr F.EDGE_LOAD_EPMS (if ms = e.loadMs + 1 then e.load else 0) with edge := { e with load := 1, loadMs := ms } }

/-- An edge enters its rim's queue (R152, R160). (DEDUCED, log 43.) -/
def queueEdge (j : LegJob) (t : Nat) (e : OutEdge) (d : Dev) : Dev :=
  let l := j.leg
  let g := d.leg l
  let dir := if e.2.1 then 1 else 2
  let last := if g.gen = d.tandem.claimGen then d.rd (F.EDGE_LEG_ESEQ_LAST l) else 0
  let eseq := last % 65535 + 1
  let n := legRim l
  let r := d.rim n
  let d := d.setRim n { r with
    qEdge := r.qEdge ++ [.edge (posOf (legSpoke l)) (l % 4) dir e.1 e.2.2 eseq l j.ilk] }
  let d := (d.wr (F.EDGE_LEG_ESEQ_LAST l) eseq).wr (F.EDGE_LEG_ESEQ_HELD l) (if e.2.1 then 1 else 0)
  countLoad t (d.setLeg l { g with
    lastq := some (e.1, e.2.2), gen := d.tandem.claimGen
    edges := ((eseq, dir, e.2.2) :: g.edges).take 32
    nowR := g.nowR || e.2.1, nowF := g.nowF || !e.2.1 })

/-- The edges of a leg are queued, one every 2 ns from `t`; one that is late, or that finds the queue full, is discarded
with those after it (R174). The value after the last slot taken is answered. -/
def queueEdges (j : LegJob) (start : Nat) : List OutEdge → Nat → Dev → Nat × Dev
  | [], t, d => (t, d)
  | e :: rest, t, d =>
    let t := t + 2
    if start ≤ t ∨ 512 ≤ d.edgesQueued (legRim j.leg) then
      (t, lateEdge 0 j.leg ((d.count F.EDGE_LATECNT_DROPPED (rest.length + 1)).wr F.EDGE_EVT_LATE_DROP 1))
    else queueEdges j start rest t (queueEdge j t e d)

/-- The edges of one leg for one period are generated (R159); none while a block is in force on its rim (R176). -/
def genLeg (g : GenJob) (acc : Nat × Dev) (j : LegJob) : Nat × Dev :=
  let d := acc.2
  let l := j.leg
  if d.blockInForce (legRim l) then (acc.1, heldUnknown l d)
  else
    let held := d.heldState l
    let lastq := (d.leg l).lastq
    let a := (changesOf j g.period held).foldl (genEdge j g.start lastq)
      { prev := lastq, cur := held, upper := d.rd (F.EDGE_LEG_CARRY_UPPER l), lower := d.rd (F.EDGE_LEG_CARRY_LOWER l) }
    let d := (d.wr (F.EDGE_LEG_CARRY_UPPER l) a.upper).wr (F.EDGE_LEG_CARRY_LOWER l) a.lower
    let d := (d.count (F.EDGE_LEG_PSTAT_STRETCHED l) a.stretched).count (F.EDGE_LEG_PSTAT_DROPPED l) a.dropped
    let d := d.when a.forced fun d => d.wr F.EDGE_EVT_FORCED_STRETCH 1
    queueEdges j g.start a.out acc.1 d

/-- GENERATE (R159): the generation of the oldest committed period. -/
def execGenerate : State → Out := liftDev fun d =>
  match d.edge.gens with
  | [] => d
  | g :: rest =>
    let t := max g.at_ d.edge.genAt
    let d := { d with edge := { d.edge with gens := rest } }
    let r := g.legs.foldl (genLeg g) (t, d)
    ({ r.2 with edge := { r.2.edge with genAt := r.1 } }).jumpToTb r.1

/-! ## Legs' registers -/

/-- A write to `EDGE.LEGl_CTRL` (R150, R152). -/
def legCtrlWrite (l : Nat) : Effect := landFirstWrite fun _ _ w d =>
  let was := d.on (F.EDGE_LEG_CTRL_EN l)
  if was ∧ bitsOf w 8 6 ≠ d.rd (F.EDGE_LEG_CTRL_CAR l) then d.blkErr (.EDGE 0) 17
  else
    let d := d.setWord (.EDGE_LEG_CTRL l) w
    d.when (!was && d.on (F.EDGE_LEG_CTRL_EN l)) (heldUnknown l)

/-- LEG_CTRL_WRITE (R150). -/
def execLegCtrlWrite (m : Nat) (l : Fin 1024) (v : Word) : State → Out :=
  writeRow (legCtrlWrite l) m (.EDGE_LEG_CTRL l) v.toNat

/-- A write to `EDGE.LEGl_MINP`: POLICY is written, so the carries clear (R164). -/
def minpWrite (l : Nat) : Effect := fun _ _ w d =>
  ((d.setWord (.EDGE_LEG_MINP l) w).wr (F.EDGE_LEG_CARRY_UPPER l) 0).wr (F.EDGE_LEG_CARRY_LOWER l) 0

/-- A dead time within the limits of a leg; DT_MAX governs where they cross (R171). -/
def Dev.clampDt (d : Dev) (l v : Nat) : Nat :=
  min (max v (d.rd (F.EDGE_LEG_DTLIM_DT_MIN l))) (d.rd (F.EDGE_LEG_DTLIM_DT_MAX l))

/-- A write to `EDGE.LEGl_DT` (R171). -/
def dtWrite (l : Nat) : Effect := fun _ _ w d =>
  let was := d.on (F.EDGE_LEG_DT_ADAPT l)
  let d := d.setWord (.EDGE_LEG_DT l) w
  d.when (!was && d.on (F.EDGE_LEG_DT_ADAPT l)) fun d =>
    let v := d.clampDt l (d.rd (F.EDGE_LEG_DT_DT l))
    let d := (d.wr (F.EDGE_LEG_ADT_RISE l) v).wr (F.EDGE_LEG_ADT_FALL l) v
    d.setLeg l { d.leg l with f16R := none, f16F := none }

/-- ADAPT_ENABLE (R171). -/
def execAdaptEnable (m : Nat) (l : Fin 1024) (v : Word) : State → Out := writeRow (dtWrite l) m (.EDGE_LEG_DT l) v.toNat

/-- LATEINFO_RELEASE (R175). -/
def execLateinfoRelease (m : Nat) : State → Out := writeRow (captureWrite .EDGE_LATEINFO none) m .EDGE_LATEINFO (2 ^ 31)

/-! ## Dead-time adaptation (R168 to R170) -/

/-- An update of an adapted dead time is forwarded by the active (R254). (DESIGN CHOICE, log 69.) -/
def forwardAdt (l dir : Nat) (d : Dev) : Dev :=
  d.when (d.on F.TANDEM_CFG_FWD && d.role == 2) fun d =>
    linkSend (recHead 0x44 0xFF 8 ++ beBytes 2 (l + (if dir = 2 then 2 ^ 15 else 0)) ++
      beBytes 2 (d.rd (fAdt l dir) + d.rd (fFb l dir) * 2 ^ 12)) d

/-- The adaptation profile of a leg. -/
def Dev.prof (d : Dev) (l : Nat) : Nat := d.rd (F.EDGE_LEG_DT_PROF l)

/-- Whether misses count for a leg: the position's latched claim is the unit's own, and not 0 (R170). -/
def Dev.missCounts (d : Dev) (l : Nat) : Bool :=
  d.on (F.EDGE_LEG_DT_ADAPT l) && d.claim != 0 && d.nodeClaim (legSpoke l) == d.claim

/-- A miss, and the fallback where the count reaches its limit (R170). -/
def missDt (l dir : Nat) (d : Dev) : Dev :=
  d.when (d.missCounts l) fun d =>
    let old := d.rd (fMiss l dir)
    let lim := max 1 (d.rd (F.EDGE_DTP_A_MISS_LIM (d.prof l)))
    let d := d.count (fMiss l dir)
    d.when (decide (lim ≤ d.rd (fMiss l dir)) && (decide (old < lim) || !d.on (fFb l dir))) fun d =>
      let d := ((d.noteOld (.EDGE_LEG_ADT l)).wr (fAdt l dir) (d.rd (F.EDGE_LEG_DTLIM_DT_MAX l))).setLeg l ((d.leg l).setF16 dir none)
      let d := (d.wr (fFb l dir) 1).wr F.EDGE_EVT_DT_FALLBACK 1
      forwardAdt l dir (d.latch 47)

/-- A reject (R168): it is counted with its cause, and it is a miss. -/
def rejectDt (l dir cause eseq : Nat) (d : Dev) : Dev :=
  let d := ((d.count (F.EDGE_LEG_DSTAT_REJECTS l)).wr (F.EDGE_LEG_DSTAT_LAST_CAUSE l) cause).wr F.EDGE_EVT_DT_REJECT 1
  missDt l dir (d.setLeg l ((d.leg l).processed dir eseq))

/-- ADT moves towards a target by at most STEP, within its limits (R169). -/
def moveAdt (l dir target : Nat) (d : Dev) : Dev :=
  let step : Int := max 1 (d.rd (F.EDGE_DTP_A_STEP (d.prof l)))
  let old : Int := d.rd (fAdt l dir)
  let by_ := max (-step) (min step ((target : Int) - old))
  let raw := old + by_
  let lo : Int := d.rd (F.EDGE_LEG_DTLIM_DT_MIN l)
  let hi : Int := d.rd (F.EDGE_LEG_DTLIM_DT_MAX l)
  let new := min (max raw lo) hi
  let d := ((d.noteOld (.EDGE_LEG_ADT l)).wr (fAdt l dir) new.toNat).wr (fLim l dir) (b2n (decide (raw < lo ∨ hi < raw)))
  forwardAdt l dir (((d.wr (fFb l dir) 0).wr (fMiss l dir) 0))

/-- A natural entry: the filter moves, and the target is the filtered delay with its margin (R169). -/
def naturalDt (l dir delay : Nat) (d : Dev) : Dev :=
  let q := d.prof l
  let f : Nat := match (d.leg l).f16 dir with
    | none => 16 * delay
    | some f => ((f : Int) + ((16 * delay : Nat) - (f : Int)) / (2 ^ d.rd (F.EDGE_DTP_A_FILT q) : Nat)).toNat
  let d := d.setLeg l ((d.leg l).setF16 dir (some f))
  moveAdt l dir ((f + 15) / 16 + d.rd (F.EDGE_DTP_A_MARGIN q)) d

/-- One entry of a TDELAY record, classified by the first row of R168 that applies. (DEDUCED, log 43.) -/
def delayEntry (l dir : Nat) (e : DelayEntry) (d : Dev) : Dev :=
  let g := d.leg l
  let eseq := e.eseq.toNat
  let delay := e.delay.toNat
  if ¬ d.on (F.EDGE_LEG_DT_ADAPT l) ∨ eseq = 0 ∨ g.done dir = some eseq then d
  else match g.edges.find? fun x => x.1 == eseq with
    | none => rejectDt l dir 1 eseq d
    | some x =>
      if x.2.1 ≠ dir then rejectDt l dir 1 eseq d
      else if e.none_ then rejectDt l dir 2 eseq d
      else if e.sat then rejectDt l dir 3 eseq d
      else if delay < d.rd (F.EDGE_DTP_B_Y_MIN (d.prof l)) then rejectDt l dir 4 eseq d
      else
        let d := d.setLeg l (g.processed dir eseq)
        if x.2.2 ≤ delay then moveAdt l dir (x.2.2 + max 1 (d.rd (F.EDGE_DTP_A_STEP (d.prof l)))) d
        else naturalDt l dir delay d

/-- A TDELAY record of position `pos`: local legs 0 to 3, RISE then FALL (R123), where the frame's claim is the
unit's own (R168). -/
def tdelayRec (n pos claim : Nat) (es : List DelayEntry) (d : Dev) : Dev :=
  d.when (claim == d.claim) fun d =>
    d.each ((List.range 8).filter fun i => decide (i < es.length)) fun i d =>
      delayEntry (4 * (8 * n + pos) + i / 2) (i % 2 + 1) (es.getD i ⟨0, 0, true, false⟩) d

/-- TDELAY (R168). -/
def execTdelay (n : Fin 32) (pos : Fin 8) (claim : BitVec 48) (es : List DelayEntry) : State → Out := liftDev fun d =>
  d.when (d.rimOn n) (tdelayRec n pos claim.toNat es)

/-- The misses of a telemetry cut for one leg (R170). (DEDUCED, log 33.) -/
def cutLeg (l : Nat) (d : Dev) : Dev :=
  let g := d.leg l
  let d := d.when (g.prevR && !g.gotR) (missDt l 1)
  let d := d.when (g.prevF && !g.gotF) (missDt l 2)
  d.setLeg l { d.leg l with gotR := false, gotF := false, prevR := g.nowR, prevF := g.nowF, nowR := false, nowF := false }

/-! ## Blocks at a rim port (R176, R283) -/

/-- Edge records that have not begun transmission are discarded. (DEDUCED, log 32.) -/
def dropEdges (l : List DownRec) : List DownRec := l.filter fun
  | .edge .. => false
  | _ => true

/-- A block that is in force reaches the rim port: pairs are due, edges that wait are gone, held states are UNKNOWN
(R176). A RELEASE that waits for the end of the rim cycle is not sent (R284). -/
def blockStart (n : Nat) (d : Dev) : Dev :=
  let r := d.rim n
  if d.blockInForce n ∧ ¬ r.blocked then
    let d := d.setRim n { r with blocked := true, relDue := false, pairDue := d.rimOn n, qEdge := dropEdges r.qEdge }
    d.each (legsOf n) heldUnknown
  else d

/-- BLOCK_START (R176). -/
def execBlockStart (n : Fin 32) : State → Out := liftDev (blockStart n)

/-- BLOCK_END (R176, R283): no block remains in force on the rim. The RELEASEs wait for the end of the rim cycle, in
which a new block would keep them back (R284). -/
def execBlockEnd (n : Fin 32) : State → Out := liftDev fun d =>
  let r := d.rim n
  if r.blocked ∧ ¬ d.blockInForce n then d.setRim n { r with blocked := false, pairDue := false, relDue := true } else d

/-- The RELEASEs after a block, to each ADMITTED position: BYPASS open first where the last pair carried BYPASS (R283).
A position in shadow is sent nothing (R255). -/
def releaseRim (n : Nat) (d : Dev) : Dev :=
  let open_ := (d.rim n).pairBypass
  let d := d.setRim n { d.rim n with relDue := false }
  d.each ((spokesOf n).filter fun k => d.spokeSt k == 5 && !d.shadow k) fun k d =>
    let d := d.when open_ (sendCfg n (.bypass (posOf k) 2))
    sendCfg n (.release (posOf k) (d.spoke k).legs) d

/-! ## The interlock's CFG (R167) -/

/-- Whether edges of a position made under another interlock than `v` have not left the rim port. -/
def Dev.oldEdges (d : Dev) (k v : Nat) : Bool :=
  ((d.rim (rimOf k)).qEdge.any fun
    | .edge pos _ _ _ _ _ _ ilk => pos == posOf k && ilk != v
    | _ => false) ||
  d.edge.gens.any fun g => g.legs.any fun j => legSpoke j.leg == k && j.ilk != v

/-- INTERLOCK_CFG_SEND (R167): the CFG of an increase, once every edge made under the old value has left.
(DEDUCED, log 37.) -/
def execInterlockCfgSend (k : Fin 256) : State → Out := liftDev fun d =>
  match (d.spoke k).ilkCur with
  | none => d
  | some v =>
    if (d.spoke k).ilkUp ∧ d.configured k ∧ ¬ d.shadow k ∧ ¬ d.oldEdges k v ∧
        ¬ (d.spoke k).cfg.any (fun i => i.param == 4) then cfgItem k 4 [v] d
    else d

end Sys2Proof.Machine
end

