-- ==== Sys2Proof/Machine/Float.lean ====
section
/-!
DEFINITION. Sys2Proof/Machine/Float.lean: the arithmetic of the loop engines (R209): IEEE 754 binary64 and binary32
with one rounding to nearest, ties to even, and subnormal values replaced by zero of the same sign.
-/
namespace Sys2Proof.Machine

/-- A number as IEEE 754 has it: not a number, an infinity, or a sign with `m` × 2^`e`. -/
inductive Num where
  | nan
  | inf (neg : Bool)
  | fin (neg : Bool) (m : Nat) (e : Int)
  deriving DecidableEq, Repr

/-- A format: significant bits, and the least and greatest exponents of normal numbers. -/
structure Format where
  prec : Nat
  emin : Int
  emax : Int

/-- binary64. -/
def f64 : Format := ⟨53, -1022, 1023⟩
/-- binary32. -/
def f32 : Format := ⟨24, -126, 127⟩

/-- A quotient by a power of two, rounded to nearest, ties to even. -/
def shiftRne (m sh : Nat) : Nat :=
  let q := m / 2 ^ sh
  let r := 2 * (m % 2 ^ sh)
  if 2 ^ sh < r ∨ (r = 2 ^ sh ∧ q % 2 = 1) then q + 1 else q

/-- Rounding to a format (R209): beyond its range an infinity; a subnormal result is a zero. -/
def Num.round (f : Format) : Num → Num
  | .fin neg 0 _ => .fin neg 0 0
  | .fin neg m e =>
    let lsb := max (e + Nat.log2 m + 1 - f.prec) (f.emin - f.prec + 1)
    let q := if lsb ≤ e then m * 2 ^ (e - lsb).toNat else shiftRne m (lsb - e).toNat
    let carried := q == 2 ^ f.prec
    let q := if carried then 2 ^ (f.prec - 1) else q
    let lsb := if carried then lsb + 1 else lsb
    if q < 2 ^ (f.prec - 1) then .fin neg 0 0
    else if f.emax < lsb + f.prec - 1 then .inf neg
    else .fin neg q lsb
  | n => n

/-- The number of a bit pattern of `ebits` exponent bits; a subnormal is a zero of its sign (R209). -/
def Num.decode (f : Format) (ebits : Nat) (v : Nat) : Num :=
  let neg := bitAt v (f.prec - 1 + ebits)
  let e := bitsOf v (f.prec - 1) ebits
  let m := bitsOf v 0 (f.prec - 1)
  if e = 2 ^ ebits - 1 then (if m = 0 then .inf neg else .nan)
  else if e = 0 then .fin neg 0 0
  else .fin neg (2 ^ (f.prec - 1) + m) ((e : Int) + f.emin - f.prec)

/-- The bit pattern of a number that is rounded to the format; the quiet NaN of R218 for not a number. -/
def Num.encode (f : Format) (ebits : Nat) : Num → Nat
  | .nan => (2 ^ (ebits + 1) - 1) * 2 ^ (f.prec - 2)
  | .inf neg => b2n neg * 2 ^ (f.prec - 1 + ebits) + (2 ^ ebits - 1) * 2 ^ (f.prec - 1)
  | .fin neg m e =>
    b2n neg * 2 ^ (f.prec - 1 + ebits) +
      (if m = 0 then 0 else (e + f.prec - f.emin).toNat * 2 ^ (f.prec - 1) + (m - 2 ^ (f.prec - 1)))

/-- The number of a binary64 pattern. -/
def Num.of64 : Nat → Num := Num.decode f64 11
/-- The number of a binary32 pattern, which binary64 holds exactly (R209). -/
def Num.of32 : Nat → Num := Num.decode f32 8
/-- The binary64 pattern of a number. -/
def Num.to64 (n : Num) : Nat := (n.round f64).encode f64 11
/-- The binary32 pattern of a number: rounded, and a NaN as a quiet NaN. -/
def Num.to32 (n : Num) : Nat := (n.round f32).encode f32 8

/-- The number of an integer. -/
def Num.ofInt (i : Int) : Num := .fin (decide (i < 0)) i.natAbs 0
/-- `m` × 2^`e`. -/
def Num.scaled (i : Int) (e : Int) : Num := .fin (decide (i < 0)) i.natAbs e

/-- Not a number. -/
def Num.isNan : Num → Bool
  | .nan => true
  | _ => false

/-- The negative. -/
def Num.neg : Num → Num
  | .nan => .nan
  | .inf s => .inf (!s)
  | .fin s m e => .fin (!s) m e

/-- The signed integer of a finite number in units of 2^`e0`, for `e0` not above its exponent. -/
def Num.units (s : Bool) (m : Nat) (e e0 : Int) : Int :=
  let v : Int := (m * 2 ^ (e - e0).toNat : Nat)
  if s then -v else v

/-- The exact sum of two finite numbers; an exact zero is negative only where both are (round to nearest). -/
def Num.addFin (s1 : Bool) (m1 : Nat) (e1 : Int) (s2 : Bool) (m2 : Nat) (e2 : Int) : Num :=
  let e0 := min e1 e2
  let v := Num.units s1 m1 e1 e0 + Num.units s2 m2 e2 e0
  if v = 0 then .fin (decide (m1 = 0) && decide (m2 = 0) && s1 && s2) 0 0 else .fin (decide (v < 0)) v.natAbs e0

/-- `a` × `b` + `c`, rounded once to binary64 (R209). -/
def Num.fma (a b c : Num) : Num :=
  match a, b, c with
  | .nan, _, _ | _, .nan, _ | _, _, .nan => .nan
  | .fin s1 m1 e1, .fin s2 m2 e2, .fin s3 m3 e3 => (Num.addFin (s1 != s2) (m1 * m2) (e1 + e2) s3 m3 e3).round f64
  | .fin _ _ _, .fin _ _ _, .inf s => .inf s
  | .inf s1, .inf s2, .inf s3 => if (s1 != s2) = s3 then .inf s3 else .nan
  | .inf s1, .inf s2, .fin _ _ _ => .inf (s1 != s2)
  | .inf s1, .fin s2 m _, .inf s3 | .fin s2 m _, .inf s1, .inf s3 =>
    if m = 0 ∨ (s1 != s2) ≠ s3 then .nan else .inf s3
  | .inf s1, .fin s2 m _, .fin _ _ _ | .fin s2 m _, .inf s1, .fin _ _ _ =>
    if m = 0 then .nan else .inf (s1 != s2)

/-- The product, rounded once. -/
def Num.mul (a b : Num) : Num := Num.fma a b (.fin true 0 0)
/-- The sum, rounded once. -/
def Num.add (a b : Num) : Num := Num.fma (.fin false 1 0) a b
/-- The difference, rounded once. -/
def Num.sub (a b : Num) : Num := Num.add a b.neg

/-- Less than, exactly; false where either is not a number. -/
def Num.lt (a b : Num) : Bool :=
  match a, b with
  | .nan, _ | _, .nan => false
  | .inf s, .inf t => s && !t
  | .inf s, _ => s
  | _, .inf t => !t
  | .fin s1 m1 e1, .fin s2 m2 e2 =>
    let e0 := min e1 e2
    decide (Num.units s1 m1 e1 e0 < Num.units s2 m2 e2 e0)

/-- Less than or equal; false where either is not a number. -/
def Num.le (a b : Num) : Bool := !a.isNan && !b.isNan && !Num.lt b a

/-- The nearest integer, ties to even, limited to 0 to `max` (R216). -/
def Num.toCount (max : Nat) : Num → Nat
  | .nan => 0
  | .inf neg => if neg then 0 else max
  | .fin neg m e =>
    let v := if 0 ≤ e then m * 2 ^ (min e 64).toNat else shiftRne m (-e).toNat
    if neg then 0 else min v max

/-! ## One section (R208 to R211, R233) -/

/-- The coefficients, limits and control bits of a section in one bank (R212). -/
structure SecCoef where
  b0 : Num
  b1 : Num
  b2 : Num
  a1 : Num
  a2 : Num
  lo : Num
  hi : Num
  clamp  : Bool
  freeze : Bool

/-- What an evaluation of a section gives: its states, its output, whether it was saturated, and whether the states stand
as they were. -/
structure SecOut where
  s1  : Num
  s2  : Num
  y   : Num
  sat : Bool
  kept : Bool

/-- A value bounded to the limits where CLAMP is 1, and whether it lay beyond one. -/
def SecCoef.limit (q : SecCoef) (v : Num) : Num × Bool :=
  if q.clamp && Num.lt q.hi v then (q.hi, true)
  else if q.clamp && Num.lt v q.lo then (q.lo, true)
  else (v, false)

/-- The states after a state policy: 1 RESET, 2 BUMPLESS, others none (R233). -/
def SecCoef.applyPolicy (q : SecCoef) (policy : Nat) (s1 s2 ylast x : Num) : Num × Num :=
  match policy with
  | 1 => (.fin false 0 0, .fin false 0 0)
  | 2 =>
    let tgt := (q.limit ylast).1
    (Num.sub tgt (Num.mul q.b0 x), Num.sub (Num.mul q.b2 x) (Num.mul q.a2 tgt))
  | _ => (s1, s2)

/-- One evaluation (R208); none where the section holds its output (R210). -/
def SecCoef.eval (q : SecCoef) (policy : Nat) (s1 s2 ylast x : Num) : Option SecOut :=
  if q.clamp && (q.lo.isNan || q.hi.isNan) then none
  else
    let st := q.applyPolicy policy s1 s2 ylast x
    let t0 := Num.fma q.b0 x st.1
    if t0.isNan then none
    else
      let l := q.limit t0
      if l.2 && q.freeze then some ⟨st.1, st.2, l.1, true, !(policy == 1 || policy == 2)⟩
      else
        let n1 := Num.fma q.a1.neg l.1 (Num.fma q.b1 x st.2)
        let n2 := Num.fma q.a2.neg l.1 (Num.mul q.b2 x)
        if n1.isNan || n2.isNan then none else some ⟨n1, n2, l.1, l.2, false⟩

end Sys2Proof.Machine
end

