-- ==== Sys2Proof/Machine/Loop.lean ====
section
/-!
DEFINITION. Sys2Proof/Machine/Loop.lean: the loop engines (R207 to R240): records and operands, starts and swaps,
admission, issue, completion, landing, deadlines and the trace buffers. One row is one event of the schedule of R223;
an event whose instant the rules give happens at that instant.
-/
namespace Sys2Proof.Machine

/-- A loop engine. -/
def Dev.eng (d : Dev) (e : Nat) : Engine := mget {} d.loop.engines e

/-- Replaces a loop engine, with what `LOOPe.STAT` shows of it. -/
def Dev.setEng (d : Dev) (e : Nat) (g : Engine) : Dev :=
  let d := { d with loop := { d.loop with engines := mset d.loop.engines e g } }
  match g.run with
  | none => (d.wr (F.LOOP_STAT_RUNNING e) 0).wr (F.LOOP_STAT_WAITING e) 0
  | some r => (d.wr (F.LOOP_STAT_RUNNING e) 1).wr (F.LOOP_STAT_PC e) r.pc

/-- An engine is clocked: LOOP is up, LOOPCLK runs, its gate is open and its page is not in block reset. -/
def Dev.loopClocked (d : Dev) (e : Nat) : Bool := (d.domPs 1).isSome && !d.pageGated (.LOOP e) false

/-- The period of LOOPCLK in ps. -/
def Dev.loopPs (d : Dev) : Nat := (d.domPs 1).getD 1000

/-- The instant of cycle `i` of a run that started at `start`: the first tick at or after its rising edge (R223, R226).
(DESIGN CHOICE, log 8.) -/
def Dev.cycleAt (d : Dev) (start i : Nat) : Nat := start + (i * d.loopPs + 999) / 1000

/-- The first cycle of a run whose instant is not before `t`. -/
def Dev.cycleOf (d : Dev) (start t : Nat) : Nat :=
  if t ≤ start then 0 else (1000 * (t - start - 1)) / d.loopPs + 1

/-- The whole LOOPCLK cycles in a time of `t` ns. -/
def Dev.loopCycles (d : Dev) (t : Nat) : Nat := t * 1000 / d.loopPs

/-! ## Stored errors met by an engine (R301) -/

/-- The reads of an engine meet errors: corrected ones are counted and written back later, uncorrectable ones are
reported at every read of their word. (DESIGN CHOICE, log 58.) -/
def eccMeet (words : List Nat) (errs : List EccErr) (d : Dev) : Dev :=
  let d := d.each (errs.filter fun x => words.contains x.word && !d.memory.bad.contains x.word) fun x d =>
    if x.uncorr then markBad x.word d
    else countCorrected { d with memory := { d.memory with fixing := x.word :: d.memory.fixing } }
  d.each (words.filter d.memory.bad.contains) reportUncorr

/-! ## Operands (R218, R219) -/

/-- The binary32 form of an integer. -/
def intOperand (i : Int) : Nat := (Num.ofInt i).to32

/-- The quiet NaN of R218. -/
def quietNan : Nat := 0x7FC00000

/-- The 64-bit words of memory that an operand is read from. -/
def operandWords (i : Nat) : List Nat :=
  if i < 0x4000 then wordsOf (telemBase + 4 * (i % 0x2000)) 4
  else if i < 0x4200 then wordsOf (telemBase + 128 * (i % 0x100)) 4
  else []

/-- A channel result as an operand: 16-bit left-aligned, full scale 1.0. -/
def Dev.chanOperand (d : Dev) (ch : Nat) : Nat :=
  let v := leftForm (d.rd (F.ADC_CHRES_VAL ch)) (mget 0 d.adc.form ch)
  (Num.scaled v (if chanSigned ch then -15 else -16)).to32

/-- The count of a carrier at a nanoseconds value; none where it is not running. -/
def Dev.carCount (d : Dev) (c t : Nat) : Option Nat :=
  if d.on (F.EDGE_CAR_STAT_RUN c) then
    ((d.car c).periods.find? fun p => decide (p.1 ≤ t ∧ t < p.1 + p.2)).map fun p => t - p.1
  else none

/-- The age of a subscription's values is that of the read (R334). -/
def Dev.svAge (d : Dev) (s : Nat) : Nat :=
  match mget none (d.station.svAt.map fun e => (e.1, some e.2)) s with
  | none => 0
  | some t => min 16777215 (d.tns - t)

/-- An operand that is not in memory, as binary32 bits (R218); `g` and `r` are the engine and its run. -/
def Dev.plainOperand (d : Dev) (g : Engine) (r : LoopRun) (i : Nat) : Nat :=
  if 0x4200 ≤ i ∧ i ≤ 0x4253 then (if chanOk (i - 0x4200) then d.chanOperand (i - 0x4200) else quietNan)
  else if 0x4300 ≤ i ∧ i ≤ 0x4353 then
    (if chanOk (i - 0x4300) then intOperand (bitsOf (d.rd (F.ADC_CHRES_VAL (i - 0x4300))) 16 4) else quietNan)
  else if 0x5000 ≤ i ∧ i ≤ 0x53FF then
    (if i % 32 = 30 then intOperand (d.svAge ((i - 0x5000) / 32) : Nat)
     else if i % 32 = 31 then intOperand (d.rd (F.STATION_SUB_LOST_LOST ((i - 0x5000) / 32)))
     else mget 0 d.station.svWords (i - 0x5000))
  else if 0x6000 ≤ i ∧ i ≤ 0x63FF then intOperand (d.rd (fAdt (i - 0x6000) 1))
  else if 0x6400 ≤ i ∧ i ≤ 0x67FF then intOperand (d.rd (fAdt (i - 0x6400) 2))
  else if 0x8000 ≤ i ∧ i ≤ 0x83FF then mget 0 d.loop.outputs (i - 0x8000)
  else if 0x8400 ≤ i ∧ i ≤ 0x85FF then d.rd (F.LOOP_SET_VAL (i - 0x8400))
  else if 0x8800 ≤ i ∧ i ≤ 0x887F then d.rd (F.LOOP_CONST_VAL (i - 0x8800))
  else if i = 0x9000 then intOperand (d.loopCycles (d.now - r.start))
  else if i = 0x9001 then intOperand r.since
  else if i = 0x9002 then intOperand (g.runs % 2 ^ 24 : Nat)
  else if 0x9100 ≤ i ∧ i ≤ 0x913F then intOperand (mget 0 r.counts (i - 0x9100) : Nat)
  else if 0x9140 ≤ i ∧ i ≤ 0x917F then
    (if d.on (F.EDGE_CAR_STAT_RUN (i - 0x9140)) then intOperand (d.rd (F.EDGE_CAR_STAT_CPERIOD (i - 0x9140))) else 0)
  else if i = 0xFFFFF then 0
  else quietNan

/-- An operand as an engine reads it, as binary32 bits (R218); a word with an uncorrectable error is a NaN (R301).
(DEDUCED, log 59.) -/
def Dev.operand (d : Dev) (mem : List Host.Cell) (g : Engine) (r : LoopRun) (i : Nat) : Nat :=
  if (operandWords i).any d.memory.bad.contains then quietNan
  else if i < 0x2000 then readWord d mem (telemBase + 4 * i)
  else if i < 0x4000 then intOperand (signedOf 32 (readWord d mem (telemBase + 4 * (i - 0x2000))))
  else if i < 0x4100 then intOperand (bitsOf (readWord d mem (telemBase + 128 * (i - 0x4000))) 16 1)
  else if i < 0x4200 then intOperand (bitsOf (readWord d mem (telemBase + 128 * (i - 0x4100))) 24 8)
  else d.plainOperand g r i

/-! ## Records (R212, R214, R220) -/

/-- The address of a cascade record. -/
def cascAddr (n : Nat) : Nat := cascBase + 64 * n
/-- The address of a section record in a bank. -/
def secAddr (s bank : Nat) : Nat := secBase + 0x40000 * bank + 64 * s
/-- The address of a program entry. -/
def entryAddr (e i : Nat) : Nat := progBase + 0x2000 * e + 16 * i

/-- The operation and argument of the entry at which an engine stands; past entry 511 it is END, and one with an
uncorrectable error acts as an undefined operation (R220, R301). (DEDUCED, log 59.) -/
def Dev.entry (d : Dev) (mem : List Host.Cell) (e pc : Nat) : Nat × Nat :=
  if 512 ≤ pc then (0, 0)
  else if d.touchesBad (entryAddr e pc) 4 then (15, 0)
  else
    let w := readWord d mem (entryAddr e pc)
    (w / 2 ^ 28, w % 2 ^ 28)

/-- Whether the record of a cascade is valid (R214, R301). (DEDUCED, log 59.) -/
def Dev.cascOk (d : Dev) (mem : List Host.Cell) (n : Nat) : Bool :=
  let w := readWord d mem (cascAddr n)
  let count := bitsOf w 16 5
  !d.touchesBad (cascAddr n) 40 && decide (1 ≤ count) && decide (count ≤ 16) && decide (bitsOf w 0 12 + count ≤ 4096)

/-- A value of a section record; one with an uncorrectable error is a NaN. (DEDUCED, log 59.) -/
def Dev.secValue (d : Dev) (a n : Nat) (v : Num) : Num := if d.touchesBad a n then .nan else v

/-- The coefficients of a section in a bank. -/
def Dev.secCoef (d : Dev) (mem : List Host.Cell) (s bank : Nat) : SecCoef :=
  let a := secAddr s bank
  let v (i : Nat) : Num := d.secValue (a + 4 * i) 4 (Num.of32 (readWord d mem (a + 4 * i)))
  let c := readWord d mem (a + 0x1C)
  { b0 := v 0, b1 := v 1, b2 := v 2, a1 := v 3, a2 := v 4, lo := v 5, hi := v 6, clamp := bitAt c 0, freeze := bitAt c 1 }

/-- The binary64 pattern of a state of a section: 0 S1, 1 S2, 2 YLAST. -/
def secState (d : Dev) (mem : List Host.Cell) (s i : Nat) : Nat :=
  ofLeBytes (readBytes d mem 4 (secAddr s 0 + 0x20 + 8 * i) 8)

/-- A state of a section as a number. -/
def Dev.secNum (d : Dev) (mem : List Host.Cell) (s i : Nat) : Num :=
  d.secValue (secAddr s 0 + 0x20 + 8 * i) 8 (Num.of64 (secState d mem s i))

/-! ## Values written as binary32 (R209) -/

/-- A number as binary32 bits. The payload and sign of a NaN are not stated: a quiet NaN with free bits.
(DESIGN CHOICE, log 51.) -/
def narrow (x : Num) (d : Dev) : Nat × Dev :=
  if x.isNan then
    (quietNan + d.free % 2 ^ 22 + (d.free / 2 ^ 22 % 2) * 2 ^ 31, d.taken)
  else (x.to32, d)

/-! ## The trace at the end of a run (R236) -/

/-- The value of a trace node. -/
def nodeValue (mem : List Host.Cell) (e : Nat) (g : Engine) (r : LoopRun) (i : Nat) (d : Dev) : Nat × Dev :=
  let idx := d.rd (F.LOOP_TRACE_NODE_INDEX e i)
  match d.rd (F.LOOP_TRACE_NODE_KIND e i) with
  | 0 => (d.operand mem g r idx, d)
  | 1 => narrow (d.secNum mem (idx % 4096) 2) d
  | k => narrow (d.secNum mem (idx % 4096) (k - 2)) d

/-- N of the trace buffer (R235). -/
def Dev.traceNodes (d : Dev) (e : Nat) : Nat := clampTo 1 16 (d.rd (F.LOOP_TRACE_CFG_NODES e))

/-- The first `n` node values. -/
def nodeValues (mem : List Host.Cell) (e : Nat) (g : Engine) (r : LoopRun) (n : Nat) (d : Dev) : List Nat × Dev :=
  (List.range n).foldl (fun acc i =>
    let x := nodeValue mem e g r i acc.2
    (acc.1 ++ [x.1], x.2)) ([], d)

/-- What a run that ends leaves for the trace, while the buffer is armed or triggered. -/
def traceEnd (mem : List Host.Cell) (e : Nat) (r : LoopRun) (miss : Bool) (last : Nat) (d : Dev) : Dev :=
  let g := d.eng e
  let src := d.rd (F.LOOP_TRACE_TRIG_SRC e)
  let rose := decide (mget 0 g.rises src < mget 0 d.fc.rises src)
  let st := d.rd (F.LOOP_TRACE_STAT_STATE e)
  if st = 1 ∨ st = 2 then
    let x := nodeValues mem e g r (d.traceNodes e) d
    let t := nodeValue mem e g r (d.rd (F.LOOP_TRACE_TRIG_TNODE e)) x.2
    let ended : RunEnd := { rseq := g.runs, startNs := r.startNs, startSec := r.startSec, miss, nan := r.nan, sat := r.sat
                            last, nodes := x.1, tnode := t.1, rose }
    t.2.setEng e { g with ended := g.ended ++ [ended], rises := d.fc.rises }
  else d.setEng e { g with rises := d.fc.rises }

/-! ## Ends of runs (R227 to R230) -/

/-- An event of an engine: bits 4:0 pulse source 34 + e, bits 6:5 source 42 + e (R239). -/
def loopEvent (e src : Nat) (ev en : Nat → FRef) (d : Dev) : Dev := d.eventPulse (ev e) (en e) (src + e)

/-- RUNTIME and RUNMAX of a run (R227), and `STAT.SAT`. (DEDUCED, log 54.) -/
def runTime (e ticks : Nat) (sat : Bool) (d : Dev) : Dev :=
  let t := min ticks (2 ^ 18 - 1)
  ((d.wr (F.LOOP_RUNTIME_LAST e) t).wr (F.LOOP_RUNMAX_MAX e) (max t (d.rd (F.LOOP_RUNMAX_MAX e)))).wr
    (F.LOOP_STAT_SAT e) (b2n sat)

/-- The run is complete in time (R228). (DEDUCED, log 54.) -/
def endRunInTime (mem : List Host.Cell) (e : Nat) (r : LoopRun) (d : Dev) : Dev :=
  let last := r.lastDone.getD d.now - r.start
  let d := traceEnd mem e r false last (runTime e last r.sat d)
  loopEvent e 34 F.LOOP_EVT_END F.LOOP_EVTEN_END (d.setEng e { d.eng e with run := none })

/-- The run ends at its deadline, or by a start that ends it (R222, R229). (DEDUCED, log 54.) -/
def endMissed (mem : List Host.Cell) (e : Nat) (r : LoopRun) (overrun : Bool) (d : Dev) : Dev :=
  let last := d.now - r.start
  let d := { d with loop := r.flights.foldl (fun l (f : Flight) => l.abandon f.casc) d.loop }
  let d := (d.wr (F.LOOP_STAT_MISS e) 1).count (F.LOOP_CNT_MISSES e)
  let d := (d.wr (F.LOOP_MISSINFO_PC e) r.pc).wr (F.LOOP_MISSINFO_ABANDONED e) r.flights.length
  let d := traceEnd mem e r true last (runTime e last r.sat d)
  let d := d.setEng e { d.eng e with run := none }
  let d := loopEvent e 34 F.LOOP_EVT_MISS F.LOOP_EVTEN_MISS d
  let d := d.when overrun fun d =>
    loopEvent e 34 F.LOOP_EVT_OVERRUN F.LOOP_EVTEN_OVERRUN (d.wr (F.LOOP_STAT_OVERRUN e) 1)
  d.when (d.on (F.LOOP_XCFG_MISS_SRC e)) fun d => d.latch 44

/-- The run ends in time once END is passed and every admitted cascade has completed (R228). -/
def checkComplete (mem : List Host.Cell) (e : Nat) (d : Dev) : Dev :=
  match (d.eng e).run with
  | none => d
  | some r => if r.ended ∧ r.flights = [] then endRunInTime mem e r d else d

/-! ## Evaluation (R208, R210, R233) -/

/-- The evaluation of the next section of a cascade (R208). States that the section leaves unchanged keep their bits
(R210, R211). (DEDUCED, log 53.) -/
def Dev.evalNext (d : Dev) (mem : List Host.Cell) (f : Flight) : SecWork × Nat :=
  let s := f.first + f.issued
  let o (i : Nat) : Nat := secState d mem s i
  let policy := match d.loop.marks.find? fun x => x.1 == s with
    | some m => if m.2.2 ≤ f.firstIssue then m.2.1 else 0
    | none => 0
  let held : SecWork × Nat :=
    ({ sec := s, s1 := o 0, s2 := o 1, ylast := o 2, sat := bitAt (mget 0 d.loop.sstat s) 0, nan := true, clean := false }, o 2)
  match (d.secCoef mem s f.bank).eval policy (d.secNum mem s 0) (d.secNum mem s 1) (d.secNum mem s 2) (Num.of64 f.x) with
  | none => held
  | some r =>
    let s1 := if r.kept then o 0 else r.s1.to64
    let s2 := if r.kept then o 1 else r.s2.to64
    ({ sec := s, s1, s2, ylast := r.y.to64, sat := r.sat, nan := false, clean := true }, r.y.to64)

/-- A cascade after its next section has issued in a cycle (R208). -/
def Dev.issueNext (d : Dev) (mem : List Host.Cell) (f : Flight) (cycle : Nat) : Flight :=
  let x := d.evalNext mem f
  { f with x := x.2, issued := f.issued + 1, lastIssue := cycle, work := f.work ++ [x.1]
           nans := if x.1.nan then f.nans ++ [f.first + f.issued] else f.nans }

/-! ## Swaps (R231 to R234) -/

/-- The sections of the cascades of a group (R233). -/
def Dev.groupSections (d : Dev) (mem : List Host.Cell) (g : Nat) : List Nat :=
  ((List.range 1024).filter fun n =>
    d.cascOk mem n && bitsOf (readWord d mem (cascAddr n)) 24 4 == g).flatMap fun n =>
      let w := readWord d mem (cascAddr n)
      (List.range (bitsOf w 16 5)).map fun i => bitsOf w 0 12 + i

/-- The first sections that other engines have issued in the swap tick itself belong to the new bank and the policy: their
evaluations are formed again (R232, R233). -/
def reissueFirst (mem : List Host.Cell) (g : Nat) (d : Dev) : Dev :=
  let again (f : Flight) : Flight :=
    if f.group = g ∧ f.issued = 1 ∧ f.firstIssue = d.now then
      d.issueNext mem { f with x := f.x0, issued := 0, work := [], nans := [], bank := b2n (d.bit F.LOOP_SWAP_BANK g) } f.lastIssue
    else f
  { d with loop := { d.loop with engines := d.loop.engines.map fun (e : Nat × Engine) =>
    (e.1, { e.2 with run := e.2.run.map fun r => { r with flights := r.flights.map again } }) } }

/-- A swap takes effect: the bank inverts and the sections are marked for the policy (R231, R233). A request written in
the same tick belongs to the following start, also where it came first (R5). -/
def swapGroup (mem : List Host.Cell) (e g : Nat) (d : Dev) : Dev :=
  let again := d.againOne .LOOP_SWAP (F.LOOP_SWAP_REQ.lo + g)
  let policy := d.rd (F.LOOP_GRP_CFG_POLICY g)
  let d := (d.wr F.LOOP_SWAP_BANK (if d.bit F.LOOP_SWAP_BANK g then clearBitAt (d.rd F.LOOP_SWAP_BANK) g
    else setBitAt (d.rd F.LOOP_SWAP_BANK) g)).clrBit F.LOOP_SWAP_REQ g
  let marks := (d.groupSections mem g).foldl (fun m s =>
    if policy = 1 ∨ policy = 2 then mset m s (policy, d.now) else merase m s) d.loop.marks
  let d := d.when again fun d =>
    { d.setBit F.LOOP_SWAP_REQ g with loop := { d.loop with reqAt := mset d.loop.reqAt g d.now } }
  reissueFirst mem g (loopEvent e 34 F.LOOP_EVT_SWAP F.LOOP_EVTEN_SWAP { d with loop := { d.loop with marks } })

/-- The swaps due at a start of an engine: those requested in an earlier tick (R231). -/
def dueSwaps (mem : List Host.Cell) (e : Nat) (d : Dev) : Dev :=
  d.each ((List.range 16).filter fun g =>
    d.bit F.LOOP_SWAP_REQ g && d.rd (F.LOOP_GRP_CFG_ENG g) == e && decide (mget 0 d.loop.reqAt g < d.now))
    (swapGroup mem e)

/-- Requests of swaps (R231): a request that stands is not renewed. -/
def requestSwaps (mask : Nat) (d : Dev) : Dev :=
  d.each ((List.range 16).filter fun g => bitAt mask g && !d.bit F.LOOP_SWAP_REQ g) fun g d =>
    let d := d.setBit F.LOOP_SWAP_REQ g
    { d with loop := { d.loop with reqAt := mset d.loop.reqAt g d.now } }

/-- A write to `LOOP.SWAP`: the requests, and the record by which the active forwards them (R254).
(DESIGN CHOICE, log 69.) -/
def swapWrite : Effect := fun _ v _ d =>
  let mask := v % 2 ^ 16
  let d := requestSwaps mask d
  d.when (mask != 0 && d.on F.TANDEM_CFG_FWD && d.role == 2) (linkSend (recHead 0x45 0xFF 8 ++ beBytes 2 mask ++ beBytes 2 0))

/-- SWAP_REQUEST (R231). -/
def execSwapRequest (m : Nat) (v : Word) : State → Out := writeRow swapWrite m .LOOP_SWAP v.toNat

/-- A write to `LOOP.GRPg_CFG` (R234). -/
def grpCfgWrite (g : Nat) : Effect := fun m v w d =>
  if d.bit F.LOOP_SWAP_REQ g then d.blkErr (.LOOP 8) 16 else plainEffect (.LOOP_GRP_CFG g) m v w d

/-- GRP_CFG_WRITE (R234). -/
def execGrpCfgWrite (m : Nat) (g : Fin 16) (v : Word) : State → Out := writeRow (grpCfgWrite g) m (.LOOP_GRP_CFG g) v.toNat

/-! ## The quiet interval (R265, R267) -/

/-- The engines of ENGMASK. -/
def Dev.engMask (d : Dev) : List Nat :=
  let m := d.rd F.TANDEM_MCFG_ENGMASK
  (List.range 8).filter fun e => bitAt (if m = 0 then 1 else m) e

/-- The reference engine: the lowest of ENGMASK (R265). -/
def Dev.refEngine (d : Dev) : Nat := d.engMask.headD 0

/-- The quiet interval of the reference engine's latest run (R265): every engine of ENGMASK has ended its run begun at or
after the reference start, and none has started since they all had. -/
def Dev.quiet (d : Dev) : Bool :=
  match (d.eng d.refEngine).prevStart with
  | none => false
  | some t => d.tandem.quietOver != some (d.eng d.refEngine).runs && d.engMask.all fun e =>
      (d.eng e).run.isNone && (match (d.eng e).prevStart with | some s => decide (t ≤ s) | none => false)

/-- `LAG` rises by one, saturating at 15; at MAX_LAG source 35 latches (R265, R270). (DEDUCED, log 72.) -/
def mirrorLag (d : Dev) : Dev :=
  let d := (d.count F.TANDEM_MSTAT_LAG).wr F.TANDEM_EVT_MIRROR_LAG 1
  d.when (d.rd F.TANDEM_MSTAT_LAG == max 1 (d.rd F.TANDEM_MCFG_MAX_LAG)) fun d => d.latch 35

/-- Whether a list names memory of the loop engines: the section store, the cascade table or program RAM (R264). -/
def loopParts (l : List MirrorEntry) : Bool := l.any fun x => decide (secBase ≤ x.addr ∧ x.addr < progBase + 0x10000)

/-- An engine of ENGMASK starts: the quiet interval is over, and a capture that has not yet read the parts of the loop
engines' memory is discarded (R265). The time that this reading takes is open. (DEDUCED, log 70.) -/
def quietEnds (e : Nat) (d : Dev) : Dev :=
  if ¬ d.engMask.contains e then d
  else
    let d := d.when d.quiet fun d => { d with tandem := { d.tandem with quietOver := some (d.eng d.refEngine).runs } }
    if d.tandem.sending ∧ loopParts d.tandem.list ∧ d.now < d.tandem.capAt + Config.captureNs d.tandem.txEpoch.length then
      mirrorLag ({ d with tandem := { d.tandem with sending := false, txEpoch := [] } }.wr F.TANDEM_MSTAT_STREAMING 0)
    else d

/-! ## Starts (R222) -/

/-- A start during an apply of a mirror epoch tears it (R267). (DESIGN CHOICE, log 73.) -/
def tornStart (d : Dev) : Dev :=
  d.when (d.on F.TANDEM_MSTAT_APPLYING && !d.tandem.torn) fun d =>
    let d := ((d.count F.TANDEM_MCNT_TORN).wr F.TANDEM_EVT_MIRROR_TORN 1).latch 35
    { d with tandem := { d.tandem with torn := true } }

/-- The run begins at entry PSTART (R222). (DEDUCED, log 52.) -/
def beginRun (e : Nat) (d : Dev) : Dev :=
  let d := quietEnds e d
  let g := d.eng e
  let since := match g.prevStart with
    | none => 0
    | some t => d.now - t
  let counts := (List.range 64).filterMap fun c => (d.carCount c d.tns).map fun n => (c, n)
  let r : LoopRun := { start := d.now, startNs := d.tbNs, startSec := d.tbSec % 2 ^ 32, pc := d.rd (F.LOOP_CTRL_PSTART e)
                       since, deadline := d.now + clampTo 100 200000 (d.rd (F.LOOP_DEADLINE_DL e))
                       counts, nextAdmit := 0 }
  (d.wr (F.LOOP_CNT_RUNS e) (d.rd (F.LOOP_CNT_RUNS e) + 1)).setEng e
    { g with run := some r, startDue := false, prevStart := some d.now, gap := since, runs := g.runs + 1
             startNs := d.tbNs, startSec := d.tbSec }

/-- Whether an engine takes a start: EN is 1, it is clocked and loops are not held (R222, R277). -/
def Dev.takesStart (d : Dev) (e : Nat) : Bool := d.on (F.LOOP_CTRL_EN e) && d.loopClocked e && !d.loopsHeld

/-- A start of an engine; several in one tick are one (R222). -/
def loopStart (mem : List Host.Cell) (e : Nat) (d : Dev) : Dev :=
  if ¬ d.takesStart e ∨ (d.eng e).prevStart = some d.now then d.setEng e { d.eng e with startDue := false }
  else
    match (d.eng e).run with
    | none => beginRun e (dueSwaps mem e (tornStart d))
    | some r => beginRun e (dueSwaps mem e (endMissed mem e r true (tornStart d)))

/-- What starts an engine (R4, R222): 0 trigger compare, 1 cut, 2 software only. (DESIGN CHOICE for the reserved code,
log 7.) -/
def Dev.loopSrc (d : Dev) (e : Nat) : Nat := d.code (F.LOOP_CTRL_SRC e) (List.range 3)

/-- A trigger of an engine by a trigger-compare action (R172, R222). -/
def loopTrigger (e : Nat) (d : Dev) : Dev :=
  d.when (d.loopSrc e == 0 && d.takesStart e) fun d => d.setEng e { d.eng e with startDue := true }

/-- LOOP_START (R222): the start that a trigger or a cut has brought. -/
def execLoopStart (e : Fin 8) : State → Out := liftMem fun mem d =>
  if (d.eng e).startDue then (loopStart mem e d, []) else (d, [])

/-- A write to `LOOPe.CTRL` as a register; SWSTART reads 0. -/
def loopCtrlWrite (mem : List Host.Cell) (e : Nat) : Effect := fun m v w d =>
  let d := (plainEffect (.LOOP_CTRL e) m v w d).wr (F.LOOP_CTRL_SWSTART e) 0
  d.when (bitAt v 1) (loopStart mem e)

/-- LOOP_SWSTART (R222). -/
def execLoopSwstart (m : Nat) (e : Fin 8) (v : Word) (s : State) : Out :=
  writeRow (loopCtrlWrite s.mem e) m (.LOOP_CTRL e) v.toNat s

/-! ## Admission (R223) -/

/-- The cascades in an engine's window: admitted, with a section still to issue. -/
def LoopRun.window (r : LoopRun) : List Flight := r.flights.filter fun f => decide (f.issued < f.count)

/-- Whether the wait at an entry is satisfied (R220). -/
def Dev.waitOver (d : Dev) (r : LoopRun) (op arg : Nat) : Bool :=
  match op with
  | 2 => match d.loop.doneAt.find? fun x => x.1 == arg % 1024 with
    | some x => decide (r.start ≤ x.2)
    | none => false
  | 3 => match d.adc.wroteAt.find? fun x => x.1 == arg % 128 with
    | some x => decide (r.start ≤ x.2)
    | none => false
  | 4 => decide (d.cycleAt r.start (arg % 2 ^ 18) ≤ d.now)
  | _ => r.flights.isEmpty

/-- `STAT.WAITING` as the engine stands. -/
def showWait (mem : List Host.Cell) (e : Nat) (d : Dev) : Dev :=
  match (d.eng e).run with
  | none => d
  | some r =>
    let x := d.entry mem e r.pc
    d.wr (F.LOOP_STAT_WAITING e)
      (b2n (!r.ended && decide (2 ≤ x.1 ∧ x.1 ≤ 5) && decide (r.window.length < 8) && !d.waitOver r x.1 x.2))

/-- The admission of a cascade in a cycle: its record and its operands are read in it (R214, R215). -/
def admitFlight (mem : List Host.Cell) (g : Engine) (r : LoopRun) (n cycle : Nat) (d : Dev) : Flight :=
  let a := cascAddr n
  let c := readWord d mem a
  let opx (off : Nat) : Nat := d.operand mem g r (bitsOf (readWord d mem (a + off)) 0 20)
  let x := if bitAt c 28 then Num.sub (Num.of32 (opx 4)) (Num.of32 (opx 8)) else Num.of32 (opx 4)
  { casc := n, admitAt := cycle, first := bitsOf c 0 12, count := bitsOf c 16 5, group := bitsOf c 24 4
    opc := if bitAt c 29 then some (opx 12) else none
    dsts := [(readWord d mem (a + 0x10), readWord d mem (a + 0x14), readWord d mem (a + 0x18)),
             (readWord d mem (a + 0x1C), readWord d mem (a + 0x20), readWord d mem (a + 0x24))]
    x0 := x.to64, x := x.to64 }

/-- The words that the admission of a cascade reads. -/
def Dev.admitWords (d : Dev) (mem : List Host.Cell) (n : Nat) : List Nat :=
  let a := cascAddr n
  let c := readWord d mem a
  wordsOf a 40 ++ operandWords (bitsOf (readWord d mem (a + 4)) 0 20) ++
    (if bitAt c 28 then operandWords (bitsOf (readWord d mem (a + 8)) 0 20) else []) ++
    (if bitAt c 29 then operandWords (bitsOf (readWord d mem (a + 12)) 0 20) else [])

/-- CASCADE_ADMIT (R223): the engine takes the entry at its PC. The reads meet the stored errors `errs`. -/
def execCascadeAdmit (e : Fin 8) (errs : List EccErr) : State → Out := liftMem fun mem d =>
  match (d.eng e).run with
  | none => (d, [])
  | some r =>
    let c := max (d.cycleOf r.start d.now) r.nextAdmit
    if r.ended ∨ 8 ≤ r.window.length ∨ ¬ d.loopClocked e ∨ r.deadline ≤ d.cycleAt r.start c then (d, [])
    else
      let d := d.jumpTo (d.cycleAt r.start c)
      let d := d.when (decide (r.pc < 512)) (eccMeet (wordsOf (entryAddr e r.pc) 4) errs)
      let x := d.entry mem e r.pc
      let g := d.eng e
      let past := { r with pc := r.pc + 1, nextAdmit := c + 1 }
      if 2 ≤ x.1 ∧ x.1 ≤ 5 then (showWait mem e d, [])
      else if x.1 = 1 then
        let n := x.2 % 1024
        let d := eccMeet (d.admitWords mem n) errs d
        let g := { g with run := some past }
        if d.cascOk mem n then
          let f := admitFlight mem g r n c d
          (showWait mem e (d.setEng e { g with run := some { past with flights := r.flights ++ [f] } }), [])
        else (showWait mem e ((d.setEng e g).blkErr (.LOOP e) 17), [])
      else if x.1 = 6 then (showWait mem e (d.setEng e { g with run := some past }), [])
      else
        let d := d.when (decide (7 ≤ x.1)) fun d => d.blkErr (.LOOP e) 16
        (checkComplete mem e (d.setEng e { g with run := some { r with ended := true } }), [])

/-- WAIT_SATISFIED (R220): a wait entry is passed in the cycle in which its condition is true. -/
def execWaitSatisfied (e : Fin 8) : State → Out := liftMem fun mem d =>
  match (d.eng e).run with
  | none => (d, [])
  | some r =>
    let x := d.entry mem e r.pc
    let c := max (max (d.cycleOf r.start d.now) r.nextAdmit) (if x.1 = 4 then x.2 % 2 ^ 18 else 0)
    let t := d.cycleAt r.start c
    if r.ended ∨ ¬ (2 ≤ x.1 ∧ x.1 ≤ 5) ∨ 8 ≤ r.window.length ∨ ¬ d.loopClocked e ∨ r.deadline ≤ t then (d, [])
    else if (d.jumpTo t).waitOver r x.1 x.2 then
      let d := d.jumpTo t
      (showWait mem e (d.setEng e { d.eng e with run := some { r with pc := r.pc + 1, nextAdmit := c + 1 } }), [])
    else (d, [])

/-! ## Issue (R223, R208, R232, R233) -/

/-- The cycle from which a cascade of the window is ready. -/
def Flight.readyAt (f : Flight) : Nat := if f.issued = 0 then f.admitAt + 2 else f.lastIssue + 6

/-- The cycle of the next issue of a run: the earliest at which a cascade is ready, one section per cycle. The admission
of the same cycle, which R223 puts first, changes nothing in it: a cascade is ready two cycles after its own. -/
def Dev.issueAt (d : Dev) (r : LoopRun) : Option Nat :=
  (r.window.map Flight.readyAt).min?.map fun c => max c (max (d.cycleOf r.start d.now) (r.lastIssue + 1))

/-- SECTION_ISSUE (R208, R223): the earliest-admitted ready cascade issues its next section. The reads meet the stored
errors `errs`. -/
def execSectionIssue (e : Fin 8) (errs : List EccErr) : State → Out := liftMem fun mem d =>
  match (d.eng e).run with
  | none => (d, [])
  | some r =>
    match d.issueAt r with
    | none => (d, [])
    | some c =>
      let t := d.cycleAt r.start c
      match r.window.find? fun f => decide (f.readyAt ≤ c) with
      | none => (d, [])
      | some f =>
        if ¬ d.loopClocked e ∨ r.deadline ≤ t then (d, [])
        else
          let d := d.jumpTo t
          let f := if f.issued = 0 then { f with firstIssue := t, bank := b2n (d.bit F.LOOP_SWAP_BANK f.group) } else f
          let s := f.first + f.issued
          let d := eccMeet (wordsOf (secAddr s f.bank) 32 ++ wordsOf (secAddr s 0 + 0x20) 24) errs d
          let f' := d.issueNext mem f c
          let full := decide (8 ≤ r.window.length) && decide (f'.issued = f.count)
          let upd := r.flights.map fun q => if q.casc = f.casc ∧ q.admitAt = f.admitAt then f' else q
          (showWait mem e (d.setEng e { d.eng e with run := some { r with
            flights := upd, lastIssue := c, nextAdmit := if full then max r.nextAdmit (c + 1) else r.nextAdmit } }),
            [])

/-! ## Completion (R217, R226, R215, R216) -/

/-- The value of a further destination and where it goes; none where the destination takes nothing, `some none` where
the value is not a number (R216). -/
def destValue (y : Num) (dst : Nat × Nat × Nat) (d : Dev) : Option (Option (Nat × Nat × Nat)) × Dev :=
  let kind := dst.1 / 2 ^ 28
  if kind = 0 ∨ 5 ≤ kind then (none, d)
  else
    let v := Num.add (Num.mul y (Num.of32 dst.2.1)) (Num.of32 dst.2.2)
    if v.isNan then (some none, d)
    else if kind = 1 then (some (some (1, bitsOf dst.1 0 9, v.to32)), d)
    else if kind = 4 then (some (some (4, bitsOf dst.1 0 6, 0)), d)
    else (some (some (kind, bitsOf dst.1 0 10, v.toCount 16777215)), d)

/-- A NaN of a cascade: its flags, its capture in the manner of R43, and source 45 (R210). -/
def nanCapture (e n sec : Nat) (d : Dev) : Dev :=
  let d := d.wr (F.LOOP_STAT_NAN e) 1
  let words : List (Reg × Nat) := [(.LOOP_NANINFO e, 2 ^ 31 + sec % 2 ^ 12 * 2 ^ 16 + n % 2 ^ 10)]
  let d := (d.noteCapture (.LOOP_NANINFO e) words).when (!d.on (F.LOOP_NANINFO_VALID e)) fun d => d.setWords words
  let d := loopEvent e 34 F.LOOP_EVT_NAN F.LOOP_EVTEN_NAN d
  d.when (d.on (F.LOOP_XCFG_NAN_SRC e)) fun d => d.latch 45

/-- The states of a section are committed: memory, SSTAT and its policy mark (R217, R212, R233). -/
def commitSection (firstIssue : Nat) (w : SecWork) (d : Dev) : Dev :=
  let old := mget 0 d.loop.sstat w.sec
  let evals := (old / 2 ^ 16 + 1) % 2 ^ 16
  let marks := match d.loop.marks.find? fun x => x.1 == w.sec with
    | some m => if w.clean ∧ m.2.2 ≤ firstIssue then merase d.loop.marks w.sec else d.loop.marks
    | none => d.loop.marks
  clearErrors ((List.range 3).map fun i => secAddr w.sec 0 + 0x20 + 8 * i)
    { d with loop := { d.loop with
      sstat := mset d.loop.sstat w.sec (evals * 2 ^ 16 + b2n w.nan * 2 + b2n w.sat), marks } }

/-- The bytes of a section's states. -/
def stateEffs (w : SecWork) : MemEff :=
  .bytes (secAddr w.sec 0 + 0x20) (leBytes 8 w.s1 ++ leBytes 8 w.s2 ++ leBytes 8 w.ylast)

/-- A cascade completes at the present instant: its states are committed together and its writes launched.
(DEDUCED, log 53.) -/
def completeFlight (e : Nat) (start : Nat) (f : Flight) (d : Dev) : Dev × List MemEff :=
  let i := f.lastIssue
  let d := d.each f.work (commitSection f.firstIssue)
  let x := Num.of64 f.x
  let y := match f.opc with
    | none => x
    | some c => Num.add x (Num.of32 c)
  let lost := f.opc.isSome && y.isNan
  let o := narrow y d
  let d := if lost then d else o.2
  let y32 := if y.isNan then Num.nan else Num.of32 o.1
  let dv := f.dsts.foldl (fun acc dst =>
    let v := destValue y32 dst acc.2
    (acc.1 ++ [v.1], v.2)) (([] : List (Option (Option (Nat × Nat × Nat)))), d)
  let vals := if lost then [] else dv.1
  let d := dv.2
  let dead := vals.any fun v => v == some none
  let live := vals.filterMap fun v => v.join
  let sat := f.work.any fun w => w.sat
  let nan := !f.nans.isEmpty || lost || dead
  let evals := (mget 0 d.loop.cstat f.casc / 2 ^ 16 + 1) % 2 ^ 16
  let d := { d with loop := { d.loop with
    cstat := mset d.loop.cstat f.casc (evals * 2 ^ 16 + b2n nan * 2 + b2n sat)
    tdone := mset d.loop.tdone f.casc d.tbNs
    doneAt := mset d.loop.doneAt f.casc d.now } }
  let first : List Landing := if lost then [] else
    [{ at_ := d.cycleAt start (i + 7), casc := f.casc, out := some o.1, dsts := live.filter fun v => v.1 == 1 }]
  let edges := live.filter fun v => v.1 != 1
  let second : List Landing := if edges.isEmpty then [] else
    [{ at_ := d.cycleAt start (i + 8), casc := f.casc, out := none, dsts := edges }]
  let g := d.eng e
  let run := g.run.map fun r => { r with
    flights := r.flights.filter fun q => !(q.casc == f.casc && q.admitAt == f.admitAt)
    lastDone := some d.now, sat := r.sat || sat, nan := r.nan || nan }
  let d := d.setEng e { g with run, landings := g.landings ++ first ++ second }
  let sec := match f.nans with
    | s :: _ => s
    | [] => if lost then 0xFFF else 0xFFE
  (d.when nan (nanCapture e f.casc sec), f.work.map stateEffs)

/-- CASCADE_COMPLETE (R217): six cycles after its last section issues. -/
def execCascadeComplete (e : Fin 8) : State → Out := liftMem fun mem d =>
  match (d.eng e).run with
  | none => (d, [])
  | some r =>
    let done := r.flights.filter fun f => decide (f.issued = f.count)
    match done.find? fun f => done.all fun q => decide (f.lastIssue ≤ q.lastIssue) with
    | none => (d, [])
    | some f =>
      let t := max d.now (d.cycleAt r.start (f.lastIssue + 6))
      if r.deadline ≤ t ∨ ¬ d.loopClocked e then (d, [])
      else
        let x := completeFlight e r.start f (d.jumpTo t)
        (showWait mem e (checkComplete (runEffs mem x.2) e x.1), x.2)

/-! ## Landing (R226) -/

/-- A field takes a value from a loop engine: a commit of this tick does not see it (R155, R226), and it decides the field
against a bus write of the same tick (R216). -/
def landField (f : FRef) (v : Nat) (d : Dev) : Dev :=
  let d := (d.noteOld f.reg).wr f v
  { d with tick := { d.thisTick with landed := f :: d.thisTick.landed } }

/-- One write of a cascade lands. (DESIGN CHOICE, log 56.) -/
def landOne (v : Nat × Nat × Nat) (d : Dev) : Dev :=
  match v.1 with
  | 1 => landField (F.LOOP_SET_VAL v.2.1) v.2.2 d
  | 2 => landField (F.EDGE_LEG_DUTY_DUTY v.2.1) v.2.2 d
  | 3 => landField (F.EDGE_LEG_OFFSET_OFFSET v.2.1) v.2.2 d
  | _ => xferRequest v.2.1 d

/-- OUTPUT_LAND (R226): the earliest launched writes of an engine land. (DESIGN CHOICE, log 56.) -/
def execOutputLand (e : Fin 8) : State → Out := liftDev fun d =>
  let ls := (d.eng e).landings
  match ls.find? fun l => ls.all fun q => decide (l.at_ ≤ q.at_) with
  | none => d
  | some l =>
    if ¬ d.loopClocked e then d
    else
      let d := d.jumpTo l.at_
      let d := d.setEng e { d.eng e with landings := ls.erase l }
      let d := match l.out with
        | none => d
        | some o => { d with loop := { d.loop with outputs := mset d.loop.outputs l.casc o } }
      d.each l.dsts landOne

/-- LOOP_DEADLINE (R229): the deadline tick of a run that is not complete. -/
def execLoopDeadline (e : Fin 8) : State → Out := liftMem fun mem d =>
  match (d.eng e).run with
  | none => (d, [])
  | some r =>
    let d := d.jumpTo r.deadline
    (endMissed mem e r false d, [])

/-! ## Trace buffers (R235 to R238) -/

/-- Records held by a buffer of N nodes, and the bytes of one. -/
def traceSize (n : Nat) : Nat := 16 + (4 * n + 15) / 16 * 16

/-- Records held (R235). -/
def traceHeld (n : Nat) : Nat := 65536 / traceSize n

/-- A write to `TRACE_CTRL`: STOP returns to IDLE, FORCE waits for the next run, ARM leaves IDLE (R237).
(DEDUCED, log 55.) -/
def traceCtrlWrite (e : Nat) : Effect := fun _ v _ d =>
  let d := d.when (bitAt v 2) fun d =>
    (d.wr (F.LOOP_TRACE_STAT_STATE e) 0).setEng e { d.eng e with ended := [] }
  let d := d.when (bitAt v 1) fun d => d.wr (F.LOOP_TRACE_CTRL_FORCE e) 1
  d.when (bitAt v 0 && d.rd (F.LOOP_TRACE_STAT_STATE e) == 0) fun d =>
    ((d.wr (F.LOOP_TRACE_STAT_STATE e) 1).wr (F.LOOP_TRACE_STAT_WPTR e) 0).setEng e
      { d.eng e with decim := 0, sinceTrig := 0, prevNode := none, ended := [] }

/-- TRACE_ARM (R237). -/
def execTraceArm (m : Nat) (e : Fin 8) (v : Word) : State → Out := writeRow (traceCtrlWrite e) m (.LOOP_TRACE_CTRL e) v.toNat

/-- TRACE_STOP (R237). -/
def execTraceStop (m : Nat) (e : Fin 8) (v : Word) : State → Out := writeRow (traceCtrlWrite e) m (.LOOP_TRACE_CTRL e) v.toNat

/-- TRACE_FORCE (R237). -/
def execTraceForce (m : Nat) (e : Fin 8) (v : Word) : State → Out := writeRow (traceCtrlWrite e) m (.LOOP_TRACE_CTRL e) v.toNat

/-- Whether a run meets the trigger (R238). (DEDUCED, log 55.) -/
def Dev.traceTriggers (d : Dev) (e : Nat) (prev : Option Nat) (x : RunEnd) : Bool :=
  d.on (F.LOOP_TRACE_CTRL_FORCE e) ||
  match d.rd (F.LOOP_TRACE_TRIG_KIND e) with
  | 1 =>
    let level := Num.of32 (d.rd (F.LOOP_TRACE_LEVEL_LEVEL e))
    (match prev with
      | none => false
      | some p =>
        let p := Num.of32 p
        let c := Num.of32 x.tnode
        let up := Num.lt p level && Num.le level c
        let down := Num.lt level p && Num.le c level
        match d.rd (F.LOOP_TRACE_TRIG_DIR e) with
        | 0 => up
        | 1 => down
        | _ => up || down)
  | 2 => x.miss
  | 3 => x.rose
  | _ => false

/-- The bytes of a record (R235). -/
def traceBytes (n : Nat) (x : RunEnd) (trig : Bool) : List (BitVec 8) :=
  let flags := b2n x.miss + 2 * b2n x.nan + 4 * b2n x.sat + 8 * b2n trig + n * 2 ^ 8 + (x.last + 3) / 4 * 2 ^ 16
  let body := (x.nodes.take n).flatMap (leBytes 4)
  let rec_ := leBytes 4 x.rseq ++ leBytes 4 x.startNs ++ leBytes 4 x.startSec ++ leBytes 4 flags ++ body
  rec_ ++ List.replicate (traceSize n - rec_.length) 0

/-- TRACE_RECORD (R236 to R238): the oldest run that has ended is judged and, where it is due, recorded.
(DEDUCED, log 55.) -/
def execTraceRecord (e : Fin 8) : State → Out := liftMem fun _ d =>
  let g := d.eng e
  match g.ended with
  | [] => (d, [])
  | x :: rest =>
    let st := d.rd (F.LOOP_TRACE_STAT_STATE e)
    if ¬ d.loopClocked e then (d, [])
    else if st ≠ 1 ∧ st ≠ 2 then (d.setEng e { g with ended := rest }, [])
    else
      let n := d.traceNodes e
      let held := traceHeld n
      let pre := min (held - 1) (d.rd (F.LOOP_TRACE_CFG_PRE e))
      let decim := if d.rd (F.LOOP_TRACE_CFG_DECIM e) = 0 then 256 else d.rd (F.LOOP_TRACE_CFG_DECIM e)
      let trig := st == 1 && d.traceTriggers e g.prevNode x
      let due := trig || decide (decim ≤ g.decim + 1)
      let idx := d.rd (F.LOOP_TRACE_STAT_WPTR e)
      let since := if trig then 1 else if st = 2 ∧ due then g.sinceTrig + 1 else g.sinceTrig
      let d := d.setEng e { g with ended := rest, decim := if due then 0 else g.decim + 1, sinceTrig := since
                                   prevNode := some x.tnode }
      let d := d.when trig fun d =>
        loopEvent e 42 F.LOOP_EVT_TRIG F.LOOP_EVTEN_TRIG
          (((d.wr (F.LOOP_TRACE_STAT_STATE e) 2).wr (F.LOOP_TRACE_STAT_TRIGPTR e) idx).wr (F.LOOP_TRACE_CTRL_FORCE e) 0)
      let d := d.when due fun d => d.wr (F.LOOP_TRACE_STAT_WPTR e) ((idx + 1) % held)
      let d := d.when (due && (trig || st == 2) && decide (held - pre ≤ since)) fun d =>
        loopEvent e 42 F.LOOP_EVT_DONE F.LOOP_EVTEN_DONE (d.wr (F.LOOP_TRACE_STAT_STATE e) 3)
      (d, if due then [.bytes (traceBase + 0x10000 * e + traceSize n * idx) (traceBytes n x trig)] else [])

/-- The registers of the trace configuration: TRACE_CFG, TRACE_TRIG, TRACE_LEVEL and the nodes. -/
def traceReg (e w : Nat) : Reg :=
  match w with
  | 0 => .LOOP_TRACE_CFG e
  | 1 => .LOOP_TRACE_TRIG e
  | 2 => .LOOP_TRACE_LEVEL e
  | n => .LOOP_TRACE_NODE e (n - 3)

/-- A write to the trace configuration: ignored with TRACE_BUSY while ARMED or TRIGGERED (R238). -/
def traceCfgWrite (e : Nat) (r : Reg) : Effect := fun m v w d =>
  let st := d.rd (F.LOOP_TRACE_STAT_STATE e)
  if st = 1 ∨ st = 2 then d.blkErr (.LOOP e) 18 else plainEffect r m v w d

/-- TRACE_CFG_WRITE (R238). -/
def execTraceCfgWrite (m : Nat) (e : Fin 8) (w : Fin 19) (v : Word) : State → Out :=
  writeRow (traceCfgWrite e (traceReg e w)) m (traceReg e w) v.toNat

/-- A write to RUNMAX: CLR clears MAX (R227). -/
def runmaxWrite (e : Nat) : Effect := fun _ v _ d => d.when (bitAt v 31) fun d => d.wr (F.LOOP_RUNMAX_MAX e) 0

/-- RUNMAX_CLEAR (R227). -/
def execRunmaxClear (m : Nat) (e : Fin 8) : State → Out := writeRow (runmaxWrite e) m (.LOOP_RUNMAX e) (2 ^ 31)

/-- NANINFO_RELEASE (R210). -/
def execNaninfoRelease (m : Nat) (e : Fin 8) : State → Out :=
  writeRow (captureWrite (.LOOP_NANINFO e) none) m (.LOOP_NANINFO e) (2 ^ 31)

/-- A block reset of an engine page (R240). (DEDUCED, log 57.) -/
def engineReset (e : Nat) (d : Dev) : Dev :=
  let d := { d with loop := d.loop.abort e }
  d.setEng e { d.eng e with ended := [], startDue := false, decim := 0, sinceTrig := 0, prevNode := none }

end Sys2Proof.Machine
end

