-- ==== Sys2Proof/Machine/Rims.lean ====
section
/-!
DEFINITION. Sys2Proof/Machine/Rims.lean: the rim ports and rim engines: rim cycles and the frames that leave (R108,
R127), upstream frames and their records (R110, R122 to R126, R129 to R139), discovery and admission (R132 to R135),
cell-node firmware transfer (R140, R141) and the errors of a rim (R143). Telemetry cuts stand in Cuts.lean.
-/
namespace Sys2Proof.Machine

/-! ## The lanes (R143) -/

/-- RIM_RXLOCK_CHANGE (R133, R143, R247): the receive lane of an enabled rim gains or loses block lock. -/
def execRimRxlockChange (n : Fin 32) (lock : Bool) : State → Out := liftDev fun d =>
  if ¬ d.rimOn n ∨ d.on (F.RIM_STAT_RXLOCK n) = lock then d
  else
    let d := (d.wr (F.RIM_STAT_RXLOCK n) (b2n lock)).wr (F.RIM_EVT_LINK_CHANGE n) 1
    let r := d.rim n
    let d := d.setRim n { r with lockAt := d.now, everLock := r.everLock || lock }
    d.when (lock && d.rimRuns n) fun d =>
      let d := d.when (bitAt d.tandem.learnDisc n) (learnRim n)
      match (d.rim n).run with
      | some x => d.when (!x.sent) (sendDiscover n)
      | none => d

/-- A cause of source RIMn (R143). -/
def rimCause (n bit : Nat) (d : Dev) : Dev := d.when (d.rimOn n) fun d => (d.blkErr (.RIM n) bit).latch n

/-- LINK_DOWN (R143). -/
def execLinkDown (n : Fin 32) : State → Out := liftDev fun d =>
  let r := d.rim n
  if d.rimOn n ∧ ¬ d.on (F.RIM_STAT_RXLOCK n) then
    rimCause n 16 (d.jumpTo (if r.everLock then r.lockAt + 1001 else r.enabledAt + 1000000))
  else d

/-! ## Echo requests (R129, R130) -/

/-- An ECHO_REQ to a position; in a calibration a predecessor without an answer is lost, and the sixteenth in a row
fails the position (R129). (DEDUCED, log 26.) -/
def sendEcho (k : Nat) (d : Dev) : Dev :=
  let n := rimOf k
  let r := d.rim n
  let tag := r.etag % 0x8000 + d.tid % 2 * 0x8000
  let p := d.spoke k
  let lost := if !p.calDone && p.pend.any (fun e => e.1 == p.lastTag) then p.lost + 1 else p.lost
  if 16 ≤ lost ∧ ¬ p.calDone then failSpoke 3 k d
  else
    let d := (d.setRim n { r with etag := (r.etag + 1) % 0x8000 }).setSpoke k { p with
      lost, lastTag := tag, pend := ((tag, 0) :: p.pend).take 16 }
    sendCfg n (.echoReq (posOf k) tag) d

/-- The number of the rim cycle under way (R108). -/
def Dev.rimCycle (d : Dev) : Nat := d.tns / 1000

/-- What the start of a rim cycle brings a rim whose port sends: it owes a frame, and a pair while it is blocked; the
RELEASEs of a block that ended in the cycle before go out, and a CONFIGURED position is asked for an echo. -/
def rimCycleAt (n : Nat) (d : Dev) : Dev :=
  let r := d.rim n
  let d := d.setRim n { r with frameDue := true, pairDue := d.blockInForce n, relDue := r.relDue && !d.blockInForce n }
  let d := d.when ((r.peerCycle.map fun c => decide (d.rimCycle ≤ c + 1)) != some true) fun d =>
    d.wr (F.RIM_STAT_PEER n) 0
  d.when (d.rimRuns n) fun d =>
    let d := d.when (d.rim n).relDue (releaseRim n)
    d.each ((spokesOf n).filter fun k => d.spokeSt k == 3) sendEcho

/-- RIM_CYCLE (R108, R127, R129): the next rim cycle starts. -/
def execRimCycle : State → Out := liftDev fun d =>
  if d.time.running then
    let d := d.jumpToTb ((d.rimCycle + 1) * 1000)
    d.each d.sendingRims rimCycleAt
  else d

/-- ECHO_TRACK (R130): the tracking interval of a position has passed. -/
def execEchoTrack (k : Fin 256) : State → Out := liftDev fun d =>
  let n := rimOf k
  if d.configured k ∧ d.on (F.RIM_CTRL_TRACK_EN n) ∧ d.rimRuns n then
    let d := d.jumpTo ((d.spoke k).trackAt + max 1 (d.rd (F.RIM_XCFG_ECHO_INT n)) * 10000)
    sendEcho k (d.setSpoke k { d.spoke k with trackAt := d.now })
  else d

/-! ## Frames that leave (R109, R127, R175) -/

/-- The values of a time record whose time point lies three blocks, 31.68 ns, ahead (R99). -/
def Dev.timeVals (d : Dev) (n : Nat) : TimeVals :=
  let eff := d.rd F.TIME_ADDEND_EFF_EFF
  let v := d.tbExact (1000 * d.now + 31680)
  { sec := v / secUnit % 2 ^ 48, ns := v / nsUnit % 1000000000, frac := v % nsUnit, now := eff
    next := ((d.time.annBase : Int) + d.time.annSlew).toNat, seq := (d.rim n).tseq
    flags := b2n d.time.recReload + 2 * d.rd F.CLK_PLLM_STAT_FREEWHEEL + 4 * d.rd F.CLK_PLLM_STAT_DETERM
    period := d.time.period }

/-- The greatest part of a queue, from its front, whose records fill at most `room` bytes. -/
def takeRecs (t : TimeVals) : Nat → List DownRec → List DownRec
  | _, [] => []
  | room, r :: rest =>
    let b := (r.bytes t).length
    if room < b then [] else r :: takeRecs t (room - b) rest

/-- The first `k` edges and the first sampling instant of a queue (R161). -/
def takeEdges : Nat → Bool → List DownRec → List DownRec × List DownRec
  | _, _, [] => ([], [])
  | k, smp, r :: rest =>
    let go := match r with
      | .edge .. => decide (0 < k)
      | _ => smp
    let k' := match r with
      | .edge .. => k - 1
      | _ => k
    let smp' := match r with
      | .edge .. => smp
      | _ => false
    if go then
      let x := takeEdges k' smp' rest
      (r :: x.1, x.2)
    else
      let x := takeEdges k smp rest
      (x.1, r :: x.2)

/-- What one record brings as it leaves in a frame whose records begin at byte `off` (R119, R129, R133, R175). -/
def recLeaves (n off : Nat) (r : DownRec) (d : Dev) : Dev :=
  match r with
  | .time => d.setRim n { d.rim n with tseq := ((d.rim n).tseq + 1) % 65536 }
  | .sample x =>
    let q := (d.rim n).samples
    d.setRim n { d.rim n with samples := if q.contains x then q else q ++ [x] }
  | .discover _ =>
    let again : Bool := match (d.rim n).run with
      | some x => x.again
      | none => false
    let d := d.when (!again) (rescanSent n)
    d.setRim n { d.rim n with run := (d.rim n).run.map fun x => if x.window then { x with sentAt := d.now } else x }
  | .echoReq pos tag =>
    let k := 8 * n + pos
    let p := d.spoke k
    let t1 := 1000 * d.now + 10560 * (1 + off / 8)
    d.setSpoke k { p with pend := p.pend.map fun e => if e.1 = tag then (tag, t1) else e }
  | .release pos legs =>
    let k := 8 * n + pos
    if legs = 0 then d.wr (F.SPOKE_CTRL_BYPASS k) 0
    else (d.wr (F.SPOKE_CTRL_ADMIT k) 0).wr (F.SPOKE_CTRL_UNBYPASS k) 0
  | _ => d

/-- The records of a frame leave, in order. -/
def recsLeave (n : Nat) (t : TimeVals) : Nat → List DownRec → Dev → Dev
  | _, [], d => d
  | off, r :: rest, d => recsLeave n t (off + (r.bytes t).length) rest (recLeaves n off r d)

/-- An edge whose frame ends later than T1 − DLY − 160 ns is sent late (R175). -/
def edgeSent (n : Nat) (r : DownRec) (d : Dev) : Dev :=
  match r with
  | .edge pos _ _ t1 _ _ gleg _ =>
    let dly := (d.rd (F.SPOKE_DLY_VAL (8 * n + pos)) + 999) / 1000
    let left := d.tns + ((d.rim n).freeAt - d.now)
    d.when (decide (t1 < left + dly + 160)) fun d =>
      lateEdge 1 gleg ((d.count F.EDGE_LATECNT_SENT_LATE).wr F.EDGE_EVT_LATE_SENT 1)
  | _ => d

/-- A frame with records leaves. (DESIGN CHOICE, log 35.) -/
def sendFrame (n : Nat) (rs : List DownRec) (d : Dev) : Dev :=
  let t := d.timeVals n
  let d := recsLeave n t 16 rs d
  let d := frameLeaves n rs (rs.flatMap (DownRec.bytes t)) d
  d.each rs (edgeSent n)

/-- A block pair leaves, between two blocks of the lane: a frame in progress goes on two blocks later (R106, R108, R282).
(DESIGN CHOICE, log 35.) -/
def sendPair (n : Nat) (d : Dev) : Dev :=
  let by_ := d.blockBypass n
  let r := d.rim n
  d.setRim n { r with
    pairDue := false, lastPair := blockPair d.claim by_, pairBypass := by_
    inFrame := if d.now < r.freeAt then r.inFrame else []
    freeAt := max d.now r.freeAt + 22 }

/-- The greatest LEN of a frame that may leave now. While the tandem page is enabled the first of a rim cycle has at most
64 bytes, and a later one leaves the lane free within the first 200 ns of the next rim cycle (R241). -/
def Dev.lenRoom (d : Dev) (n : Nat) : Nat :=
  if ¬ d.enabled (.TANDEM 0) then 1024
  else if (d.rim n).frameDue then 64
  else 8 * ((1200 - d.tns % 1000) * 100 / 1056 - 2)

/-- The frame of highest priority leaves (R127): TIME, EDGE and SAMPLE, configuration and echo, FW_DATA, and an empty
frame where the rim cycle still owes one. -/
def transmit (n : Nat) (d : Dev) : Dev :=
  let r := d.rim n
  let room := d.lenRoom n
  let owed (d : Dev) : Dev := d.when r.frameDue (emptyFrame n)
  match r.qTime with
  | q :: rest => sendFrame n [q] (d.setRim n { r with qTime := rest })
  | [] =>
    if !r.qEdge.isEmpty then
      let x := takeEdges (min 14 ((room - 32) / 16)) true r.qEdge
      sendFrame n x.1 (d.setRim n { r with qEdge := x.2 })
    else
      let rs := takeRecs (d.timeVals n) (min 236 (room - 20)) r.qCfg
      if !rs.isEmpty then sendFrame n rs (d.setRim n { r with qCfg := r.qCfg.drop rs.length })
      else match r.qFw with
        | q :: rest => if 544 ≤ room then sendFrame n [q] (d.setRim n { r with qFw := rest }) else owed d
        | [] => owed d

/-- RIM_FRAME_TRANSMIT (R108, R127): a pair that is due leaves between the blocks under way, and what else is due when the
lane is free. -/
def execRimFrameTransmit (n : Fin 32) : State → Out := liftDev fun d =>
  d.when (d.rimSends n) fun d =>
    let d := blockStart n d
    if (d.rim n).pairDue ∧ d.blockInForce n then sendPair n (d.jumpTo (d.blockEdge n))
    else transmit n (d.jumpTo (d.rim n).freeAt)

/-! ## Records of a node -/

/-- The latest NSTAT of a position; in shadow it may move the position (R255). -/
def nodeStat (k nstat : Nat) (d : Dev) : Dev := settle k (d.wr (F.SPOKE_NSTAT_VAL k) nstat)

/-- The hop count of a HOP byte; none where its nibbles are not complements (R106). -/
def hopOf (b : Nat) : Option Nat := if b / 16 = 15 - b % 16 then some (b % 16) else none

/-- The position of a HELLO (R132). -/
def Dev.helloPos (d : Dev) (n : Nat) (r : HelloRec) : Option Nat :=
  let x := if r.posValid then some r.pos.toNat
    else match hopOf r.hopRx.toNat with
      | none => none
      | some h => if r.rxPort = 0 then some h else if h < d.nodes n then some (d.nodes n - 1 - h) else none
  x.filter fun p => p < d.nodes n

/-- What a HELLO reports of a node. The faults of another node are not those of this one. (DEDUCED, log 28, 31.) -/
def helloReport (k : Nat) (r : HelloRec) (d : Dev) : Dev :=
  let other := d.rd64 (F.SPOKE_UID_LO_VAL k) (F.SPOKE_UID_HI_VAL k) != r.uid.toNat
  let d := d.when other fun d => d.setSpoke k { d.spoke k with faults := [], acked := [] }
  let d := (d.wr64 (F.SPOKE_UID_LO_VAL k) (F.SPOKE_UID_HI_VAL k) r.uid.toNat).wr (F.SPOKE_TYPE_VAL k) r.type_.toNat
  let d := (d.wr (F.SPOKE_FWVER_VAL k) r.fwVer.toNat).wr (F.SPOKE_HOPDLY_VAL k) r.hopDly.toNat
  d.setSpoke k { d.spoke k with legs := r.legs.toNat, upAt := d.now }

/-- The judgement of a DISCOVERED position (R133, R255): a mismatch fails it; a HELLO with POS_VALID confirms an ASSIGN,
or in shadow names the position. -/
def judgeHello (k : Nat) (confirmed : Bool) (d : Dev) : Dev :=
  if ¬ d.matches k then failSpoke 1 k d
  else if confirmed && ((d.spoke k).assigned || d.shadow k) then enterIdentified k d
  else settle k d

/-- A HELLO record in a frame with a claim (R132, R133, R134, R141). (DEDUCED, log 31.) -/
def helloRec (n claim : Nat) (r : HelloRec) (d : Dev) : Dev :=
  let d := d.when (d.tid == 0 && d.on (F.RIM_STAT_SIDE_VALID n) && d.on (F.RIM_STAT_SIDE n)) fun d =>
    d.blkErr (.RIM n) 19
  match d.helloPos n r with
  | none => d.count (F.RIM_STAT_EXTRA n)
  | some p =>
    let k := 8 * n + p
    let d := d.wr64 (F.SPOKE_CLAIM_LO_CLAIM k) (F.SPOKE_CLAIM_HI_CLAIM k) claim
    let st := d.spokeSt k
    let old := d.rd64 (F.SPOKE_UID_LO_VAL k) (F.SPOKE_UID_HI_VAL k)
    let confirmed := r.posValid
    if st = 7 then helloReport k r d
    else if 2 ≤ st then
      let restart := (d.spoke k).restarting
      let d := helloReport k r d
      if old ≠ r.uid.toNat then failSpoke 1 k d
      else d.when restart (enterIdentified k)
    else
      let fresh := st == 0 || old != r.uid.toNat
      let d := helloReport k r d
      let d := d.when fresh fun d => putState k 1 0 (d.setSpoke k { d.spoke k with assigned := false })
      judgeHello k confirmed d

/-- A claim on a rim above the unit's own non-zero claim (R143). -/
def claimConflict (n c : Nat) (d : Dev) : Dev := d.when (d.claim != 0 && decide (d.claim < c)) (rimCause n 18)

/-- What the CLAIM of an upstream frame shows (R143, R244, R260). -/
def frameClaim (n c : Nat) (d : Dev) : Dev :=
  let d := claimConflict n c (seeClaim c d)
  d.when (c == d.claim && d.claim != 0) fun d => { d with tandem := { d.tandem with ownAt := d.now, ownSeen := true } }

/-- HELLO (R132, R143): a HELLO record in a frame with a claim. -/
def execHello (n : Fin 32) (claim : BitVec 48) (r : HelloRec) : State → Out := liftDev fun d =>
  d.when (d.rimOn n) fun d => (frameClaim n claim.toNat d).when (d.rimRuns n) (helloRec n claim.toNat r)

/-- D of a calibration: the mean of the 48 values left after the 8 highest and 8 lowest are discarded (R129).
(DEDUCED, log 27.) -/
def calibrated (l : List Int) : Int :=
  (((l.mergeSort (fun a b => decide (a ≤ b))).drop 8).take 48).foldl (· + ·) 0 / 48

/-- D is delivered in a DELAY record and in `SPOKEk.DLY` (R129, R130). -/
def deliver (k : Nat) (v : Int) (d : Dev) : Dev :=
  let d := d.wr (F.SPOKE_DLY_VAL k) v.toNat
  rimLatency (rimOf k) (sendCfg (rimOf k) (.delay (posOf k) v.toNat) d)

/-- A value of R in a calibration (R129). -/
def calSample (k : Nat) (x : Int) (d : Dev) : Dev :=
  let p := d.spoke k
  let l := p.echoes ++ [x]
  if l.length < 64 then d.setSpoke k { p with echoes := l }
  else
    let v := calibrated l
    deliver k v (d.setSpoke k { p with
      echoes := [], calDone := true, delayAt := d.now, filt := v * 64, discards := 0, trackAt := d.now })

/-- A value of R while tracking (R130): one that lies more than 8 ns off is discarded, others are filtered; D follows
in steps of 0.25 ns. (DEDUCED, log 27.) -/
def trackSample (k : Nat) (x : Int) (d : Dev) : Dev :=
  let p := d.spoke k
  if 8000 * 64 < (x * 64 - p.filt).natAbs then
    if 16 ≤ p.discards + 1 then failSpoke 3 k d else d.setSpoke k { p with discards := p.discards + 1 }
  else
    let f := p.filt + (x * 64 - p.filt) / 64
    let d := d.setSpoke k { p with filt := f, discards := 0 }
    let cur : Int := d.rd (F.SPOKE_DLY_VAL k)
    d.when (decide (250 * 64 ≤ (f - cur * 64).natAbs)) (deliver k (if cur * 64 < f then cur + 250 else cur - 250))

/-- An ECHO_RSP record; `t4` is the arrival of the first bit of its first block, in ps (R129, R130, R133). One that answers
the partner's request is discarded (R126). (DEDUCED, log 26, 27.) -/
def echoRsp (k : Nat) (r : EchoRec) (t4 : Nat) (d : Dev) : Dev :=
  let tag := r.etag.toNat
  if tag / 0x8000 ≠ d.tid % 2 then d
  else
    let d := nodeStat k r.nstat.toNat d
    let p := d.spoke k
    match p.pend.find? fun e => e.1 == tag with
    | none => d
    | some e =>
      let x := ((t4 : Int) - e.2 - r.turn.toNat) / 2 + d.rdInt (F.SPOKE_ASYM_ASYM k)
      let d := d.setSpoke k { p with pend := p.pend.filter fun e => e.1 ≠ tag, lost := 0 }
      let d := if d.spokeSt k = 3 ∧ ¬ p.calDone then calSample k x d
        else d.when (d.configured k && p.calDone && d.on (F.RIM_CTRL_TRACK_EN (rimOf k))) (trackSample k x)
      d.when (d.spokeSt k == 3 && (d.spoke k).calDone && bitAt r.nstat.toNat 0) fun d => settle k (putState k 4 0 d)

/-- ECHO_RSP (R129). -/
def execEchoRsp (n : Fin 32) (pos : Fin 8) (r : EchoRec) (t4 : Nat) : State → Out := liftDev fun d =>
  d.when (d.rimRuns n) (echoRsp (8 * n + pos) r t4)

/-- The bytes over which a CFG_ACK gives its check (R125). -/
def cfgCrc (vals : List Nat) : Nat := crc32c (vals.flatMap (beBytes 4))

/-- The interlock of an acknowledged CFG: that of the initial CFG, and a decrease, are in force from the next commit
(R167). (DEDUCED, log 37.) -/
def ilkAcked (k : Nat) (i : CfgItem) (d : Dev) : Dev :=
  let p := d.spoke k
  if i.param = 1 ∧ i.vals.length = 4 then d.setSpoke k { p with ilkCommit := some (i.vals.getD 3 20) }
  else if i.param = 4 then
    let v := i.vals.getD 0 20
    let d := d.setSpoke k { p with ilkCur := none, ilkUp := false, ilkCommit := if p.ilkUp then p.ilkCommit else some v }
    ilkBegin k (p.ilkQ.length + 1) d
  else d

/-- A CFG_ACK record (R133, R134). -/
def cfgAck (k : Nat) (r : CfgAckRec) (d : Dev) : Dev :=
  let p := d.spoke k
  match p.cfg.find? fun i => i.param == r.param.toNat && i.vals.length == r.count.toNat &&
      cfgCrc i.vals == r.crc.toNat with
  | none => d
  | some i =>
    let d := d.setSpoke k { p with cfg := p.cfg.filter fun j => j.param ≠ i.param }
    if r.status.toNat ≠ 0 then failSpoke 2 k d
    else
      let d := ilkAcked k i d
      d.when (d.spokeSt k == 2 && (d.spoke k).init && (d.spoke k).cfg.isEmpty) (enterConfigured k)

/-- CFG_ACK (R134). -/
def execCfgAck (n : Fin 32) (pos : Fin 8) (r : CfgAckRec) : State → Out := liftDev fun d =>
  d.when (d.rimRuns n) (cfgAck (8 * n + pos) r)

/-- The commands of `SPOKEk.CTRL` by bit, with the state in which each acts (R133). -/
def ctrlFrom : List (Nat × Nat) := [(0, 4), (1, 5), (2, 6)]

/-- A CTRL command of this very instant, not sent yet, is taken back: its two records leave the queue, and the position
stands as before it (R134). -/
def undoCtrl (k : Nat) (d : Dev) : Dev :=
  let n := rimOf k
  match ctrlFrom.find? fun e => bitAt (d.word (.SPOKE_CTRL k)) e.1 && d.wroteOne (.SPOKE_CTRL k) e.1 with
  | none => d
  | some (i, st) =>
    let mine (r : DownRec) : Bool := match r with
      | .bypass p _ | .release p _ => p == posOf k
      | _ => false
    let q := (d.rim n).qCfg
    let d := d.setRim n { d.rim n with qCfg := q.filter (!mine ·) ++ (q.filter mine).dropLast.dropLast }
    let d := d.clrBit ⟨.SPOKE_CTRL k, 0, 4⟩ i
    rimViews n ((d.wr (F.SPOKE_STATE_STATE k) st).wr (F.SPOKE_STATE_CAUSE k) 0)

/-- A FAULT record moves its position (R124, R133). (DEDUCED, log 28.) -/
def faultMoves (k : Nat) (r : FaultRec) (d : Dev) : Dev :=
  let code := r.fcode.toNat
  if ¬ d.identified k then d
  else if d.spokeSt k = 5 ∧ r.action.toNat = 2 then putState k 6 0 d
  else if code = 6 then failSpoke 8 k d
  else if code = 7 then failSpoke 7 k d
  else d.when (r.action.toNat == 1) (failSpoke 6 k)

/-- A write to `SPOKEk.CTRL` (R133, R134, R255): a command in another state, or in shadow, is ignored and its bit reads
0; a command that is sent reads 1 until its records leave. -/
def spokeCtrlWrite (k : Nat) : Effect := fun _ v _ d =>
  let n := rimOf k
  let st := d.spokeSt k
  if ¬ d.rimRuns n then d
  else if bitAt v 0 ∧ st = 4 ∧ ¬ d.shadow k then (admitSpoke k d).wr (F.SPOKE_CTRL_ADMIT k) 1
  else if bitAt v 1 ∧ st = 5 ∧ ¬ d.shadow k then
    let d := sendCfg n (.release (posOf k) 0) (sendCfg n (.bypass (posOf k) 1) d)
    (putState k 6 0 d).wr (F.SPOKE_CTRL_BYPASS k) 1
  else if bitAt v 2 ∧ st = 6 ∧ ¬ d.shadow k then (admitSpoke k d).wr (F.SPOKE_CTRL_UNBYPASS k) 1
  else if bitAt v 3 ∧ (st = 6 ∨ st = 7) then
    let d := (absentSpoke k d).wr (F.SPOKE_CTRL_RESCAN k) 1
    match (d.rim n).run with
    | some r => d.setRim n { d.rim n with run := some { r with again := r.sent } }
    | none => startRun n d
  else d

/-- The sequence numbers of a list that have not fallen half the range of FSEQ behind a new one. (DEDUCED, log 28.) -/
def fseqNear (fseq : Nat) (l : List Nat) : List Nat := l.filter fun a => decide ((fseq + 65536 - a) % 65536 < 32768)

/-- A FAULT record (R124, R133, R139): one with a new FSEQ is reported; the rim engine acknowledges it and moves the
position, and ignores an FSEQ that it has acknowledged. A CTRL write of the same cycle comes after it (R134).
(DEDUCED, log 28.) -/
def faultRec (k : Nat) (r : FaultRec) (d : Dev) : Dev :=
  let n := rimOf k
  let fseq := r.fseq.toNat
  let p := d.spoke k
  let d := d.when (!p.faults.contains fseq) fun d =>
    let d := d.setSpoke k { p with faults := fseq :: fseqNear fseq p.faults }
    ((d.wr (F.SPOKE_FAULT_VAL k) (fseq * 2 ^ 16 + r.fcode.toNat)).wr (F.RIM_EVT_FAULT n) 1).latch 60
  if ¬ d.rimRuns n ∨ p.acked.contains fseq then d
  else
    let d := d.setSpoke k { d.spoke k with acked := fseq :: fseqNear fseq p.acked }
    let d := sendCfg n (.ackFault (posOf k) fseq) d
    let late := d.thisTick.writes.find? fun e => e.1 = .SPOKE_CTRL k
    let d := faultMoves k r (undoCtrl k d)
    match late with
    | some (_, m, v) => spokeCtrlWrite k m v v d
    | none => d

/-- FAULT (R139). -/
def execFault (n : Fin 32) (pos : Fin 8) (r : FaultRec) : State → Out := liftDev fun d =>
  d.when (d.rimOn n) (faultRec (8 * n + pos) r)

/-- A TELEM record (R137): into the hidden back buffer, or discarded and counted. -/
def telemRec (n pos port : Nat) (r : TelemRec) (d : Dev) : Dev :=
  let k := 8 * n + pos
  let x := d.rim n
  let latest := (x.samples.filter fun t => decide (t ≤ d.tns)).getLast?
  let ok : Bool := match latest with
    | none => false
    | some t => t % 1000000000 == r.sampleNs.toNat && decide (d.tns < t + max 500 (d.rd (F.RIM_TCFG_CUT_DLY n)))
  let d := nodeStat k r.nstat.toNat d
  if ok ∧ d.identified k then d.setRim n { d.rim n with back := mset (d.rim n).back pos (d.tbNs, port, r) }
  else d.wr (F.RIM_CNT_LATE n) (d.rd (F.RIM_CNT_LATE n) + 1)

/-- TELEM (R137). -/
def execTelem (n : Fin 32) (pos : Fin 8) (port : Fin 2) (r : TelemRec) : State → Out := liftDev fun d =>
  d.when (d.rimOn n) (telemRec n pos port r)

/-! ## Cell-node firmware transfer (R140, R141) -/

/-- The digest of the image, 32 bytes, first byte first (`RIMn.FW_DIGESTi`). -/
def Dev.fwDigest (d : Dev) (n : Nat) : List (BitVec 8) :=
  (List.range 8).flatMap fun i => beBytes 4 (d.rd (F.RIM_FW_DIGEST_D n i))

/-- START of a transfer (R140). The manual does not say what becomes of DONE and FAIL of an earlier transfer, nor of a
START during one: the model clears the first and ignores the second. (DESIGN CHOICE, log 171.) -/
def fwStart (n : Nat) (d : Dev) : Dev :=
  if (d.rim n).fw.isSome then d
  else
    let len := d.rd (F.RIM_FW_LEN_VAL n)
    let mask := d.rd (F.RIM_FW_CTRL_MASK n)
    let blocks := (len + 511) / 512
    let x : FwXfer := { src := d.rd (F.RIM_FW_SRC_VAL n), len, blocks, mask, at_ := d.now }
    let d := d.setRim n { d.rim n with fw := some x }
    let d := ((d.setWord (.RIM_FW_STAT n) 0).wr (F.RIM_FW_CTRL_START n) 1).wr (F.RIM_STAT_FW_BUSY n) 1
    sendCfg n (.fwStart len blocks mask (d.fwDigest n)) (rimProgStart n 2 (0, 0) d)

/-- ACTIVATE: FW_ACTIVATE with OP 1 to the positions that hold a good digest (R141). -/
def fwActivate (n : Nat) (d : Dev) : Dev :=
  let done := d.rd (F.RIM_FW_STAT_DONE n)
  d.each ((List.range 8).filter (bitAt done)) fun p => sendCfg n (.fwActivate p ((d.fwDigest n).drop 28) 1)

/-- A write to `RIMn.FW_CTRL` (R140, R141). ACTIVATE is sent at once; ABORT waits for the next block. -/
def fwCtrlWrite (n : Nat) : Effect := fun _ v w d =>
  let d := d.wr (F.RIM_FW_CTRL_MASK n) (bitsOf w 0 8)
  let d := d.when (bitAt v 8 && d.rimRuns n) (fwStart n)
  let d := d.when (bitAt v 9 && d.rimRuns n) (fwActivate n)
  match (d.rim n).fw with
  | none => d
  | some x => d.when (bitAt v 10) fun d =>
      (d.wr (F.RIM_FW_CTRL_ABORT n) 1).setRim n { d.rim n with fw := some { x with abort := true } }

/-- FW_START (R140). -/
def execFwStart (m : Nat) (n : Fin 32) (v : Word) : State → Out := writeRow (fwCtrlWrite n) m (.RIM_FW_CTRL n) v.toNat

/-- FW_ACTIVATE (R141). -/
def execFwActivate (m : Nat) (n : Fin 32) (v : Word) : State → Out := writeRow (fwCtrlWrite n) m (.RIM_FW_CTRL n) v.toNat

/-- FW_ABORT (R141). -/
def execFwAbort (m : Nat) (n : Fin 32) (v : Word) : State → Out := writeRow (fwCtrlWrite n) m (.RIM_FW_CTRL n) v.toNat

/-- The next block that a live target has not acknowledged, from block `b` upwards. -/
def Dev.fwNext (d : Dev) (n : Nat) (x : FwXfer) (b : Nat) : Option Nat :=
  (List.range x.blocks).find? fun i => decide (b ≤ i) && !d.fwBlockDone n x i

/-- The end of the passes: nodes that still miss blocks are marked, and the others are asked to check the digest
(R140). -/
def fwAsk (n : Nat) (x : FwXfer) (d : Dev) : Dev :=
  let live := d.fwLive n x
  let miss := (List.range 8).filter fun p =>
    bitAt live p && (List.range x.blocks).any fun b => !bitAt (mget 0 x.acked b) p
  let d := d.each miss fun p d => d.setBit (F.RIM_FW_STAT_FAIL n) p
  let ask := (List.range 8).filter (bitAt (d.fwLive n x))
  if ask.isEmpty then fwOver n d
  else
    let d := d.setRim n { d.rim n with fw := some { x with asked := true } }
    d.each ask fun p => sendCfg n (.fwActivate p ((d.fwDigest n).drop 28) 0)

/-- The 512 data bytes of a block, zero-padded. -/
def Dev.fwBytes (d : Dev) (mem : List Host.Cell) (n : Nat) (x : FwXfer) (b : Nat) : List (BitVec 8) :=
  let have_ := min 512 (x.len - 512 * b)
  readBytes d mem (8 + n / 16) (x.src + 512 * b) have_ ++ List.replicate (512 - have_) 0

/-- The read of a block by the rim engine as a bus master (R42): none where it receives an error. -/
def Dev.fwReadable (d : Dev) (n : Nat) (x : FwXfer) (b : Nat) : Option RespCode :=
  let a := x.src + 512 * b
  match targetAt a with
  | some (.mem r) =>
    if ¬ d.allowed (8 + n / 16) (.mem r) false then some .violation
    else if d.memGated r then some .gated
    else if d.touchesBad a (min 512 (x.len - 512 * b)) then some .data
    else none
  | _ => some .decode

/-- FW_DATA_SEND (R140, R141): FW_PACE after the last block, the next block of the pass, or the end of the passes.
(DEDUCED, log 34.) -/
def execFwDataSend (n : Fin 32) : State → Out := liftMem fun mem d =>
  match (d.rim n).fw with
  | none => (d, [])
  | some x =>
    if x.asked ∨ ¬ d.rimRuns n then (d, [])
    else
      let d := d.jumpTo (x.at_ + max 2 (d.rd (F.RIM_XCFG_FW_PACE n)) * 1000)
      if x.abort then (fwOver n d, [])
      else
        let first := if x.next = 0 ∧ x.pass = 0 then (if 0 < x.blocks then some 0 else none)
          else d.fwNext n x x.next
        let pick := match first with
          | some b => some (b, x.pass)
          | none => if x.pass < 3 then (d.fwNext n x 0).map fun b => (b, x.pass + 1) else none
        match pick with
        | none => (fwAsk n { x with at_ := d.now } d, [])
        | some (b, pass) =>
          match d.fwReadable n x b with
          | some c => (engineError (8 + n / 16) (x.src + 512 * b) (min 512 (x.len - 512 * b)) false false c d, [])
          | none =>
            let x := { x with next := b + 1, pass, at_ := d.now }
            let d := d.setRim n { d.rim n with fw := some x, qFw := (d.rim n).qFw ++ [.fwData b (d.fwBytes mem n x b)] }
            (rimProgAt n 2 (d.fwShare n x) d, [])

/-- An FW_ACK record (R140, R141). -/
def fwAck (n pos : Nat) (r : FwAckRec) (d : Dev) : Dev :=
  let k := 8 * n + pos
  let st := r.status.toNat
  let b := r.block.toNat
  if st = 4 then d.setSpoke k { d.spoke k with restarting := true, actAt := d.now }
  else match (d.rim n).fw with
    | none => d
    | some x =>
      if ¬ bitAt x.mask pos ∨ bitAt (d.rd (F.RIM_FW_STAT_FAIL n)) pos then d
      else if st = 0 ∧ ¬ x.asked then
        let x := { x with acked := mset x.acked b (setBitAt (mget 0 x.acked b) pos) }
        rimProgAt n 2 (d.fwShare n x) (d.setRim n { d.rim n with fw := some x })
      else if (st = 2 ∨ st = 3) ∧ x.asked then
        let d := d.setBit (if st = 2 then F.RIM_FW_STAT_DONE n else F.RIM_FW_STAT_FAIL n) pos
        let left := d.fwLive n x - (d.fwLive n x &&& d.rd (F.RIM_FW_STAT_DONE n))
        d.when (left == 0) (fwOver n)
      else d

/-- FW_ACK (R140). -/
def execFwAck (n : Fin 32) (pos : Fin 8) (r : FwAckRec) : State → Out := liftDev fun d =>
  d.when (d.rimRuns n) (fwAck n pos r)

/-- FW_HELLO_TIMEOUT (R133, R141): 150 ms after STATUS 4 without a HELLO. (DEDUCED, log 29.) -/
def execFwHelloTimeout (k : Fin 256) : State → Out := liftDev fun d =>
  if (d.spoke k).restarting ∧ d.identified k then failSpoke 9 k (d.jumpTo ((d.spoke k).actAt + 150000000)) else d

/-! ## Upstream frames (R110) -/

/-- A frame that fails R110: counted, and a storm within a timebase ms latches (R143). -/
def badFrame (n : Nat) (d : Dev) : Dev :=
  let ms := d.tns / 1000000
  let r := d.rim n
  let c := if r.crcMs = ms then r.crcCount + 1 else 1
  let d := (d.wr (F.RIM_CNT_CRC n) (d.rd (F.RIM_CNT_CRC n) + 1)).setRim n { r with crcCount := c, crcMs := ms }
  d.when (decide (d.rd (F.RIM_XCFG_CRC_LIMIT n) < c)) (rimCause n 17)

/-- One record of a valid upstream frame; `t4` is the arrival of its first block. A record but HELLO is that of the
position in ADDR; where ADDR is no position, as 0xFE of a node without one, the manual does not say what the report is
to bring: the model ignores the record whole, a FAULT too. (DESIGN CHOICE, log 169.) -/
def upRec (n : Nat) (f : UpFrame) (t4 : Nat) (x : Nat × UpRec) (d : Dev) : Dev :=
  match x.2 with
  | .hello r => d.when (d.rimRuns n) (helloRec n f.claim r)
  | .telem r => d.when (decide (x.1 < 8)) (telemRec n x.1 f.out r)
  | .tdelay es => d.when (decide (x.1 < 8)) (tdelayRec n x.1 f.claim es)
  | .fault r => d.when (decide (x.1 < 8)) (faultRec (8 * n + x.1) r)
  | .echoRsp r => d.when (decide (x.1 < 8) && d.rimRuns n) (echoRsp (8 * n + x.1) r t4)
  | .cfgAck r => d.when (decide (x.1 < 8) && d.rimRuns n) (cfgAck (8 * n + x.1) r)
  | .fwAck r => d.when (decide (x.1 < 8) && d.rimRuns n) (fwAck n x.1 r)

/-- What a valid upstream frame shows beside its records: the claim of its node (R143, R244, R260), the end at which
the unit sits, and that the position is alive. -/
def upFrame (n : Nat) (f : UpFrame) (d : Dev) : Dev :=
  let d := frameClaim n f.claim d
  let d := d.when (f.rim != n && f.rim != 0xFF) fun d => d.blkErr (.RIM n) 21
  let d := (d.wr (F.RIM_STAT_SIDE n) f.out).wr (F.RIM_STAT_SIDE_VALID n) 1
  match f.pos with
  | none => d
  | some p =>
    let k := 8 * n + p
    let d := d.wr64 (F.SPOKE_CLAIM_LO_CLAIM k) (F.SPOKE_CLAIM_HI_CLAIM k) f.claim
    settle k (d.setSpoke k { d.spoke k with upAt := d.now })

/-- UP_FRAME (R110): a frame arrives at a rim port, as its first block and those after it; `t4` is the arrival in ps of its first bit. A record's
first block arrives as many blocks later as it stands behind the SOF (R102, R129). -/
def execUpFrame (n : Fin 32) (b : RimBlock) (bs : List RimBlock) (t4 : Nat) : State → Out := liftDev fun d =>
  if ¬ d.rimOn n then d
  else match (frameOf (b :: bs)).bind fun x => (parseUp x.1).map fun f => (f, x.2) with
    | none => badFrame n d
    | some (f, at_) =>
      if f.up then (upFrame n f d).each f.recs fun x =>
        upRec n f (t4 + 10560 * at_.getD (x.2.2 / 8) 0) (x.1, x.2.1)
      else d

/-! ## Discovery (R133) -/

/-- A write to `RIMn.CTRL`: DISCOVER starts a run; positions are judged by the new settings. -/
def rimCtrlWrite (n : Nat) : Effect := fun _ v w d =>
  let d := d.setWord (.RIM_CTRL n) w
  let d := d.when (bitAt v 8) (startRun n)
  d.when (d.rimRuns n) fun d => rimViews n (d.each (spokesOf n) settle)

/-- DISCOVER (R133). -/
def execDiscover (m : Nat) (n : Fin 32) (v : Word) : State → Out := writeRow (rimCtrlWrite n) m (.RIM_CTRL n) v.toNat

/-- DISCOVERY_WINDOW_END (R133): 50 us after the DISCOVER. -/
def execDiscoveryWindowEnd (n : Fin 32) : State → Out := liftDev fun d =>
  match (d.rim n).run with
  | none => d
  | some r =>
    if r.window ∧ d.rimRuns n then
      let d := d.jumpTo (r.sentAt + 50000)
      let d := d.setRim n { d.rim n with run := some { r with window := false } }
      runProgress n (d.each (spokesOf n) assignSpoke)
    else d

/-- DISCOVERY_LOCK_TIMEOUT (R133): no block lock within 1 ms of the start of a run. -/
def execDiscoveryLockTimeout (n : Fin 32) : State → Out := liftDev fun d =>
  match (d.rim n).run with
  | none => d
  | some r => if r.sent ∨ ¬ d.rimRuns n then d else endRun n (d.jumpTo (r.start + 1000000))

/-- DISCOVERY_END (R133): after the window no position lies between DISCOVERED and the target. -/
def execDiscoveryEnd (n : Fin 32) : State → Out := liftDev fun d =>
  match (d.rim n).run with
  | none => d
  | some r =>
    let holds := (List.range (d.nodes n)).any fun p =>
      decide (1 ≤ d.spokeSt (8 * n + p)) && decide (d.spokeSt (8 * n + p) < d.runTarget n)
    if r.sent ∧ ¬ r.window ∧ ¬ holds ∧ d.rimRuns n then endRun n d else d

/-- AUTO_RESCAN (R133): every 1 ms, a run where a position is ABSENT. -/
def execAutoRescan (n : Fin 32) : State → Out := liftDev fun d =>
  if d.on (F.RIM_CTRL_AUTO_RESCAN n) ∧ d.rimRuns n then
    let d := d.jumpTo ((d.rim n).rescanAt + 1000000)
    let d := d.setRim n { d.rim n with rescanAt := d.now }
    d.when ((List.range (d.nodes n)).any fun p => d.spokeSt (8 * n + p) == 0) (startRun n)
  else d

/-! ## Positions (R133, R134) -/

/-- CFG_RETRY (R133, R134): 10 us after the last try of the oldest item of a position. -/
def execCfgRetry (k : Fin 256) : State → Out := liftDev fun d =>
  let p := d.spoke k
  match p.cfg with
  | [] => d
  | i :: rest =>
    if ¬ d.rimRuns (rimOf k) then d
    else if d.shadow k then d.setSpoke k { p with cfg := rest }
    else
      let d := d.jumpTo (i.at_ + 10000)
      if 3 ≤ i.tries then failSpoke 2 k d
      else
        let d := d.setSpoke k { p with cfg := rest ++ [{ i with tries := i.tries + 1, at_ := d.now }] }
        sendCfg (rimOf k) (.cfg (posOf k) i.param i.vals) d

/-- SYNC_TIMEOUT (R133): 2 ms after DELAY without TSYNC. -/
def execSyncTimeout (k : Fin 256) : State → Out := liftDev fun d =>
  if d.spokeSt k = 3 ∧ (d.spoke k).calDone ∧ d.rimRuns (rimOf k) then
    failSpoke 4 k (d.jumpTo ((d.spoke k).delayAt + 2000000))
  else d

/-- SPOKE_LOST (R133): no valid upstream frame from a position for LOSS × 10 us; a node that restarts has the 150 ms of
R141. (DEDUCED, log 29.) -/
def execSpokeLost (k : Fin 256) : State → Out := liftDev fun d =>
  let n := rimOf k
  if d.identified k ∧ ¬ (d.spoke k).restarting ∧ d.rimRuns n then
    failSpoke 5 k (d.jumpTo ((d.spoke k).upAt + max 1 (d.rd (F.RIM_XCFG_LOSS n)) * 10000))
  else d

/-- SPOKE_ADMIT (R133). -/
def execSpokeAdmit (m : Nat) (k : Fin 256) (v : Word) : State → Out := writeRow (spokeCtrlWrite k) m (.SPOKE_CTRL k) v.toNat

/-- SPOKE_BYPASS (R133). -/
def execSpokeBypass (m : Nat) (k : Fin 256) (v : Word) : State → Out := writeRow (spokeCtrlWrite k) m (.SPOKE_CTRL k) v.toNat

/-- SPOKE_UNBYPASS (R133). -/
def execSpokeUnbypass (m : Nat) (k : Fin 256) (v : Word) : State → Out :=
  writeRow (spokeCtrlWrite k) m (.SPOKE_CTRL k) v.toNat

/-- SPOKE_RESCAN (R133). -/
def execSpokeRescan (m : Nat) (k : Fin 256) (v : Word) : State → Out := writeRow (spokeCtrlWrite k) m (.SPOKE_CTRL k) v.toNat

/-- The element of `cfgVals` that a register holds. -/
def cfgElem : Reg → Nat
  | .SPOKE_SAFE_STATE _ => 1
  | .SPOKE_PAR _ i => 2 + i
  | _ => 0

/-- A write to `SPOKEk.SAFE_STATE`, `SPOKEk.WDOG` or `SPOKEk.PARi`: from CONFIGURED onwards it is sent as CFG, also where
it changes nothing, but INTERLOCK for a change alone (R134, R167). A write that a lock or a missing EXPERT_EN keeps
out is none. -/
def spokeCfgWrite (k : Nat) (r : Reg) : Effect := fun m _ w d =>
  let taken := r.fields.any fun f => d.takes m r f
  let d := d.setWord r w
  d.when (taken && d.configured k && d.rimRuns (rimOf k)) (sendVals k [cfgElem r])

/-- The register of an item: 0 SAFE_STATE, 1 WDOG, 2 + i PARi. -/
def cfgReg (k i : Nat) : Reg := if i = 0 then .SPOKE_SAFE_STATE k else if i = 1 then .SPOKE_WDOG k else .SPOKE_PAR k (i - 2)

/-- SPOKE_CFG_WRITE (R134). -/
def execSpokeCfgWrite (m : Nat) (k : Fin 256) (i : Fin 18) (v : Word) : State → Out :=
  writeRow (spokeCfgWrite k (cfgReg k i)) m (cfgReg k i) v.toNat

/-! ## Period changes (R90) -/

/-- A write to `TIME.DIST` (R90): accepted only while the cells are blocked and no change is pending. The rim engines
send DPERIOD to every position from CONFIGURED onwards that is not in shadow. -/
def periodWrite : Effect := fun _ _ w d =>
  if d.basicLocked (.TIME 0) then d
  else if ¬ d.cellsBlocked ∨ d.time.pend then d.blkErr (.TIME 0) 18
  else
    let d := acceptPeriod (bitsOf w 0 3) (boundaryFirst d)
    d.each ((List.range 256).filter fun k => d.configured k && !d.shadow k && d.rimRuns (rimOf k)) fun k d =>
      cfgItem k 3 [periodNs d.distCode] d

/-- PERIOD_WRITE (R90). -/
def execPeriodWrite (m : Nat) (v : Word) : State → Out := writeRow periodWrite m .TIME_DIST v.toNat

end Sys2Proof.Machine
end

