-- ==== Sys2Proof/Machine/Tandem.lean ====
section
/-!
DEFINITION. Sys2Proof/Machine/Tandem.lean: claims and claim learning, heartbeats, silence, forwarded state, takeover,
demotion, relinquish and resign (R241 to R263). The mirror is in Mirror.lean.
-/
namespace Sys2Proof.Machine

/-- The tandem block works: its domain is up, page 0 is enabled and its clock runs. -/
def Dev.tandemOn (d : Dev) : Bool := d.enabled (.TANDEM 0) && !d.pageGated (.TANDEM 0) false

/-- A change of what the tandem block holds. -/
def Dev.setTandem (d : Dev) (f : TandemState → TandemState) : Dev := { d with tandem := f d.tandem }

/-- An event of `TANDEM.EVT`. -/
def tandemEvent (f : FRef) (d : Dev) : Dev := d.wr f 1

/-- Whether a lane is in use and locked. -/
def Dev.laneUp (d : Dev) (lane : Nat) : Bool :=
  if lane = 0 then d.on F.TANDEM_CFG_L0_EN && d.on F.TANDEM_LINK_L0_LOCK
  else d.on F.TANDEM_CFG_L1_EN && d.on F.TANDEM_LINK_L1_LOCK

/-- The enabled rims. -/
def Dev.enabledRims (d : Dev) : List Nat := (List.range 32).filter d.rimOn

/-! ## Through-transit and the takeover bound (R252, R258) -/

/-- The through-transit of rim n in ns, rounded up; none unless the partner's word, the hop delay and the unit's own
delay to position 0 are known. -/
def Dev.trans (d : Dev) (n : Nat) : Option Nat :=
  let k := 8 * n
  let w := d.tandem.rimd.getD n 0
  let hop := d.rd (F.SPOKE_HOPDLY_VAL k) * 10
  let own := d.rd (F.SPOKE_DLY_VAL k)
  if w = 0 ∨ ¬ d.configured k ∨ ¬ (d.spoke k).calDone then none else some ((w + hop + own + 999) / 1000)

/-- Whether rim n counts as silent: its bit is set, or it has no valid through-transit. (DEDUCED, log 76.) -/
def Dev.rimSilent (d : Dev) (n : Nat) : Bool := d.bit F.TANDEM_SILENT_RIMS n || (d.trans n).isNone

/-- The number of silent enabled rims. (DEDUCED, log 76.) -/
def Dev.nSilent (d : Dev) : Nat := (d.enabledRims.filter d.rimSilent).length

/-- The takeover bound in ns; none unless LINKDLY and a through-transit are valid. -/
def Dev.takeBound (d : Dev) : Option Nat :=
  let ts := (List.range 32).filterMap d.trans
  if d.tandem.dHist = [] ∨ ts = [] then none
  else some (3500 + ts.foldl max ((d.rd F.TANDEM_LINKDLY_VAL + 999) / 1000))

/-! ## Claim learning (R247, R248) -/

/-- A write to `SAFE.CLAIM_CTRL`: LEARN starts learning; RESIGN at an ACTIVE unit resigns (R247, R261). -/
def claimCtrlWrite : Effect := fun _ v w d =>
  let was := d.rd F.SAFE_CLAIM_CTRL_RESIGN
  let d := ((d.setWord .SAFE_CLAIM_CTRL w).wr F.SAFE_CLAIM_CTRL_LEARN 0).wr F.SAFE_CLAIM_CTRL_RESIGN was
  let d := d.when (bitAt v 10) learnStart
  d.when (bitAt v 9 && d.role == 2) resign

/-- CLAIM_LEARN (R247). -/
def execClaimLearn (m : Nat) (v : Word) : State → Out := writeRow claimCtrlWrite m .SAFE_CLAIM_CTRL v.toNat

/-- RESIGN (R261). -/
def execResign (m : Nat) (v : Word) : State → Out := writeRow claimCtrlWrite m .SAFE_CLAIM_CTRL v.toNat

/-- The unit claims (R245): its role where the claim is made and where it is refused. (DEDUCED, log 62.) -/
def claimUp (made refused : Nat) (d : Dev) : Dev :=
  match d.nextClaim with
  | none => setRole refused (refuseClaim d)
  | some c => setRole made ((raiseClaim c d).latch 61)

/-- The steps of the join completed (R268). (DEDUCED, log 66.) -/
def Dev.joinSteps (d : Dev) : Nat :=
  let admitted := (List.range 256).all fun k =>
    !(d.rimOn (rimOf k)) || bitsOf (d.rd (F.SPOKE_NSTAT_VAL k)) 8 4 == 0 || d.spokeSt k == 5
  if ¬ d.on F.TANDEM_STAT_TF_OK then 1 else if ¬ admitted then 2 else if ¬ d.tandem.joined then 3 else 4

/-- The join's progress (R268): POSITION the step in progress, PERCENT 25 for each completed; it never goes back.
(DEDUCED, log 66.) -/
def joinUpdate (d : Dev) : Dev :=
  d.when (d.on (F.PG_STAT_BUSY (.TANDEM 0))) fun d =>
    let done := max d.joinSteps (d.rd (F.PG_PROG_PERCENT (.TANDEM 0)) / 25)
    if 4 ≤ done then d.progEnd (.TANDEM 0) else d.progAt (.TANDEM 0) (done + 1) (25 * done)

/-- The end of learning decides role and claim (R248); a unit that becomes STANDBY reports its join.
(DEDUCED, log 62, 66.) -/
def learnDecide (d : Dev) : Dev :=
  let t := d.tandem
  if t.partnerSeen ∧ (t.pRole = 2 ∨ t.pRole = 4 ∨ d.claim < t.pClaim) ∨
      (t.partnerSeen ∧ d.claim = 0 ∧ t.pClaim = 0 ∧ d.tid = 1) then
    joinUpdate (((setRole 3 d).progStart (.TANDEM 0) 2 25).setTandem fun t => { t with joined := false })
  else if d.claim ≠ 0 ∧ d.claim = d.seen then setRole 2 d
  else if d.on F.SAFE_CLAIM_CTRL_AUTO then claimUp 2 0 d
  else setRole 0 d

/-- The tick at which learning ends: every enabled rim locked for 30 us, and with the tandem link enabled a heartbeat
or 30 us; at the latest 10 ms after its start (R247). -/
def Dev.learnEndAt (d : Dev) : Nat :=
  let limit := d.tandem.learnAt + 10000000
  let rims := d.enabledRims
  let link := if d.tandemOn ∧ ¬ d.tandem.hbInLearn then d.tandem.lanesAt + 30000 else 0
  if rims.any fun n => !d.on (F.RIM_STAT_RXLOCK n) then limit
  else min limit (rims.foldl (fun t n => max t ((d.rim n).lockAt + 30000)) link)

/-- LEARN_END (R248). -/
def execLearnEnd : State → Out := liftDev fun d =>
  d.when (d.role == 1) fun d => learnDecide ((d.jumpTo d.learnEndAt).setTandem fun t => { t with learnDisc := 0 })

/-! ## The tandem link (R249 to R251) -/

/-- The readiness to take over (R256). A source is latched while its Scoreboard bit is 1, and a held one until the fault
state ends (R287). -/
def Dev.takeReady (d : Dev) : Bool :=
  d.role == 3 && d.on F.SAFE_CLAIM_CTRL_TAKE_EN &&
  (d.on F.CLK_PLLM_STAT_READY || d.on F.CLK_PLLM_STAT_FREEWHEEL) && d.on F.TANDEM_STAT_TF_OK &&
  !((List.range 64).any fun n => (bitAt d.score n && decide (5 ≤ d.srcClass n)) ||
    (bitAt d.held n && decide (5 ≤ d.rd (F.FC_CLASS_HCLASS n)))) &&
  (!d.on F.TANDEM_CFG_STRICT || decide (d.rd F.TANDEM_MSTAT_LAG < max 1 (d.rd F.TANDEM_MCFG_MAX_LAG)))

/-- The HB record of a lane at a time point, in 2^-29 ns (R250). (DEDUCED, log 61.) -/
def Dev.hbBody (d : Dev) (lane tp : Nat) : List (BitVec 8) :=
  let t := d.tandem
  let flags := b2n d.takeReady + 2 * d.rd F.SAFE_CLAIM_CTRL_RESIGN + 4 * d.rd F.TANDEM_STAT_TF_OK +
    8 * d.rd F.TANDEM_MCFG_MEN
  let rx := mget 0 t.rxTime lane
  recHead 0x41 0xFF 188 ++ beBytes 6 d.claim ++ beBytes 6 d.seen ++ beBytes 1 d.role ++ beBytes 1 flags ++
    beBytes 2 (mget 0 t.hseq lane) ++ beBytes 6 (tp / secUnit) ++ beBytes 4 (tp % secUnit / nsUnit) ++
    beBytes 4 (tp % nsUnit) ++ beBytes 4 (d.rd F.TIME_ADDEND_EFF_EFF) ++ beBytes 4 (d.rd F.TIME_ADDEND_ADDEND) ++
    beBytes 2 (mget 0 t.rxHseq lane) ++ beBytes 4 (rx % secUnit / nsUnit) ++ beBytes 4 (rx % nsUnit) ++
    beBytes 4 t.epSent ++ beBytes 4 t.epApplied ++
    (List.range 32).flatMap fun n => beBytes 4 (if d.configured (8 * n) then d.rd (F.SPOKE_DLY_VAL (8 * n)) else 0)

/-- HB_SEND (R249, R250): at the next whole 1,000 ns; the time point passes `off` ns after it. (DEDUCED, log 60.) -/
def execHbSend (lane : Fin 2) (off : Fin 251) : State → Out := liftDev fun d =>
  if ¬ d.tandemOn ∨ ¬ d.laneUsed lane ∨ ¬ d.time.running then d
  else
    let here := d.tns / 1000 * 1000
    let due := if d.tns = here ∧ mget 1 d.tandem.hbTb lane ≠ here then here else here + 1000
    let d := d.jumpToTb due
    let tp := d.tbExact (1000 * (d.now + off.val))
    let h := mget 0 d.tandem.hseq lane
    let frame := tandemFrame d.tid d.claim (mget 0 d.tandem.fseq lane) 1 (d.hbBody lane tp)
    d.setTandem fun t => { t with
      hbTb := mset t.hbTb lane due
      hseq := mset t.hseq lane ((h + 1) % 65536)
      fseq := mset t.fseq lane ((mget 0 t.fseq lane + 1) % 65536)
      sentAt := (mset t.sentAt (lane + 2 * h) tp).take 64
      hbOut := mset t.hbOut lane frame
      linkOut := [] }

/-- The mean of values, rounded down. (DEDUCED, log 60.) -/
def meanOf (l : List Int) : Int := l.foldl (· + ·) 0 / (max 1 l.length : Nat)

/-- `TF_OK` as the latest offset gives it; its fall is an event, and a fault of a standby (R253, R270). -/
def setTfOk (ok : Bool) (d : Dev) : Dev :=
  let was := d.on F.TANDEM_STAT_TF_OK
  let d := d.wr F.TANDEM_STAT_TF_OK (b2n ok)
  d.when (was && !ok) fun d =>
    let d := tandemEvent F.TANDEM_EVT_TF_LOST d
    d.when (d.role == 3) fun d => d.latch 34

/-- A new value of the offset, in ps (R251, R253). -/
def newOffset (o : Int) (d : Dev) : Dev :=
  let h := (o :: d.tandem.oHist).take 16
  let d := d.setTandem fun t => { t with oHist := h, oAt := d.now }
  let d := d.wrInt F.TANDEM_TFERR_VAL (meanOf h)
  setTfOk (decide ((meanOf h).natAbs ≤ 12000)) d

/-- The whole time of a nanoseconds-and-fraction value, taken in the second that lies nearest to another time. -/
def nearTime (ref ns frac : Nat) : Int :=
  let v : Int := (ref / secUnit * secUnit + ns * nsUnit + frac : Nat)
  let r : Int := ref
  if v - r > (secUnit / 2 : Nat) then v - secUnit else if r - v > (secUnit / 2 : Nat) then v + secUnit else v

/-- The link delay and the offset from a pair of heartbeats (R251). The partner's receive time lies near its own time
point. (DEDUCED, log 60.) -/
def hbTiming (lane : Nat) (hb : HbRec) (t2 : Nat) (d : Dev) : Dev :=
  match d.tandem.sentAt.find? fun e => e.1 == lane + 2 * hb.rxHseq.toNat with
  | none => d
  | some e =>
    let t1 : Int := hb.sec.toNat * secUnit + hb.ns.toNat * nsUnit + hb.frac.toNat
    let t4 := nearTime t1.toNat hb.rxNs.toNat hb.rxFrac.toNat
    let fwd : Int := t2 - t1
    let back : Int := t4 - e.2
    let dly := (fwd + back) * 1000 / (2 ^ 30 : Nat)
    let h := (dly :: d.tandem.dHist).take 16
    let d := (d.setTandem fun t => { t with dHist := h }).wrInt F.TANDEM_LINKDLY_VAL (meanOf h)
    newOffset ((fwd - back) * 1000 / (2 ^ 30 : Nat) - d.rdInt F.TANDEM_TASYM_VAL) d

/-- The epoch numbers that a heartbeat shows (`TANDEM.EPOCH`). -/
def hbEpochs (hb : HbRec) (d : Dev) : Dev :=
  let d := d.when (d.role == 3) fun d => d.wr F.TANDEM_EPOCH_SENT hb.epochSent.toNat
  d.when (d.role == 2) fun d => d.wr F.TANDEM_EPOCH_APPLIED hb.epochApplied.toNat

/-- HB_RECEIVE (R244, R251, R253): a valid heartbeat arrives on a lane, its time point `ago` ps before.
(DEDUCED, log 60, 69, 173.) -/
def execHbReceive (lane : Fin 2) (hb : HbRec) (ago : Nat) : State → Out := liftDev fun d =>
  if ¬ d.tandemOn ∨ ¬ d.laneUp lane then d
  else
    let t2 := d.tbAgo ago
    let d := seeClaim hb.seen.toNat (seeClaim hb.claim.toNat d)
    let flags := hb.flags.toNat
    let d := d.wr F.TANDEM_LINK_P_ROLE hb.role.toNat
    let d := ((d.wr F.TANDEM_LINK_P_TAKE_READY (bitsOf flags 0 1)).wr F.TANDEM_LINK_P_RESIGN (bitsOf flags 1 1)).wr
      F.TANDEM_LINK_P_TF_OK (bitsOf flags 2 1)
    let d := d.when (d.on F.TANDEM_LINK_HB_SILENT) fun d =>
      tandemEvent F.TANDEM_EVT_HB_BACK (d.wr F.TANDEM_LINK_HB_SILENT 0)
    let d := d.setTandem fun t => { t with
      pRole := hb.role.toNat, pClaim := hb.claim.toNat, hbAt := d.now, hbSeen := true
      partnerSeen := t.partnerSeen || d.role == 1, hbInLearn := t.hbInLearn || d.role == 1
      rxHseq := mset t.rxHseq lane hb.hseq.toNat, rxTime := mset t.rxTime lane t2
      rimd := hb.rimd.map BitVec.toNat }
    let d := (hbTiming lane hb t2 (hbEpochs hb d)).wr F.TANDEM_STAT_TF_SRC 0
    let d := d.when (d.role == 3 && d.on F.TANDEM_CFG_TFOLLOW && !d.basicLocked (.TIME 0) &&
        hb.addendWr.toNat != d.rd F.TIME_ADDEND_ADDEND)
      (addendWrite 0 hb.addendWr.toNat hb.addendWr.toNat)
    joinUpdate (handoverCheck d)

/-- An epoch in flight is abandoned (R266). -/
def streamStops (d : Dev) : Dev :=
  (d.setTandem fun t => { t with txEpoch := [], sending := false }).wr F.TANDEM_MSTAT_STREAMING 0

/-- HB_SILENT (R252, R266, R270): no valid heartbeat for 2,500 ns. -/
def execHbSilent : State → Out := liftDev fun d =>
  if d.on F.TANDEM_LINK_HB_SILENT then d
  else
    let d := d.jumpTo (d.tandem.hbAt + 2500)
    let d := (d.wr F.TANDEM_LINK_HB_SILENT 1).count F.TANDEM_LINK_HB_LOST
    let d := tandemEvent F.TANDEM_EVT_HB_LOST d
    let d := streamStops d
    let d := d.when (d.enabled (.TANDEM 0)) fun d => d.latch 34
    handoverCheck d

/-- TF_LOST (R253): the latest offset is older than 1 ms. -/
def execTfLost : State → Out := liftDev fun d =>
  d.when (d.on F.TANDEM_STAT_TF_OK) fun d => setTfOk false (d.jumpTo (d.tandem.oAt + 1000001))

/-- RIM_SILENT (R252): 400 ns after the second empty arrival window. -/
def execRimSilent (n : Fin 32) : State → Out := liftDev fun d =>
  match d.trans n, d.tandem.peerAt.find? (fun e => e.1 == n.val) with
  | some tr, some a =>
    if ¬ d.rimOn n ∨ ¬ d.tandemOn ∨ d.bit F.TANDEM_SILENT_RIMS n then d
    else
      let j := (a.2 - tr) / 1000
      (d.jumpToTb ((j + 3) * 1000 + tr + 400)).setBit F.TANDEM_SILENT_RIMS n
  | _, _ => d

/-! ## Frames of the partner (R244, R252, R253) -/

/-- The TIME record of a device frame from byte `i`: the time that it carries (R111, R116). -/
def findTime (l : List (BitVec 8)) : Nat → Nat → Option Nat
  | 0, _ => none
  | fuel + 1, i =>
    let rl := beAt l (i + 2) 2
    if l.length < i + 8 ∨ beAt l i 1 = 0 ∨ rl < 4 ∨ l.length < i + rl + 4 then none
    else if beAt l i 1 = 2 ∧ rl = 32 then
      some (beAt l (i + 4) 6 * secUnit + beAt l (i + 10) 4 * nsUnit + beAt l (i + 14) 4)
    else findTime l fuel (i + rl)

/-- What arrives from a device on a rim: a block pair with its claim, or a frame with its claim, its UNIT and the time of a
TIME record in it. -/
inductive PeerData where
  | pair (claim : Nat)
  | frame (claim unit : Nat) (time : Option Nat)
  deriving DecidableEq, Repr

/-- A device frame as received; none where R110 discards it or a cell node has sent it. -/
def parseDevice (l : List (BitVec 8)) : Option PeerData :=
  (parseUp l).bind fun f =>
    if f.up then none else some (.frame f.claim (bitsOf (beAt l 1 1) 0 1) (findTime l 256 16))

/-- A block pair as received; none where its check fails or its ACTION bytes differ or are invalid (R106, R108). -/
def parsePair (a b : RimBlock) : Option PeerData :=
  let x := (beBytes 8 a.bytes.toNat).drop 1
  let y := (beBytes 8 b.bytes.toNat).drop 1
  let act := beAt x 6 1
  if blockType a = some 0x2D ∧ blockType b = some 0x33 ∧ crc32c x = beAt y 0 4 ∧ act = beAt y 4 1 ∧
      (act = 0x5A ∨ act = 0xA5) then some (.pair (beAt x 0 6)) else none

/-- What the blocks of a device frame or of a block pair show. -/
def parsePeer (l : List RimBlock) : Option PeerData :=
  match l with
  | [a, b] => parsePair a b
  | l => (frameOf l).bind fun x => parseDevice x.1

/-- The offset from a TIME record of the partner on the lowest rim that serves, while the heartbeat is silent (R253):
`tp` is the own time at its time point's arrival. -/
def rimOffset (n tp carried : Nat) (d : Dev) : Dev :=
  match d.trans n with
  | none => d
  | some tr =>
    let lower := (d.enabledRims.filter fun q => decide (q < n)).any fun q => !d.rimSilent q
    d.when (d.on F.TANDEM_LINK_HB_SILENT && !lower) fun d =>
      let d := (d.wr F.TANDEM_STAT_TF_SRC 1).wr F.TANDEM_STAT_TF_RIM n
      newOffset (((tp : Int) - carried) * 1000 / (nsUnit : Nat) - tr * 1000) d

/-- A frame or pair of the partner has arrived on a rim, its SOF at the nanoseconds value `sof` (R252). -/
def peerHeard (n sof : Nat) (d : Dev) : Dev :=
  d.when d.tandemOn fun d =>
    (d.setTandem fun t => { t with peerAt := mset t.peerAt n sof }).clrBit F.TANDEM_SILENT_RIMS n

/-- The CLAIM of a frame of the partner (R143, R244, R248). -/
def peerClaim (n c : Nat) (d : Dev) : Dev :=
  let d := claimConflict n c (seeClaim c d)
  let d := (d.wr64 (F.RIM_PEER_CLAIM_LO_CLAIM n) (F.RIM_PEER_CLAIM_HI_CLAIM n)
    (max c (d.rd64 (F.RIM_PEER_CLAIM_LO_CLAIM n) (F.RIM_PEER_CLAIM_HI_CLAIM n)))).wr (F.RIM_STAT_PEER n) 1
  (d.setRim n { d.rim n with peerCycle := some d.rimCycle }).setTandem fun t => { t with
    pClaim := if d.role = 1 then max t.pClaim c else t.pClaim, partnerSeen := t.partnerSeen || d.role == 1 }

/-- PEER_FRAME (R244, R252): a frame or block pair of the partner arrives on a rim, as its first block and those after it;
its SOF arrived `sof` ps before, and the time point of a TIME record in it `tp` ps before. (DEDUCED, log 173.) -/
def execPeerFrame (n : Fin 32) (b : RimBlock) (bs : List RimBlock) (sof tp : Nat) : State → Out := liftDev fun d =>
  if ¬ d.rimOn n then d
  else match parsePeer (b :: bs) with
    | none => badFrame n d
    | some (.pair _) => peerHeard n (d.tbAgo sof / nsUnit) d
    | some (.frame c unit time) =>
      if unit = d.tid then d
      else
        let d := peerHeard n (d.tbAgo sof / nsUnit) (peerClaim n c d)
        match time with
        | none => d
        | some x => d.when d.tandemOn (rimOffset n (d.tbAgo tp) x)

/-! ## Forwarded state (R254) -/

/-- ADT_RECORD (R254): the value applies from the first commit after it (R155). (DEDUCED, log 69, 75.) -/
def execAdtRecord (l : Fin 1024) (dir : Fin 2) (adt : BitVec 12) (fb : Bool) : State → Out := liftDev fun d =>
  d.when (d.tandemOn && d.role == 3) fun d =>
    ((d.noteOld (.EDGE_LEG_ADT l)).wr (fAdt l (dir.val + 1)) adt.toNat).wr (fFb l (dir.val + 1)) (b2n fb)

/-- SWAP_RECORD (R254): the requests are set. The record left the active a link delay before: where the engine of a group
has started since then, the active has swapped at that start, and this unit swaps one run later.
(DEDUCED, log 68, 69, 75.) -/
def execSwapRecord (mask : BitVec 16) : State → Out := liftDev fun d =>
  d.when (d.tandemOn && d.role == 3) fun d =>
    let dly := (d.rd F.TANDEM_LINKDLY_VAL + 999) / 1000
    let late := (List.range 16).any fun g => bitAt mask.toNat g &&
      (match (d.eng (d.rd (F.LOOP_GRP_CFG_ENG g))).prevStart with
        | none => false
        | some t => decide (d.now < t + dly))
    (requestSwaps mask.toNat d).when late (tandemEvent F.TANDEM_EVT_SWAP_LATE)

/-! ## Takeover (R256 to R258, R262) -/

/-- The partner resigns: its latest heartbeat, at most 2,500 ns old, has ROLE ACTIVE and RESIGN. -/
def Dev.partnerResigns (d : Dev) : Bool :=
  d.tandem.hbSeen && decide (d.now ≤ d.tandem.hbAt + 2500) && d.rd F.TANDEM_LINK_P_ROLE == 2 && d.on F.TANDEM_LINK_P_RESIGN

/-- TAKEOVER (R257). (DEDUCED, log 62, 64.) -/
def execTakeover : State → Out := liftDev fun d =>
  let e := d.enabledRims.length
  let silent := d.on F.TANDEM_LINK_HB_SILENT && decide (e < 2 * d.nSilent)
  if ¬ d.tandemOn ∨ ¬ d.takeReady ∨ e = 0 ∨ ¬ (silent || d.partnerResigns) then d
  else
    let d := (d.wr F.TANDEM_TKINFO_NS_VAL d.tbNs).wr F.TANDEM_TKINFO_SEC_VAL (d.tbSec % 2 ^ 32)
    let d := d.wr F.TANDEM_TKINFO_VAL
      ((if silent then 1 else 2) + d.rd F.TANDEM_MSTAT_LAG * 2 ^ 4 + d.nSilent * 2 ^ 8)
    claimUp 4 3 d

/-- TAKEOVER_COMPLETE (R257): the empty frames have left every enabled rim port. -/
def execTakeoverComplete : State → Out := liftDev fun d =>
  d.when (d.role == 4) fun d =>
    let d := d.jumpTo (d.enabledRims.foldl (fun t n => max t (d.rim n).freeAt) d.now)
    ((tandemEvent F.TANDEM_EVT_TAKEOVER (setRole 2 d)).count F.SAFE_CLAIM_STAT_TAKEOVERS).latch 61

/-! ## Relinquish and resign (R260, R261) -/

/-- RELINQUISH (R260): no upstream frame of the unit's own claim for 1 ms. (DEDUCED, log 65.) -/
def execRelinquish : State → Out := liftDev fun d =>
  if d.role ≠ 3 ∨ d.claim = 0 ∨ ¬ d.on F.SAFE_CLAIM_CTRL_RELINQ_EN then d
  else
    let d := d.jumpTo (if d.tandem.ownSeen then d.tandem.ownAt + 1000000 else d.now)
    let d := (d.wr64 F.SAFE_CLAIM_LO_CLAIM F.SAFE_CLAIM_HI_CLAIM 0).setTandem fun t => { t with
      claimGen := t.claimGen + 1, ownSeen := false }
    (tandemEvent F.TANDEM_EVT_RELINQUISHED d).latch 61

/-- RESIGN_FAIL (R261, R282): no higher claim within 100 us; at HANDOVER the reaction block begins. -/
def execResignFail : State → Out := liftDev fun d =>
  d.when (d.on F.SAFE_CLAIM_CTRL_RESIGN && d.role == 2) fun d =>
    let d := (d.jumpTo (d.tandem.resignAt + 100000)).wr F.SAFE_CLAIM_CTRL_RESIGN 0
    let d := (tandemEvent F.TANDEM_EVT_RESIGN_FAIL d).latch 61
    d.when (d.rd F.FC_STATE_LEVEL == 6 && d.on F.FC_STATE_STATE) fun d => { d with fc := { d.fc with reactBlock := true } }

/-- TANDEM_LANE_LOCK_CHANGE: the block lock of a lane changes (`TANDEM.LINK`). -/
def execTandemLaneLockChange (lane : Fin 2) (lock : Bool) : State → Out := liftDev fun d =>
  d.when (d.tandemOn) fun d =>
    d.wr (if lane.val = 0 then F.TANDEM_LINK_L0_LOCK else F.TANDEM_LINK_L1_LOCK) (b2n lock)

/-- `PG_CTRL.ENABLE` of TANDEM page 0 rises: its lanes are powered, and learning may start (R247, R269). -/
def tandemEnable (d : Dev) : Dev := learnOnEnable (d.setTandem fun t => { t with lanesAt := d.now })

/-- `PG_CTRL.ENABLE` of TANDEM page 0 falls: the lanes lose power and an epoch in flight is abandoned. -/
def tandemDisable (d : Dev) : Dev :=
  streamStops ((d.wr F.TANDEM_LINK_L0_LOCK 0).wr F.TANDEM_LINK_L1_LOCK 0)

end Sys2Proof.Machine
end

