-- ==== Sys2Proof/Machine/Mirror.lean ====
section
/-!
DEFINITION. Sys2Proof/Machine/Mirror.lean: the mirror of the Tandem (R264 to R267). The mirror engine is bus master 10.
-/
namespace Sys2Proof.Machine

/-- The error that the mirror engine's access of `n` bytes meets, if any (R39, R41, R301). -/
def Dev.mirrorError (d : Dev) (a n : Nat) (write : Bool) : Option RespCode := d.rangeError 10 a n write

/-! ## The list (R264) -/

/-- An entry of the list in memory; none where it is invalid, `some none` where it is not in use. -/
def parseEntry (w0 w1 : Nat) : Option (Option MirrorEntry) :=
  let x : MirrorEntry := { addr := w0, kind := bitsOf w1 28 2, len := bitsOf w1 0 21 }
  let within (lo n : Nat) : Bool := decide (lo ≤ x.addr ∧ x.addr + x.len ≤ lo + n)
  if ¬ bitAt w1 31 then some none
  else if x.addr % 8 ≠ 0 then none
  else if x.kind = 0 then
    (if x.len % 8 = 0 ∧ (within sramBase 0x1800000 || within secBase 0x80000 || within cascBase 0x10000 ||
      within progBase 0x10000) then some (some x) else none)
  else if x.kind = 1 then (if x.len % 64 = 0 ∧ within secBase 0x40000 then some (some x) else none)
  else none

/-- The bytes that an entry brings to an epoch: 24 for each record of KIND 1. -/
def MirrorEntry.bytes (x : MirrorEntry) : Nat := if x.kind = 1 then x.len / 64 * 24 else x.len

/-- The pieces of memory that an entry names, in order: address and length. -/
def MirrorEntry.parts (x : MirrorEntry) : List (Nat × Nat) :=
  if x.kind = 1 then (List.range (x.len / 64)).map fun i => (x.addr + 64 * i + 0x20, 24) else [(x.addr, x.len)]

/-- The entries of a list in memory; none where one is invalid. -/
def readList (d : Dev) (mem : List Host.Cell) (a : Nat) : Nat → Option (List MirrorEntry)
  | 0 => some []
  | n + 1 =>
    match parseEntry (readWord d mem a) (readWord d mem (a + 4)), readList d mem (a + 8) n with
    | some e, some rest => some (e.toList ++ rest)
    | _, _ => none

/-- A write to `TANDEM.MCTRL`: LOAD validates and copies the list, or refuses it (R264). (DEDUCED, log 74.) -/
def mctrlWrite (mem : List Host.Cell) : Effect := fun _ v _ d =>
  if ¬ bitAt v 0 then d
  else
    let a := d.rd F.TANDEM_MIRROR_LIST_VAL
    let n := d.rd F.TANDEM_MLIST_CNT_VAL
    let bad (d : Dev) : Dev := d.blkErr (.TANDEM 0) 16
    if a % 8 ≠ 0 ∨ 1024 < n then bad d
    else match d.mirrorError a (8 * n) false with
      | some c => bad (busError 10 a false false c d)
      | none => match readList d mem a n with
        | none => bad d
        | some l =>
          let total := (l.map MirrorEntry.bytes).foldl (· + ·) 0
          if 1048576 < total then bad d
          else ((d.wr F.TANDEM_MSTAT_LIST_OK 1).wr F.TANDEM_MSTAT_EBYTES total).setTandem fun t => { t with list := l }

/-- MIRROR_LIST_LOAD (R264). -/
def execMirrorListLoad (m : Nat) (v : Word) (s : State) : Out := writeRow (mctrlWrite s.mem) m .TANDEM_MCTRL v.toNat s

/-! ## Capture and stream (R265, R266) -/

/-- The first error that reading the listed memory meets, and its address. -/
def Dev.listError (d : Dev) (write : Bool) : Option (Nat × RespCode) :=
  (d.tandem.list.flatMap MirrorEntry.parts).findSome? fun p => (d.mirrorError p.1 p.2 write).map fun c => (p.1, c)

/-- MIRROR_CAPTURE (R265): the active captures an epoch in the quiet interval of a due run, or skips it while the
previous epoch is still streaming. (DEDUCED, log 70.) -/
def execMirrorCapture : State → Out := liftMem fun mem d =>
  let g := d.eng d.refEngine
  let due := d.rd (F.LOOP_CNT_RUNS d.refEngine) % max 1 (d.rd F.TANDEM_MCFG_N) == 0
  if ¬ d.tandemOn ∨ d.role ≠ 2 ∨ ¬ d.on F.TANDEM_MCFG_MEN ∨ ¬ d.on F.TANDEM_MSTAT_LIST_OK ∨
      d.on F.TANDEM_LINK_HB_SILENT ∨ d.rd F.TANDEM_LINK_P_ROLE ≠ 3 ∨ ¬ d.quiet ∨ ¬ due ∨
      d.tandem.capRun = some g.runs then (d, [])
  else
    let d := d.setTandem fun t => { t with capRun := some g.runs }
    if d.on F.TANDEM_MSTAT_STREAMING then (mirrorLag d, [])
    else match d.listError false with
      | some e => (busError 10 e.1 false false e.2 d, [])
      | none =>
        let data := (d.tandem.list.flatMap MirrorEntry.parts).flatMap fun p => readBytes d mem 10 p.1 p.2
        let no := (d.tandem.epSent + 1) % 2 ^ 32
        (((d.wr F.TANDEM_MSTAT_STREAMING 1).wr F.TANDEM_EPOCH_SENT no).setTandem fun t => { t with
          epSent := no, sending := true, txEpoch := data, txNs := g.startNs, txSec := g.startSec % 2 ^ 32, capAt := d.now }, [])

/-- The MDATA records of an epoch from an offset (R249): up to 224 bytes each. -/
def mdataRecs (fuel off : Nat) (l : List (BitVec 8)) : List (List (BitVec 8)) :=
  match fuel with
  | 0 => []
  | f + 1 =>
    if l.isEmpty then []
    else
      let part := l.take 224
      (recHead 0x42 0xFF (8 + part.length) ++ beBytes 4 off ++ part) :: mdataRecs f (off + 224) (l.drop 224)

/-- Records leave on the enabled lanes by turns. (DESIGN CHOICE, log 69.) -/
def linkSendAll (lanes : List Nat) (recs : List (List (BitVec 8))) (d : Dev) : Dev :=
  d.each (recs.zip (List.range recs.length)) fun x d =>
    match lanes[x.2 % lanes.length]? with
    | none => d
    | some lane => linkSendOn lane x.1 d

/-- MIRROR_STREAM_END (R266): the stream of an epoch ends with its MEND record. (DESIGN CHOICE, log 69.) -/
def execMirrorStreamEnd : State → Out := liftMem fun _ d =>
  if ¬ d.tandem.sending ∨ ¬ d.tandemOn then (d, [])
  else
    let t := d.tandem
    let n := t.txEpoch.length
    let lanes := (List.range 2).filter d.laneUsed
    let rate := 840 * max 1 lanes.length
    let d := d.jumpTo (t.capAt + (n * 1000 + rate - 1) / rate)
    let mend := recHead 0x43 0xFF 24 ++ beBytes 4 t.epSent ++ beBytes 4 t.txNs ++ beBytes 4 t.txSec ++
      beBytes 4 n ++ beBytes 4 (crc32c t.txEpoch)
    (linkSendAll lanes (mdataRecs (n / 224 + 1) 0 t.txEpoch ++ [mend]) (streamStops d), [])

/-! ## Reception (R266) -/

/-- The address of a half of the receive buffer. (DEDUCED, log 71.) -/
def Dev.halfAt (d : Dev) (h : Nat) : Nat := d.rd F.TANDEM_MBUF_VAL + h * (d.rd F.TANDEM_MBUF_SIZE_VAL / 2)

/-- A standby receives, with a buffer that is large enough. -/
def Dev.bufferFits (d : Dev) : Bool :=
  decide (2 * d.rd F.TANDEM_MSTAT_EBYTES + 64 ≤ d.rd F.TANDEM_MBUF_SIZE_VAL)

/-- MDATA (R266): bytes of an epoch arrive at an offset. (DEDUCED, log 71.) -/
def execMdata (off : BitVec 32) (data : List (BitVec 8)) : State → Out := liftMem fun _ d =>
  if ¬ d.tandemOn ∨ d.role ≠ 3 then (d, [])
  else if ¬ d.bufferFits then (d.blkErr (.TANDEM 0) 17, [])
  else if d.rd F.TANDEM_MSTAT_EBYTES < off.toNat + data.length then (d, [])
  else
    let a := d.halfAt d.tandem.rxHalf + off.toNat
    match d.mirrorError a data.length true with
    | some c => (busError 10 a true false c d, [])
    | none =>
      let whole := (wordsOf a data.length).filter fun w => decide (a ≤ w ∧ w + 8 ≤ a + data.length)
      (watchWrite a data.length (clearErrors whole (d.wr F.TANDEM_MSTAT_STREAMING 1)), writeEffs a data)

/-- An epoch is discarded: counted. -/
def discardEpoch (d : Dev) : Dev :=
  (d.count F.TANDEM_MCNT_DISCARDED).setTandem fun t => { t with rxReady := false }

/-- MEND (R266): the epoch is complete, or its CRC fails and it is discarded. (DEDUCED, log 72.) -/
def execMend (epoch ns sec ebytes crc : BitVec 32) : State → Out := liftMem fun mem d =>
  if ¬ d.tandemOn ∨ d.role ≠ 3 then (d, [])
  else if ¬ d.bufferFits then (d.blkErr (.TANDEM 0) 17, [])
  else
    let d := d.wr F.TANDEM_MSTAT_STREAMING 0
    let n := d.rd F.TANDEM_MSTAT_EBYTES
    if ebytes.toNat ≠ n ∨ crc32c (readBytes d mem 10 (d.halfAt d.tandem.rxHalf) n) ≠ crc.toNat then
      ((tandemEvent F.TANDEM_EVT_MIRROR_CRC (discardEpoch d)).latch 35, [])
    else
      (d.setTandem fun t => { t with
        rxReady := true, rxNumber := epoch.toNat, rxNs := ns.toNat, rxSec := sec.toNat, rxHalf := 1 - t.rxHalf }, [])

/-! ## Apply (R267) -/

/-- The time an apply takes. -/
def Dev.applyNs (d : Dev) : Nat := d.rd F.TANDEM_MSTAT_EBYTES / 16 + 100

/-- The distance in ns of the reference engine's latest start from the epoch's start instant. -/
def Dev.startGap (d : Dev) (g : Engine) : Int :=
  ((g.startSec % 2 ^ 32 * 1000000000 + g.startNs : Nat) : Int) - (d.tandem.rxSec * 1000000000 + d.tandem.rxNs : Nat)

/-- MIRROR_APPLY (R267): a complete epoch begins to be applied in the quiet interval of the matching run, or is
discarded where that interval has passed or is too short. (DEDUCED, log 72; DESIGN CHOICE, log 73.) -/
def execMirrorApply : State → Out := liftDev fun d =>
  let g := d.eng d.refEngine
  let gap := d.startGap g
  let passed := 100 < gap ∨ d.tandem.quietOver = some g.runs
  if ¬ d.tandemOn ∨ d.role ≠ 3 ∨ ¬ d.tandem.rxReady ∨ d.on F.TANDEM_MSTAT_APPLYING ∨ gap < -100 then d
  else if passed then mirrorLag (discardEpoch d)
  else if ¬ d.quiet then d
  else if d.now + d.applyNs + 500 ≤ g.prevStart.getD 0 + g.gap then
    (d.wr F.TANDEM_MSTAT_APPLYING 1).setTandem fun t => { t with rxReady := false, applyAt := d.now, torn := false }
  else mirrorLag (discardEpoch d)

/-- The writes of an epoch's parts, in list order, from the bytes received. -/
def applyEffs (d : Dev) (mem : List Host.Cell) : List (Nat × Nat) → Nat → List MemEff
  | [], _ => []
  | (a, n) :: t, src => writeEffs a (readBytes d mem 10 src n) ++ applyEffs d mem t (src + n)

/-- MIRROR_APPLY_END (R267). (DESIGN CHOICE, log 73.) -/
def execMirrorApplyEnd : State → Out := liftMem fun mem d =>
  if ¬ d.on F.TANDEM_MSTAT_APPLYING then (d, [])
  else
    let d := (d.jumpTo (d.tandem.applyAt + d.applyNs)).wr F.TANDEM_MSTAT_APPLYING 0
    match d.listError true with
    | some e => (busError 10 e.1 true false e.2 d, [])
    | none =>
      let parts := d.tandem.list.flatMap MirrorEntry.parts
      let effs := applyEffs d mem parts (d.halfAt (1 - d.tandem.rxHalf))
      let d := clearErrors (parts.flatMap fun p => wordsOf p.1 p.2) d
      let d := d.each parts fun p => watchWrite p.1 p.2
      let d := (d.wr F.TANDEM_EPOCH_APPLIED d.tandem.rxNumber).wr F.TANDEM_MSTAT_LAG 0
      let d := d.setTandem fun t => { t with epApplied := t.rxNumber }
      let d := tandemEvent F.TANDEM_EVT_MIRROR_APPLIED (d.wr F.TANDEM_MCNT_APPLIED (d.rd F.TANDEM_MCNT_APPLIED + 1))
      (joinUpdate (d.setTandem fun t => { t with joined := true }), effs)

end Sys2Proof.Machine
end

