-- ==== Sys2Proof/Machine/Ber.lean ====
section
/-!
DEFINITION. Sys2Proof/Machine/Ber.lean: the encodings of station frames: BER elements (R332, R336), Ethernet frames
with their IEEE 802.1Q and HSR tags and PRP trailers (R324, R329), and PTP messages (R93, R96).
-/
namespace Sys2Proof.Machine

/-! ## BER -/

/-- A BER element: tag, content, and where its content begins. -/
structure Tlv where
  tag  : Nat
  body : List (BitVec 8)
  /-- The number of tag and length bytes. -/
  head : Nat
  deriving DecidableEq, Repr

/-- The first element of a byte string and what follows it; lengths in the short form, or the long form up to 2 bytes. -/
def takeTlv (l : List (BitVec 8)) : Option (Tlv × List (BitVec 8)) :=
  match l with
  | t :: n :: rest =>
    let go (k len : Nat) : Option (Tlv × List (BitVec 8)) :=
      let body := rest.drop k
      if len ≤ body.length ∧ k ≤ rest.length then some (⟨t.toNat, body.take len, 2 + k⟩, body.drop len) else none
    if n.toNat < 0x80 then go 0 n.toNat
    else if n.toNat = 0x81 then go 1 (beAt rest 0 1)
    else if n.toNat = 0x82 then go 2 (beAt rest 0 2)
    else none
  | _ => none

/-- The elements of a byte string, at most `n`; none where it is not a whole number of them. -/
def takeTlvs : Nat → List (BitVec 8) → Option (List Tlv)
  | _, [] => some []
  | 0, _ :: _ => none
  | n + 1, l =>
    match takeTlv l with
    | none => none
    | some (t, rest) => (takeTlvs n rest).map fun ts => t :: ts

/-- The leading elements of a byte string, as far as they decode, and whether all of it did. -/
def leadingTlvs : Nat → List (BitVec 8) → List Tlv × Bool
  | _, [] => ([], true)
  | 0, _ :: _ => ([], false)
  | n + 1, l =>
    match takeTlv l with
    | none => ([], false)
    | some (t, rest) =>
      let r := leadingTlvs n rest
      (t :: r.1, r.2)

/-- The element of a tag. -/
def findTlv (l : List Tlv) (tag : Nat) : Option Tlv := l.find? fun t => t.tag == tag

/-- The content of an element as a number, modulo 2^32; 0 where it is absent. -/
def tlvNat (l : List Tlv) (tag : Nat) : Nat :=
  match findTlv l tag with
  | some t => ofBeBytes t.body % 2 ^ 32
  | none => 0

/-- Whether an element is present with a content of `lo` to `hi` bytes. -/
def tlvLen (l : List Tlv) (tag lo hi : Nat) : Bool :=
  match findTlv l tag with
  | some t => decide (lo ≤ t.body.length ∧ t.body.length ≤ hi)
  | none => false

/-- Whether a boolean element is present and TRUE. -/
def tlvTrue (l : List Tlv) (tag : Nat) : Bool :=
  match findTlv l tag with
  | some t => t.body.any fun b => b != 0
  | none => false

/-- Whether tags rise strictly within a range, as a SEQUENCE with optional elements demands. -/
def tagsRise (lo hi : Nat) (l : List Tlv) : Bool :=
  (l.foldl (fun (a : Nat × Bool) t => (t.tag + 1, a.2 && decide (a.1 ≤ t.tag ∧ t.tag ≤ hi))) (lo, true)).2

/-- The shortest content of an INTEGER with a value from 0 to 2^32 - 1 (X.690): two's complement, so that a value
whose top bit is set takes a leading zero byte. (DEDUCED, log 101.) -/
def berInt (v : Nat) : List (BitVec 8) :=
  if v < 2 ^ 7 then beBytes 1 v
  else if v < 2 ^ 15 then beBytes 2 v
  else if v < 2 ^ 23 then beBytes 3 v
  else if v < 2 ^ 31 then beBytes 4 v
  else beBytes 5 v

/-! ## Ethernet frames, from the destination MAC to the last byte before the FCS -/

/-- Whether a frame carries one IEEE 802.1Q tag. -/
def hasVlan (l : List (BitVec 8)) : Bool := beAt l 12 2 == 0x8100

/-- Where the EtherType, or an HSR tag, stands. -/
def typeAt (l : List (BitVec 8)) : Nat := if hasVlan l then 16 else 12

/-- Whether a frame carries an HSR tag (R329). -/
def hasHsr (l : List (BitVec 8)) : Bool := beAt l (typeAt l) 2 == 0x892F

/-- The frame without its HSR tag, and the tag's SeqNr. -/
def dropHsr (l : List (BitVec 8)) : List (BitVec 8) := l.take (typeAt l) ++ l.drop (typeAt l + 6)

/-- SeqNr of an HSR tag. -/
def hsrSeq (l : List (BitVec 8)) : Nat := beAt l (typeAt l + 4) 2

/-- Whether a frame ends with a PRP trailer: suffix 0x88FB and a LanId of A or B (R329). (DESIGN CHOICE, log 103.) -/
def hasPrp (l : List (BitVec 8)) : Bool :=
  let n := l.length
  decide (20 ≤ n) && beAt l (n - 2) 2 == 0x88FB && (beAt l (n - 4) 1 / 16 == 0xA || beAt l (n - 4) 1 / 16 == 0xB)

/-- SeqNr and LanId of a PRP trailer. -/
def prpSeq (l : List (BitVec 8)) : Nat := beAt l (l.length - 6) 2
/-- LanId of a PRP trailer. -/
def prpLan (l : List (BitVec 8)) : Nat := beAt l (l.length - 4) 1 / 16

/-- The EtherType of a frame without redundancy tags. -/
def etherType (l : List (BitVec 8)) : Nat := beAt l (typeAt l) 2

/-- What follows the EtherType. -/
def payloadOf (l : List (BitVec 8)) : List (BitVec 8) := l.drop (typeAt l + 2)

/-- Destination and source addresses as numbers. -/
def destMac (l : List (BitVec 8)) : Nat := beAt l 0 6
/-- Source address. -/
def srcMac (l : List (BitVec 8)) : Nat := beAt l 6 6

/-- The frame padded with zeros to `n` bytes. -/
def padTo (n : Nat) (l : List (BitVec 8)) : List (BitVec 8) := l ++ List.replicate (n - l.length) 0

/-- The frame with a PRP trailer of port `x` after its padding; LSDUsize counts what follows the EtherType (R329).
(PRESUMED, log 102.) -/
def addPrp (x seq : Nat) (l : List (BitVec 8)) : List (BitVec 8) :=
  let l := padTo 54 l
  let size := l.length - typeAt l - 2 + 6
  l ++ beBytes 2 seq ++ beBytes 2 ((0xA + x) * 0x1000 + size % 0x1000) ++ beBytes 2 0x88FB

/-- The frame with an HSR tag that names a path. (PRESUMED, log 102.) -/
def addHsr (path seq : Nat) (l : List (BitVec 8)) : List (BitVec 8) :=
  let size := l.length - typeAt l - 2 + 6
  l.take (typeAt l) ++ beBytes 2 0x892F ++ beBytes 2 (path * 0x1000 + size % 0x1000) ++ beBytes 2 seq ++ l.drop (typeAt l)

/-! ## PTP -/

/-- Where the PTP header of a Layer-2 message stands: directly, behind an IEEE 802.1Q tag, or behind an HSR tag (R93). -/
def ptpAt (l : List (BitVec 8)) : Option Nat :=
  let o := typeAt l + (if hasHsr l then 6 else 0)
  if beAt l o 2 = 0x88F7 ∧ o + 2 + 34 ≤ l.length then some (o + 2) else none

/-- Where the PTP header of a UDP/IPv4 message to port 319 stands (R93). -/
def udpPtpAt (l : List (BitVec 8)) : Option Nat :=
  let o := typeAt l + (if hasHsr l then 6 else 0)
  let ip := o + 2
  let ihl := 4 * (beAt l ip 1 % 16)
  if beAt l o 2 = 0x0800 ∧ beAt l ip 1 / 16 = 4 ∧ beAt l (ip + 9) 1 = 17 ∧ beAt l (ip + ihl + 2) 2 = 319 ∧
      ip + ihl + 8 + 34 ≤ l.length then some (ip + ihl + 8) else none

/-- messageType of a PTP header. -/
def ptpType (l : List (BitVec 8)) (o : Nat) : Nat := beAt l o 1 % 16

/-- The bytes of a frame with some replaced from a position on. -/
def patch (l : List (BitVec 8)) (o : Nat) (b : List (BitVec 8)) : List (BitVec 8) := l.take o ++ b ++ l.drop (o + b.length)

/-- The greatest value of `correctionField` (R98). -/
def corrMax : Int := 0x7FFFFFFFFFFFFFFF

/-- `correctionField` with an amount of 2^-16 ns added, and whether it saturated (R98). -/
def addCorrection (l : List (BitVec 8)) (o : Nat) (x : Int) : List (BitVec 8) × Bool :=
  let v := signedOf 64 (beAt l (o + 8) 8) + x
  let sat := decide (corrMax < v)
  (patch l (o + 8) (beBytes 8 (unsignedOf 64 (if sat then corrMax else v))), sat)

end Sys2Proof.Machine
end

