-- ==== Sys2Proof/Machine/FaultCollector.lean ====
section
/-!
DEFINITION. Sys2Proof/Machine/FaultCollector.lean: forces, classes, recovery and release of the fault state, the trip
outputs, ALIVE and the supervision of the cores (R271 to R290), with the block command.
-/
namespace Sys2Proof.Machine

/-! ## Sources -/

/-- A change that may assert or deassert sources: rising ones latch, and the quiet times run from the fall of the
others (R273, R277, R280). (DEDUCED, log 123.) -/
def changeAsserted (f : Dev → Dev) (d : Dev) : Dev :=
  let was := d.asserted
  let d' := f d
  let d' := d'.each ((List.range 64).filter fun n => was n && !d'.asserted n) fun n x =>
    let x := x.when (d.srcClass n == 3) fun x => { x with fc := { x.fc with shedSince := x.now } }
    x.when (decide (4 ≤ d.srcClass n)) fun x => { x with fc := { x.fc with quietSince := x.now } }
  d'.each ((List.range 64).filter fun n => d'.asserted n && !was n) fun n x => x.latch n

/-- SOURCE_LATCH (R273): source `n` is asserted in this SAFECLK cycle. (DEDUCED, log 120.) -/
def execSourceLatch (n : Fin 64) : State → Out := liftDev fun d => d.latch n

/-- The half of a 64-bit pair of registers: LO for false, HI for true. -/
def half (hi : Bool) (lo_ hi_ : Reg) : Reg := if hi then hi_ else lo_

/-- A write to `FC.FORCE` or `SYS.TFORCE` (R273, R275). -/
def forceWrite (r : Reg) : Effect := fun m v w d => changeAsserted (plainEffect r m v w) d

/-- FORCE_WRITE (R273). -/
def execForceWrite (m : Nat) (hi : Bool) (v : Word) : State → Out :=
  let r := half hi .FC_FORCE_LO .FC_FORCE_HI
  writeRow (forceWrite r) m r v.toNat

/-- TFORCE_WRITE (R275): without permission the access receives VIOLATION. -/
def execTforceWrite (m : Nat) (hi : Bool) (v : Word) : State → Out :=
  let r := half hi .SYS_TFORCE_LO .SYS_TFORCE_HI
  writeRow (forceWrite r) m r v.toNat

/-- The sources of one half that are asserted, or that an event has asserted at this instant, as a mask. -/
def Dev.assertedMask (d : Dev) (hi : Bool) : Nat :=
  let now (n : Nat) : Bool := d.asserted n || d.thisTick.latched.contains n
  (List.range 32).foldl (fun a i => if now (i + if hi then 32 else 0) then a + 2 ^ i else a) 0

/-- A write to `FC.SCORE`: W1C, but a bit that is asserted at this instant stays 1 (R5, R273). -/
def scoreWrite (hi : Bool) : Effect := fun _ v _ d =>
  let r := half hi .FC_SCORE_LO .FC_SCORE_HI
  let w := d.word r
  d.setWord r (w - (w &&& (v - (v &&& d.assertedMask hi))))

/-- SCORE_CLEAR (R273). -/
def execScoreClear (m : Nat) (hi : Bool) (v : Word) : State → Out :=
  writeRow (scoreWrite hi) m (half hi .FC_SCORE_LO .FC_SCORE_HI) v.toNat

/-- A write to `FC.CLASSn` (R276): a class below MIN acts as MIN. A source asserted under its new class brings that
class's actions (R279). (DEDUCED, log 124.) -/
def classWrite (n : Nat) : Effect := fun _ _ w d =>
  let c := bitsOf w 0 3
  let low := decide (c < d.rd (F.FC_CLASS_MIN n))
  let was := d.srcClass n
  let d := (d.wr (F.FC_CLASS_CLASS n) (max c (d.rd (F.FC_CLASS_MIN n)))).when low fun d => d.blkErr .FC 17
  if d.asserted n then
    let d := d.when (decide (4 ≤ was)) fun d => { d with fc := { d.fc with quietSince := d.now } }
    let d := d.when (was == 3) fun d => { d with fc := { d.fc with shedSince := d.now } }
    d.latch n
  else d

/-- CLASS_WRITE (R276). -/
def execClassWrite (m : Nat) (n : Fin 64) (v : Word) : State → Out :=
  writeRow (classWrite n) m (.FC_CLASS n) v.toNat

/-- FIRST_RELEASE (R43). -/
def execFirstRelease (m : Nat) : State → Out := writeRow (captureWrite .FC_FIRST none) m .FC_FIRST (2 ^ 31)

/-! ## The end of the fault state (R280 to R283) -/

/-- The instants at which ALIVE may toggle (R285): no held source of class BLOCK or above, EN, and a recent kick. -/
def Dev.aliveHolds (d : Dev) (t : Nat) : Bool :=
  d.fc.aliveOn && d.on F.SAFE_ALIVE_EN &&
  !((List.range 64).any fun n => bitAt d.held n && decide (5 ≤ d.rd (F.FC_CLASS_HCLASS n))) &&
  (!d.on F.SAFE_ALIVE_KICK_EN ||
    decide (t ≤ d.fc.kickAt + max 1 (d.rd F.SAFE_ALIVE_KICK_WIN) * 1000000))

/-- A change of the conditions of R285: where they hold again, the next transition is one half period away.
(DEDUCED, log 125.) -/
def changeAlive (f : Dev → Dev) (d : Dev) : Dev :=
  let was := d.aliveHolds d.now
  let d' := f d
  d'.when (!was && d'.aliveHolds d'.now) fun d => { d with fc := { d.fc with aliveAt := d.now } }

/-- The fault state ends (R281, R283). -/
def endFaultState : Dev → Dev := changeAlive fun d =>
  let d := ((d.wr64 F.FC_HELD_LO_HELD F.FC_HELD_HI_HELD 0).wr F.FC_STATE_STATE 0).wr F.FC_STATE_LEVEL 0
  d.when (d.on F.FC_CFG_AUTO_UNBLOCK) fun d => { d with fc := { d.fc with reactBlock := false } }

/-- FAULT_RECOVERY (R280): a FAULT state that has been quiet for `FC.QUIET`. -/
def execFaultRecovery : State → Out := liftDev fun d =>
  if d.rd F.FC_STATE_STATE = 1 ∧ ¬ d.assertedFrom 4 then
    let d := landFirst endFaultState (d.jumpTo (d.fc.quietSince + d.quietNs))
    { d.count F.FC_RECOVERIES_COUNT with fc := { d.fc with recoveries := d.now :: d.fc.recoveries } }
  else d

/-- RELEASE: the fault state ends, or the write is refused (R281). -/
def fcRelease (d : Dev) : Dev :=
  if d.rd F.FC_STATE_STATE = 0 then d
  else if d.assertedFrom 4 then d.blkErr .FC 16
  else
    let d := endFaultState d
    { d with fc := { d.fc with recoveries := [] } }

/-- UNBLOCK: in NORMAL the reaction block ends (R283). -/
def fcUnblock (d : Dev) : Dev :=
  d.when (d.rd F.FC_STATE_STATE == 0) fun d => { d with fc := { d.fc with reactBlock := false } }

/-- A write to `FC.CTRL`. -/
def fcCtrlWrite : Effect := landFirstWrite fun _ v _ d =>
  let d := d.when (bitAt v 0) fcRelease
  let d := d.when (bitAt v 1) fcUnblock
  d.when (bitAt v 2) fun d => d.latch 63

/-- BLOCK_COMMAND (R282): a write to `SAFE.BLOCK.RIMS`. -/
def execBlockCommand (m : Nat) (v : Word) : State → Out :=
  writeRow (landFirstWrite (plainEffect .SAFE_BLOCK)) m .SAFE_BLOCK v.toNat

/-- FC_RELEASE (R281). -/
def execFcRelease (m : Nat) : State → Out := writeRow fcCtrlWrite m .FC_CTRL 1

/-- FC_UNBLOCK (R283). -/
def execFcUnblock (m : Nat) : State → Out := writeRow fcCtrlWrite m .FC_CTRL 2

/-- SWFAULT (R287): a condition of source 63. -/
def execSwfault (m : Nat) : State → Out := writeRow fcCtrlWrite m .FC_CTRL 4

/-! ## The protection pair and the service cores (R271, R288) -/

/-- LOCKSTEP_MISCOMPARE (R271): the pair, while it executes, halts. -/
def execLockstepMiscompare : State → Out := liftDev fun d =>
  if d.on F.PROT_STAT_RUNNING ∧ ¬ d.on F.PROT_STAT_HALTED then
    (((d.wr F.PROT_STAT_HALTED 1).wr F.PROT_STAT_RUNNING 0).count F.PROT_STAT_MISCOMPARES).latch 56
  else d

/-- SVC_HANG (R288): a running core has retired nothing for 1,048,576 of its cycles. -/
def execSvcHang (core : Fin 4) : State → Out := liftDev fun d =>
  d.when (d.coreRuns core) fun d => (d.setBit F.SYS_SVCFLT_HANG core).latch 55

/-- SVC_CACHE_ERROR (R288): the access that found it receives DATA; an error of the L2 cache shows in bit 7.
(DEDUCED, log 121.) -/
def execSvcCacheError (core : Fin 4) (l2 : Bool) : State → Out := liftDev fun d =>
  d.when (d.coreRuns core) fun d =>
    let d := { d with resp := { master := core, code := .data, data := 0 } }
    (d.setBit F.SYS_SVCFLT_CACHE (if l2 then 3 else core)).latch 55

/-! ## Trip outputs (R286, R371) -/

/-- A write to `SAFE.TRIP`: an early clear waits for MIN, a bit that a reaction has set at this instant stays set, and
a rise by the protection pair is a condition of source 62. -/
def tripWrite : Effect := fun m _ w d =>
  let old := d.rd F.SAFE_TRIP_ASSERT
  let rise := risingBits 8 old (bitsOf w 0 8)
  let new := bitsOf w 0 8 ||| d.thisTick.tripped
  let min_ := d.rd F.SAFE_TRIP_CFG_MIN * 1000000
  let early := (risingBits 8 new old).filter fun i => decide (d.now < mget 0 d.fc.tripSetAt i + min_)
  let d := { d with fc := { d.fc with tripSetAt := rise.foldl (fun t i => mset t i d.now) d.fc.tripSetAt } }
  let held := early.foldl (fun a i => a + 2 ^ i) 0
  let pend := (List.range 8).foldl (fun p i => if bitAt new i then clearBitAt p i else p)
    (d.rd F.SAFE_TRIP_STAT_PEND_CLR ||| held)
  let d := (d.wr F.SAFE_TRIP_ASSERT (new ||| held)).wr F.SAFE_TRIP_STAT_PEND_CLR pend
  d.when (m == 4 && !rise.isEmpty) fun d => d.latch 62

/-- TRIP_WRITE (R286). -/
def execTripWrite (m : Nat) (v : Word) : State → Out := writeRow tripWrite m .SAFE_TRIP v.toNat

/-- TRIP_MIN_EXPIRE (R286). -/
def execTripMinExpire (n : Fin 8) : State → Out := liftDev fun d =>
  if d.bit F.SAFE_TRIP_STAT_PEND_CLR n then
    let d := d.jumpTo (mget 0 d.fc.tripSetAt n + d.rd F.SAFE_TRIP_CFG_MIN * 1000000)
    (d.clrBit F.SAFE_TRIP_ASSERT n).clrBit F.SAFE_TRIP_STAT_PEND_CLR n
  else d

/-- A write to `SAFE.TRIP_CFG`: the first after a reset enables the drivers (R371). -/
def tripCfgWrite : Effect := fun m v w d =>
  let d := plainEffect .SAFE_TRIP_CFG m v w d
  { d with fc := { d.fc with tripDrive := true } }

/-- TRIP_CFG_WRITE (R371). -/
def execTripCfgWrite (m : Nat) (v : Word) : State → Out := writeRow tripCfgWrite m .SAFE_TRIP_CFG v.toNat

/-- The level that a TRIPn driver gives; none while it is high-impedance (R286, R370, R371).
(DESIGN CHOICE, log 122.) -/
def Dev.tripLevel (d : Dev) (n : Nat) : Option Bool :=
  if d.fc.tripDrive ∧ d.domUp domSAFE then some (d.bit F.SAFE_TRIP_ASSERT n != d.bit F.SAFE_TRIP_CFG_POL n)
  else none

/-! ## ALIVE and REPLACE_N (R285, R371) -/

/-- The half period of ALIVE in ns: 5 to 500 times 10 us. -/
def Dev.aliveHalf (d : Dev) : Nat := clampTo 5 500 (d.rd F.SAFE_ALIVE_HALF_HALF) * 10000

/-- ALIVE_TOGGLE (R285): a half period has passed with all conditions holding. (DEDUCED, log 125.) -/
def execAliveToggle : State → Out := liftDev fun d =>
  let t := max d.now (d.fc.aliveAt + d.aliveHalf)
  if d.domUp domSAFE ∧ d.aliveHolds d.now ∧ d.aliveHolds t then
    let d := d.jumpTo t
    { d.wr F.SAFE_ALIVE_LEVEL (1 - d.rd F.SAFE_ALIVE_LEVEL) with fc := { d.fc with aliveAt := t } }
  else d

/-- A kick: the window restarts from now. -/
def kick (d : Dev) : Dev := { d with fc := { d.fc with kickAt := d.now, kickLate := false } }

/-- A write to `SAFE.ALIVE_KICK` (R285, R371). -/
def aliveKickWrite : Effect := fun _ _ _ => changeAlive fun d =>
  let d := kick d
  { d with fc := { d.fc with aliveOn := true } }

/-- ALIVE_KICK (R285). -/
def execAliveKick (m : Nat) (v : Word) : State → Out := writeRow aliveKickWrite m .SAFE_ALIVE_KICK v.toNat

/-- A write to `SAFE.ALIVE`: setting KICK_EN counts as a kick (R285). -/
def aliveWrite : Effect := fun m v w => changeAlive fun d =>
  let was := d.on F.SAFE_ALIVE_KICK_EN
  let d := plainEffect .SAFE_ALIVE m v w d
  d.when (!was && d.on F.SAFE_ALIVE_KICK_EN) kick

/-- KICK_EXPIRE (R287): the kick window of R285 expires. -/
def execKickExpire : State → Out := liftDev fun d =>
  if d.on F.SAFE_ALIVE_KICK_EN ∧ ¬ d.fc.kickLate then
    let d := d.jumpTo (d.fc.kickAt + max 1 (d.rd F.SAFE_ALIVE_KICK_WIN) * 1000000)
    ({ d with fc := { d.fc with kickLate := true } }).latch 63
  else d

/-- REPLACE_N is low by its causes of R285: a source of class REPLACE is asserted, or the fault state lasts. -/
def Dev.replaceLow (d : Dev) : Bool :=
  d.on F.FC_STATE_STATE || (List.range 64).any fun n => d.asserted n && d.srcClass n == 2

/-- The level of the REPLACE_N ball: low until the boot has ended (R371), then as R285. (DEDUCED, log 125.) -/
def Dev.replaceN (d : Dev) : Bool := d.rst.bootDone && !d.replaceLow

end Sys2Proof.Machine
end

