-- ==== Sys2Proof/Machine/MemCtl.lean ====
section
/-!
DEFINITION. Sys2Proof/Machine/MemCtl.lean: the zero-fills (R304), write-backs and scrubbers (R301, R305, R306), and
the flash interface (R307 to R309).
-/
namespace Sys2Proof.Machine

/-! ## Zero-fills and write-backs -/

/-- Stored errors within a range are gone: its words have been written whole (R302). -/
def dropErrors (lo hi : Nat) (d : Dev) : Dev :=
  { d with memory := { d.memory with
      bad := d.memory.bad.filter fun w => w < lo || hi ≤ w
      fixing := d.memory.fixing.filter fun w => w < lo || hi ≤ w } }

/-- The zero-fill of shared SRAM ends after 786,432 BUSCLK cycles (R304). -/
def sramClearDone (d : Dev) : Dev × List MemEff :=
  match d.memory.clearAt with
  | none => (d, [])
  | some t =>
    let d := dropErrors sramBase (sramBase + 0x1800000) (d.jumpTo (t + d.busNs 786432))
    let d := { d with memory := { d.memory with clearAt := none, sramOk := true } }
    ((d.wr (F.PG_STAT_READY (.SYS 1)) 1).progEnd (.SYS 1), [.clear sramBase (sramBase + 0x1800000)])

/-- The zero-fill of safety RAM and staging RAM ends after 73,728 SAFECLK cycles; a staging clear completed under
SVC_SCK is not repeated (R304, R377). -/
def safeClearDone (d : Dev) : Dev × List MemEff :=
  match d.rst.safeClearAt with
  | none => (d, [])
  | some t =>
    let d := dropErrors safetyBase (safetyBase + 0x80000) (d.jumpTo (t + 4 * 73728))
    let staging := !d.rst.stgReady
    let d := d.when staging (dropErrors stagingBase (stagingBase + 0x10000))
    ({ d with rst := { d.rst with safeClearAt := none, safeReady := true, stgReady := true } },
      .clear safetyBase (safetyBase + 0x80000) ::
        (if staging then [.clear stagingBase (stagingBase + 0x10000)] else []))

/-- SRAM_CLEAR_DONE (R304): of shared SRAM, or of safety and staging RAM. (DEDUCED, log 130.) -/
def execSramClearDone (safe : Bool) : State → Out :=
  liftMem fun _ d => if safe then safeClearDone d else sramClearDone d

/-- ECC_WRITEBACK (R301): the oldest corrected word that waits is written back; its bytes already read corrected.
(DESIGN CHOICE, log 84.) -/
def execEccWriteback : State → Out := liftDev fun d =>
  { d with memory := { d.memory with fixing := d.memory.fixing.dropLast } }

/-! ## The scrubbers -/

/-- The words of a pass of the main scrubber: all, or shared SRAM alone (R300, R305). -/
def Dev.scrubWords (d : Dev) : Nat :=
  if d.on F.SYS_SCRUB_CFG_LOOP_EN && d.domUp domLOOP then 3227648 else 3145728

/-- The address of a word of the main scrubber's pass, in its order (R305). -/
def scrubAddr (i : Nat) : Nat :=
  if i < 3145728 then sramBase + 8 * i
  else if i < 3145728 + 65536 then secBase + 8 * (i - 3145728)
  else if i < 3145728 + 65536 + 8192 then cascBase + 8 * (i - 3211264)
  else progBase + 8 * (i - 3219456)

/-- The address of a word of the safety scrubber's pass (R306). -/
def safetyScrubAddr (i : Nat) : Nat :=
  if i < 65536 then safetyBase + 8 * i else stagingBase + 8 * (i - 65536)

/-- A scrubber reads a word, in one locked operation with the write-back (R301, R305): `err` is an error that the read
finds now, and whether it is uncorrectable. -/
def scrubRead (a : Nat) (err : Option Bool) (d : Dev) : Dev :=
  let w := physAddr a
  if d.memory.bad.contains w ∨ err = some true then reportUncorr w (markBad w d)
  else if d.memory.fixing.contains w ∨ err = some false then countCorrected (clearErrors [w] d)
  else d

/-- SCRUB_STEP (R305). (DEDUCED, log 82.) -/
def execScrubStep (err : Option Bool) : State → Out := liftDev fun d =>
  if d.on F.SYS_SCRUB_CFG_EN ∧ d.domUp domMEM ∧ d.busRuns ∧ d.memory.sramOk then
    let d := d.jumpTo (d.memory.scrubAt + d.busNs (max 1 (d.rd F.SYS_SCRUB_CFG_STRIDE)))
    let words := d.scrubWords
    let i := if d.memory.scrub < words then d.memory.scrub else 0
    let d := d.when (!d.on (F.PG_STAT_BUSY (.SYS 1))) fun d => d.progStart (.SYS 1) 0 0
    let d := d.progAt (.SYS 1) (i / 512) (100 * (i / 512) / (words / 512))
    let d := scrubRead (scrubAddr i) err d
    let d := { d with memory := { d.memory with scrub := (i + 1) % words, scrubAt := d.now } }
    d.when (i + 1 == words) fun d =>
      let d := d.wr F.SYS_SCRUB_STAT_PASSES (d.rd F.SYS_SCRUB_STAT_PASSES + 1)
      ((d.progEnd (.SYS 1)).irPulse 135).progStart (.SYS 1) 0 0
  else d

/-- SAFETY_SCRUB_STEP (R306): a step every 64 SAFECLK cycles of 4 ns, once the memories are cleared.
(DEDUCED, log 83.) -/
def execSafetyScrubStep (err : Option Bool) : State → Out := liftDev fun d =>
  if d.domUp domSAFE ∧ d.safeRuns ∧ d.rst.safeReady then
    let d := d.jumpTo (d.memory.sscrubAt + 256)
    let i := d.memory.sscrub
    let d := scrubRead (safetyScrubAddr i) err d
    let d := { d with memory := { d.memory with sscrub := (i + 1) % 73728, sscrubAt := d.now } }
    d.when (i + 1 == 73728 && d.domUp domMEM) fun d =>
      d.wr F.SYS_SCRUB_STAT_SPASSES (d.rd F.SYS_SCRUB_STAT_SPASSES + 1)
  else d

/-! ## The flash interface (R308) -/

/-- Bytes of the flash interface's FIFO (R308). -/
def xspiDepth : Nat := 256

/-- `n` bytes that the flash delivers: those that the command carries, then bytes that the manual does not state.
(DESIGN CHOICE, log 77.) -/
def flashBytes : Nat → List (BitVec 8) → Dev → List (BitVec 8) × Dev
  | 0, _, d => ([], d)
  | n + 1, b :: t, d =>
    let r := flashBytes n t d
    (b :: r.1, r.2)
  | n + 1, [], d =>
    let r := flashBytes n [] d.taken
    (BitVec.ofNat 8 d.free :: r.1, r.2)

/-- Replaces the FIFO; LEVEL follows it. -/
def setFifo (l : List (BitVec 8)) (d : Dev) : Dev :=
  { d.wr F.XSPI_STAT_LEVEL l.length with xspi := { d.xspi with fifo := l } }

/-- The command in progress moves the bytes it can: a read into the room of the FIFO, a PROG or REG_WR out of it.
(DESIGN CHOICE, log 77.) -/
def xspiMove (d : Dev) : Dev :=
  match d.xspi.cmd with
  | none => d
  | some c =>
    if c.kind = 0 ∨ c.kind = 3 then
      let n := min c.left (xspiDepth - d.xspi.fifo.length)
      let r := flashBytes n c.incoming d
      let d := setFifo (d.xspi.fifo ++ r.1) r.2
      { d with xspi := { d.xspi with cmd := some { c with left := c.left - n, incoming := c.incoming.drop n } } }
    else
      let n := min c.left d.xspi.fifo.length
      let moved := d.xspi.fifo.take n
      let d := setFifo (d.xspi.fifo.drop n) d
      { d with xspi := { d.xspi with cmd := some { c with
          left := c.left - n, sent := c.sent ++ moved, pollAt := if 0 < n then d.now else c.pollAt } } }

/-- Whether `LEN` is one that a KIND takes (R308). (DEDUCED, log 80.) -/
def xspiLenOk (kind addr page len : Nat) : Bool :=
  match kind with
  | 0 => decide (4 ≤ len) && decide (len ≤ 16777212) && len % 4 == 0
  | 1 =>
    let size := if page = 0 then 256 else 512
    decide (4 ≤ len) && decide (len ≤ 256) && len % 4 == 0 && addr / size == (addr + len - 1) / size
  | 3 => decide (1 ≤ len) && decide (len ≤ 8)
  | 4 => decide (len ≤ 8)
  | _ => true

/-- Whether a flash range overlaps the booted bank (R309). (DEDUCED, log 79.) -/
def Dev.inBooted (d : Dev) (addr len : Nat) : Bool :=
  let b := if d.on F.XSPI_BANKSEL_BOOTED then d.word .XSPI_BANKB else d.word .XSPI_BANKA
  let lo := b / 65536 * 65536
  decide (addr < lo + b % 65536 * 65536) && decide (lo < addr + len)

/-- A write to `XSPI.CMD` (R308, R309): the flash answers a read with the bytes `data`. (DEDUCED, log 79.) -/
def xspiCmdWrite (data : List (BitVec 8)) : Effect := fun _ _ w d =>
  if d.on F.XSPI_STAT_BUSY then d.blkErr .XSPI 16
  else
    let d := d.setWord .XSPI_CMD w
    let kind := d.code F.XSPI_CMD_KIND [0, 1, 2, 3, 4]
    let addr := d.rd F.XSPI_ADDR_VAL
    let len := d.rd F.XSPI_LEN_VAL
    if !xspiLenOk kind addr (d.rd F.XSPI_CFG_PAGE) len then d.blkErr .XSPI 18
    else if d.on F.XSPI_CFG_PROT_BOOTED ∧ (kind = 1 ∧ d.inBooted addr len ∨ kind = 2 ∧ d.inBooted addr 1) then
      d.blkErr .XSPI 17
    else
      let sendsAddr := decide (kind ≤ 2) || d.on F.XSPI_CMD_ADDR_EN
      let c : XspiCmd := { kind, opcode := d.rd F.XSPI_CMD_OPCODE, addr := if sendsAddr then some addr else none
                           left := if kind = 2 then 0 else len, incoming := data, pollAt := d.now }
      let d := d.wr F.XSPI_STAT_BUSY 1
      xspiMove { d with xspi := { d.xspi with cmd := some c } }

/-- A read of `XSPI.DATA` pops 4 bytes, the first flash byte in bits 7:0 (R308). -/
def xspiPop (d : Dev) : Nat × Dev :=
  if d.xspi.fifo.length < 4 then (0, d.blkErr .XSPI 19)
  else (leAt d.xspi.fifo 0 4, xspiMove (setFifo (d.xspi.fifo.drop 4) d))

/-- A write to `XSPI.DATA` pushes 4 bytes; without room for them the FIFO is full (R308). (DEDUCED, log 78.) -/
def xspiDataWrite : Effect := fun _ v _ d =>
  if xspiDepth < d.xspi.fifo.length + 4 then d.blkErr .XSPI 20
  else xspiMove (setFifo (d.xspi.fifo ++ leBytes 4 v) d)

/-- The command in progress ends, with DONE or TIMEOUT (R308). (DEDUCED, log 81.) -/
def xspiEnd (f : FRef) (c : XspiCmd) (d : Dev) : Dev :=
  let d := ((d.wr F.XSPI_STAT_BUSY 0).wr f 1).irPulse 132
  { d with xspi := { d.xspi with cmd := none, last := some c } }

/-- XSPI_READ (R308). -/
def execXspiRead (m : Nat) (v : Word) (data : List (BitVec 8)) : State → Out :=
  writeRow (xspiCmdWrite data) m .XSPI_CMD v.toNat
/-- XSPI_PROG (R308, R309). -/
def execXspiProg (m : Nat) (v : Word) : State → Out := writeRow (xspiCmdWrite []) m .XSPI_CMD v.toNat
/-- XSPI_ERASE (R308, R309). -/
def execXspiErase (m : Nat) (v : Word) : State → Out := writeRow (xspiCmdWrite []) m .XSPI_CMD v.toNat
/-- XSPI_REG_RD (R308). -/
def execXspiRegRd (m : Nat) (v : Word) (data : List (BitVec 8)) : State → Out :=
  writeRow (xspiCmdWrite data) m .XSPI_CMD v.toNat
/-- XSPI_REG_WR (R308). -/
def execXspiRegWr (m : Nat) (v : Word) : State → Out := writeRow (xspiCmdWrite []) m .XSPI_CMD v.toNat

/-- XSPI_CMD_DONE (R308): all data have passed, and the flash's status reads ready. -/
def execXspiCmdDone : State → Out := liftDev fun d =>
  match d.xspi.cmd with
  | some c => if c.left = 0 then xspiEnd F.XSPI_STAT_DONE c d else d
  | none => d

/-- XSPI_POLL_TIMEOUT (R308): polling of a PROG or ERASE has lasted 4 s. (DEDUCED, log 81.) -/
def execXspiPollTimeout : State → Out := liftDev fun d =>
  match d.xspi.cmd with
  | some c =>
    if c.left = 0 ∧ (c.kind = 1 ∨ c.kind = 2) then xspiEnd F.XSPI_STAT_TIMEOUT c (d.jumpTo (c.pollAt + 4000000000))
    else d
  | none => d

/-- XSPI_DATA_POP (R308). -/
def execXspiDataPop (m : Nat) : State → Out := liftDev fun d => d.busReadWith (fun _ => xspiPop) m .XSPI_DATA

/-- XSPI_DATA_PUSH (R308). -/
def execXspiDataPush (m : Nat) (v : Word) : State → Out := writeRow xspiDataWrite m .XSPI_DATA v.toNat

end Sys2Proof.Machine
end

