-- ==== Sys2Proof/Machine/Power.lean ====
section
/-!
DEFINITION. Sys2Proof/Machine/Power.lean: supplies (R345 to R348), power domains and retention (R349 to R351), and
power states with their transitions (R352 to R360).
-/
namespace Sys2Proof.Machine

/-! ## What a domain loses when it is switched off (R350, R351) -/

/-- Whether a register keeps its value over a switch-off of its domain with the contents retained (R351). -/
def Reg.retained : Reg → Bool
  | .IR_SRC_ROUTE _ | .IR_TGT_THRESH _ => true
  | _ => false

/-- Every register of a domain takes its reset value, whatever its Kept-by column says (R350). -/
def domainRegs (i : Nat) (keep : Bool) (d : Dev) : Dev :=
  { d with
    regs := d.regs.resetBy none fun r => r.page.domain == i && !(keep && r.retained)
    unlocks := d.unlocks.filter fun u => u.1.domain != i
    blockResets := d.blockResets.filter fun p => p.domain != i }

/-- What the tandem block holds is lost; the claim logic, of the SAFE domain, keeps what it knows. -/
def tandemLost (t : TandemState) : TandemState :=
  { learnArmed := t.learnArmed, learnAt := t.learnAt, partnerSeen := t.partnerSeen, hbInLearn := t.hbInLearn
    learnDisc := t.learnDisc, pRole := t.pRole, pClaim := t.pClaim, hbAt := t.hbAt, hbSeen := t.hbSeen
    resignAt := t.resignAt, ownAt := t.ownAt, ownSeen := t.ownSeen, peerAt := t.peerAt, claimGen := t.claimGen }

/-- What the blocks of a domain hold beside their registers is lost, but for retained contents. -/
def domainState (i : Nat) (keep : Bool) (d : Dev) : Dev :=
  match i with
  | 2 => { d with station := {}, time := { d.time with tsqA := [], tsqB := [], tsqSnap := [] } }
  | 3 => { d with tandem := tandemLost d.tandem }
  | 4 | 5 => { d with
      rims := d.rims.filter fun e => rimDomain e.1 != i
      spokes := d.spokes.filter fun e => rimDomain (rimOf e.1) != i }
  | 6 => { d with
      edge := {}
      loop := if keep then { cstat := d.loop.cstat, tdone := d.loop.tdone, sstat := d.loop.sstat } else {} }
  | 8 => { d with
      dma := {}, xspi := {}, irOwner := if keep then d.irOwner else []
      memory := { d.memory with clearAt := none, sramOk := keep && d.memory.sramOk, scrub := 0 } }
  | 9 => { d with adc := {} }
  | _ => d

/-! ## Switching domains (R349, R350) -/

/-- The domains that are to be on: `PWR.DOM.ON`, less those that the power state switches off and those that wait for
the cooling judgement (R296, R352). -/
def Dev.wanted (d : Dev) (i : Nat) : Bool :=
  decide (i < 2) || (bitAt (d.word .PWR_DOM) i && !bitAt d.pwr.off i && !bitAt d.pwr.cooling i)

/-- A domain begins to switch off: it is gated and isolated, and its contents go (R350). A
test force that the MEM domain loses ends its assertions (R277, R280). (DESIGN CHOICE, log 109.) -/
def switchDown (i : Nat) (d : Dev) : Dev :=
  let keep := (i == domLOOP && d.on F.PWR_DOM_RET_LOOP) || (i == domMEM && d.on F.PWR_DOM_RET_MEM)
  let off (d : Dev) : Dev :=
    domainState i keep (domainRegs i keep ((d.clrBit F.PWR_DOM_STAT_UP i).setBit F.PWR_DOM_STAT_TRANS i))
  let d := if i = domMEM then changeAsserted off d else off d
  { d with pwr := { d.pwr with
      upwards := clearBitAt d.pwr.upwards i
      kept := if keep then setBitAt d.pwr.kept i else clearBitAt d.pwr.kept i } }

/-- A domain begins to switch on. -/
def switchUp (i : Nat) (d : Dev) : Dev :=
  let d := d.setBit F.PWR_DOM_STAT_TRANS i
  { d with pwr := { d.pwr with upwards := setBitAt d.pwr.upwards i } }

/-- Every domain that stands otherwise than it is to stand begins to switch; one that is switching waits (R350). -/
def applyWanted (d : Dev) : Dev :=
  d.each ((List.range 10).filter fun i => !d.bit F.PWR_DOM_STAT_TRANS i && d.wanted i != d.domUp i) fun i d =>
    if d.wanted i then switchUp i d else switchDown i d

/-- A domain is up: its registers stand at reset, its memories are cleared unless retained (R212, R304, R350).
(DESIGN CHOICE, log 109.) -/
def domainUp (i : Nat) (d : Dev) : Dev × List MemEff :=
  let keep := bitAt d.pwr.kept i
  let d := (domainRegs i keep d).setBit F.PWR_DOM_STAT_UP i
  match i with
  | 6 =>
    let d := d.wr (F.PG_STAT_READY (.LOOP 0)) 1
    if keep then (d, [.clear traceBase (traceBase + 0x80000), .clear telemBase (telemBase + 0x8000)])
    else
      (dropErrors secBase (progBase + 0x10000) d,
        [.clear secBase (secBase + 0x80000), .clear cascBase (cascBase + 0x10000), .clear progBase (progBase + 0x10000),
         .clear traceBase (traceBase + 0x80000), .clear telemBase (telemBase + 0x8000)])
  | 8 =>
    if d.memory.sramOk then (d.wr (F.PG_STAT_READY (.SYS 1)) 1, [])
    else (d.when d.clk.pllM.released startSramClear, [])
  | _ => (d, [])

/-- DOM_SWITCH_DONE (R350): a domain finishes switching. `forced` names a gate of the domain whose drain had to be
closed by force when the domain was switched off. (DESIGN CHOICE, log 109.) -/
def execDomSwitchDone (dom : Fin 10) (forced : Option (Fin 21)) : State → Out := liftMem fun _ d =>
  if ¬ d.bit F.PWR_DOM_STAT_TRANS dom then (d, [])
  else
    let up := bitAt d.pwr.upwards dom
    let d := (d.clrBit F.PWR_DOM_STAT_TRANS dom).wr F.PWR_EVT_DOM_DONE 1
    if up then
      let r := domainUp dom { d with pwr := { d.pwr with upwards := clearBitAt d.pwr.upwards dom } }
      (applyWanted r.1, r.2)
    else
      let d := match forced with
        | some b => (d.blkErr .CLK 18).wr F.CLK_GATE_STAT_LAST_FORCED b
        | none => d
      (applyWanted d, [])

/-- Whether a write by a master that clears a domain's bit is refused (R349). (DEDUCED, log 119.) -/
def Dev.domRefused (d : Dev) (m i : Nat) : Bool :=
  let cur := d.rd F.CLK_ROOTSTAT_CUR
  match i with
  | 2 => decide (cur ≤ 1)
  | 3 => cur == 2 || cur == 3 || d.enabled (.TANDEM 0)
  | 4 => (List.range 16).any d.rimOn
  | 5 => (List.range 16).any fun n => d.rimOn (16 + n)
  | 6 => !d.cellsBlocked || (List.range 64).any fun c => d.on (F.EDGE_CAR_CTRL_EN c)
  | 7 => !isSafe m
  | 9 => (List.range 16).any fun c => d.enabled (.ADC (1 + c))
  | _ => true

/-- A write to `PWR.DOM` (R349): refused as a whole, or the domains that it changes begin to switch.
(DEDUCED, log 119.) -/
def domWrite : Effect := fun m v w d =>
  let old := d.word .PWR_DOM
  let new := w / 4 * 4 + v % 4
  if (List.range 10).any fun i => bitAt old i && !bitAt new i && d.domRefused m i then d.blkErr .PWR 17
  else applyWanted (d.setWord .PWR_DOM w)

/-- DOM_WRITE (R349). -/
def execDomWrite (m : Nat) (v : Word) : State → Out := writeRow domWrite m .PWR_DOM v.toNat

/-! ## Power states (R352 to R360) -/

/-- `CUR` changes, with its cause. -/
def setCur (st cause : Nat) (d : Dev) : Dev :=
  ((d.wr F.PWR_STATE_CUR st).wr F.PWR_STATE_CAUSE cause).wr F.PWR_EVT_STATE_CHANGE 1

/-- Entry to STANDBY or HIBERNATE begins (R357, step 1): the power block comes into force and loops are held. A SHED request
of this very instant has not taken the device out of RUN: the higher of the two acts (R353). -/
def startDown (st cause : Nat) (d : Dev) : Dev :=
  let d := d.when (d.pwr.shedByFc && d.fc.shedSince == d.now && d.pwr.since == d.now) fun d => d.wr F.PWR_STATE_CUR 0
  let d := (d.wr F.PWR_STATE_BUSY 1).progStart .PWR 1 255
  { d with
    loop := d.loop.abortAll
    pwr := { d.pwr with powerBlock := true, loopsHeld := true, target := st, since := d.now, switched := false
                        cause, shedByFc := false, runAtEnd := false } }

/-- The return to RUN begins (R359, steps 1 and 2). -/
def startUp (cause : Nat) (d : Dev) : Dev :=
  let d := (d.wr F.PWR_STATE_BUSY 1).progStart .PWR 2 255
  applyWanted { d with pwr := { d.pwr with target := 0, since := d.now, switched := true, cause, off := 0 } }

/-- Why a request is refused (R353). -/
def Dev.reqRefused (d : Dev) (st : Nat) : Bool :=
  let cur := d.rd F.PWR_STATE_CUR
  d.on F.PWR_STATE_BUSY || st == cur ||
  (cur == 3 && (st == 1 || st == 2 || d.on F.THERM_STAT_SHUTDOWN)) || (cur == 2 && st == 1)

/-- An accepted request for the state `st` (R353, R356). (DEDUCED, log 111, 112.) -/
def acceptReq (st : Nat) (d : Dev) : Dev :=
  let cur := d.rd F.PWR_STATE_CUR
  if 2 ≤ st then startDown st 1 d
  else if st = 1 then setCur 1 1 { d with pwr := { d.pwr with shedByFc := false, since := d.now } }
  else if cur = 1 then
    if d.fc.shedReq then { d with pwr := { d.pwr with runAtEnd := true } } else setCur 0 1 d
  else startUp 1 d

/-- A write to `PWR.STATE` (R353): only a safety-partition master requests a state. -/
def stateWrite : Effect := fun m v _ d =>
  let asked := d.wr F.PWR_STATE_REQ v
  let st := asked.code F.PWR_STATE_REQ [0, 1, 2, 3]
  if ¬ isSafe m then d
  else if d.reqRefused st then d.blkErr .PWR 16
  else acceptReq st asked

/-- REQ_RUN (R353, R356, R359). -/
def execReqRun (m : Nat) (v : Word) : State → Out := writeRow stateWrite m .PWR_STATE v.toNat
/-- REQ_SHED (R353, R355). -/
def execReqShed (m : Nat) (v : Word) : State → Out := writeRow stateWrite m .PWR_STATE v.toNat
/-- REQ_STANDBY (R353, R357). -/
def execReqStandby (m : Nat) (v : Word) : State → Out := writeRow stateWrite m .PWR_STATE v.toNat
/-- REQ_HIBERNATE (R353, R357). -/
def execReqHibernate (m : Nat) (v : Word) : State → Out := writeRow stateWrite m .PWR_STATE v.toNat

/-- The domains that an entry switches off: those in `STBY_OFF` but MEM, or all but SAFE, TIME and STATION (R357).
(DEDUCED, log 110.) -/
def Dev.stateOff (d : Dev) (st : Nat) : Nat :=
  if st = 2 then clearBitAt (8 * d.rd F.PWR_STBY_OFF_MASK) domMEM else 0x3F8

/-- POWER_DOMAIN_SWITCH (R357, step 3): 20 us after the start of an entry. At a thermal shutdown a domain that is
switching on turns back, whatever its state (R295). (DEDUCED, log 110, 114.) -/
def execPowerDomainSwitch : State → Out := liftDev fun d =>
  if d.on F.PWR_STATE_BUSY ∧ 2 ≤ d.pwr.target ∧ ¬ d.pwr.switched then
    let d := (d.jumpTo (d.pwr.since + 20000)).progAt .PWR 3 255
    let d := { d with pwr := { d.pwr with switched := true, off := d.stateOff d.pwr.target } }
    let turned (i : Nat) : Bool :=
      d.pwr.cause == 4 && d.bit F.PWR_DOM_STAT_TRANS i && bitAt d.pwr.upwards i && !d.wanted i
    applyWanted (d.each ((List.range 10).filter turned) switchDown)
  else d

/-- Whether every domain stands as it is to stand. (DEDUCED, log 118.) -/
def Dev.settled (d : Dev) : Bool :=
  d.rd F.PWR_DOM_STAT_TRANS == 0 && (List.range 10).all fun i => d.wanted i == d.domUp i

/-- POWER_TRANSITION_DONE (R357 step 4, R359 steps 3 to 5): the switching is complete. In RUN a SHED request that
stands acts at once (R353). Where the power block's end would let CELLS_BLOCKED fall, a step that is BUSY lands first
(R90). (DEDUCED, log 118.) -/
def execPowerTransitionDone : State → Out := liftDev fun d =>
  if d.on F.PWR_STATE_BUSY ∧ d.pwr.switched ∧ d.settled ∧ (d.pwr.target ≠ 0 ∨ ¬ d.domUp domMEM ∨ d.memory.sramOk) then
    let st := d.pwr.target
    let d := (d.progAt .PWR (if st = 0 then 5 else 4) 100).wr F.PWR_STATE_BUSY 0
    let d := d.wr (F.PG_STAT_BUSY .PWR) 0
    let d := setCur st d.pwr.cause d
    if st = 0 then
      let d := landFirst (fun d => { d with pwr := { d.pwr with powerBlock := false, loopsHeld := false } }) d
      d.when d.fc.shedReq fun d =>
        let d := enterShed 2 d
        { d with pwr := { d.pwr with shedByFc := true } }
    else d
  else d

/-- SHED_REQUEST_END (R277, R356): `FC.QUIET` has passed with no SHED-class source asserted. (DEDUCED, log 111.) -/
def execShedRequestEnd : State → Out := liftDev fun d =>
  if d.fc.shedReq ∧ ¬ (List.range 64).any (fun n => d.asserted n && d.srcClass n == 3) then
    let d := d.jumpTo (d.fc.shedSince + d.quietNs)
    let back := d.rd F.PWR_STATE_CUR == 1 && !d.on F.PWR_STATE_BUSY
    let byFc := d.pwr.shedByFc
    let asked := d.pwr.runAtEnd
    let d := { d with
      fc := { d.fc with shedReq := false }
      pwr := { d.pwr with shedByFc := false, runAtEnd := false } }
    d.when (back && (byFc || asked)) (setCur 0 (if byFc then 3 else 1))
  else d

/-! ## Supplies (R345 to R348) -/

/-- VIN_WARN (R346): VIN falls through 1.55 V. (DEDUCED, log 160.) -/
def execVinWarn : State → Out := liftDev fun d =>
  d.when (d.rst.vinUp && !d.on F.PWR_VMON_WARN) fun d =>
    let d := ((d.wr F.PWR_VMON_WARN 1).wr F.PWR_EVT_WARN 1).count F.PWR_VMON_CNT_DIPS
    { d with pwr := { d.pwr with warnAt := d.now, warnLong := false } }

/-- VIN_WARN_HELD (R346): WARN has been 1 for more than 20 us. -/
def execVinWarnHeld : State → Out := liftDev fun d =>
  if d.on F.PWR_VMON_WARN ∧ ¬ d.pwr.warnLong then
    let d := (d.jumpTo (d.pwr.warnAt + 20000)).count F.PWR_VMON_CNT_LONG
    ({ d with pwr := { d.pwr with warnLong := true } }).condOn 50
  else d

/-- VIN_WARN_END (R346): VIN rises through 1.58 V. -/
def execVinWarnEnd : State → Out := liftDev fun d =>
  if d.on F.PWR_VMON_WARN then
    let d := (d.wr F.PWR_VMON_WARN 0).wr F.PWR_EVT_WARN_END 1
    let d := d.when d.pwr.warnLong fun d => d.condOff 50
    { d with pwr := { d.pwr with warnLong := false } }
  else d

/-- VIN_RESET_LEVEL (R346, R369): VIN falls below 1.45 V. The device is in OFF: all is lost but the OTP; the levels at
its pins and the supply comparators stand. (DEDUCED, log 117.) -/
def execVinResetLevel : State → Out := fun s =>
  let d := s.dev
  let off : Dev := { now := d.now, freeCount := d.freeCount, gpio := d.gpio
                     pwr := { warnAt := d.pwr.warnAt, warnLong := d.pwr.warnLong, vddaBad := d.pwr.vddaBad
                              vddaAt := d.pwr.vddaAt }
                     rst := { pinLow := d.rst.pinLow }
                     fc := { cond := if d.pwr.warnLong then 2 ^ 50 else 0 }
                     sec := { otp := d.sec.otp } }
  let off := (off.wr F.PWR_VMON_WARN (d.rd F.PWR_VMON_WARN)).wr F.PWR_VMON_VDDA_LOW (d.rd F.PWR_VMON_VDDA_LOW)
  .next { s with dev := off, mem := [] }

/-- VIN_MEASURE (R346): the measurement in mV made every 10 us. -/
def execVinMeasure (mv : BitVec 13) : State → Out := liftDev fun d =>
  d.when d.rst.vinUp fun d =>
    let d := (d.jumpTo (d.pwr.measAt + 10000)).wr F.PWR_VMON_VIN mv.toNat
    let d := d.wr F.PWR_VMIN_MIN (if d.pwr.vminClear then mv.toNat else min mv.toNat (d.rd F.PWR_VMIN_MIN))
    { d with pwr := { d.pwr with vminClear := false, measAt := d.now } }

/-- A write to `PWR.VMIN`: CLR sets MIN to the next measurement and reads 0. -/
def vminWrite : Effect := fun _ v _ d =>
  d.when (bitAt v 31) fun d => { d with pwr := { d.pwr with vminClear := true } }

/-- VMIN_CLEAR (R346). -/
def execVminClear (m : Nat) (v : Word) : State → Out := writeRow vminWrite m .PWR_VMIN v.toNat

/-- VDDA_LOW (R347): VDDA falls below 2.90 V. (DEDUCED, log 113.) -/
def execVddaLow : State → Out := liftDev fun d =>
  let d := d.when (!d.on F.PWR_VMON_VDDA_LOW) fun d => d.wr F.PWR_EVT_VDDA_LOW 1
  { d.wr F.PWR_VMON_VDDA_LOW 1 with pwr := { d.pwr with vddaBad := true } }

/-- VDDA_RECOVER (R347): VDDA rises above 2.95 V. -/
def execVddaRecover : State → Out := liftDev fun d =>
  d.when (d.on F.PWR_VMON_VDDA_LOW) fun d =>
    { d.wr F.PWR_VMON_VDDA_LOW 0 with pwr := { d.pwr with vddaAt := d.now } }

/-- VDDA_RECOVERY_END (R347): 300 us later. -/
def execVddaRecoveryEnd : State → Out := liftDev fun d =>
  if d.pwr.vddaBad ∧ ¬ d.on F.PWR_VMON_VDDA_LOW then
    let d := d.jumpTo (d.pwr.vddaAt + 300000)
    { d with pwr := { d.pwr with vddaBad := false } }
  else d

/-- IVR_FAULT (R348): an output of regulator `r` has lain outside ±5 % for more than 10 us. -/
def execIvrFault (r : Fin 3) : State → Out := liftDev fun d =>
  d.when (!d.bit F.PWR_IVR_FAULT r) fun d =>
    (((d.setBit F.PWR_IVR_FAULT r).setBit F.PWR_IVR_SEEN r).wr F.PWR_EVT_IVR 1).condOn 51

/-- IVR_FAULT_END (R348): the output is back within ±5 %. -/
def execIvrFaultEnd (r : Fin 3) : State → Out := liftDev fun d =>
  d.when (d.bit F.PWR_IVR_FAULT r) fun d =>
    let d := d.clrBit F.PWR_IVR_FAULT r
    d.when (d.rd F.PWR_IVR_FAULT == 0) fun d => d.condOff 51

end Sys2Proof.Machine
end

