-- ==== Sys2Proof/Machine/Thermal.lean ====
section
/-!
DEFINITION. Sys2Proof/Machine/Thermal.lean: the thermal sensors and their judgement (R291 to R294), shutdown and
cooling (R295, R296), throttling and alarms (R297, R298). Temperatures are in 1/16 degree C.
-/
namespace Sys2Proof.Machine

/-- The three neighbours of a sensor (R291). -/
def neighbours (n : Nat) : List Nat :=
  if n < 8 then [(n + 7) % 8, (n + 1) % 8, [19, 11, 12, 20, 8, 13, 14, 10].getD n 0]
  else
    ([[4, 9, 15], [8, 10, 16], [7, 9, 21], [1, 12, 15], [2, 11, 13], [5, 12, 14], [6, 13, 18], [8, 11, 16],
      [9, 15, 17], [16, 18, 22], [14, 17, 23], [0, 20, 22], [3, 19, 21], [10, 20, 23], [17, 19, 23],
      [18, 21, 22]] : List (List Nat)).getD (n - 8) []

/-- The greatest of a list of readings, if there is one. -/
def greatest : List Int → Option Int
  | [] => none
  | a :: t => some (t.foldl max a)

/-- Twice the median of two or three readings: the median of two is their mean (R293). -/
def median2 : List Int → Option Int
  | [a, b] => some (a + b)
  | [a, b, c] => some (2 * max (min a b) (min (max a b) c))
  | _ => none

/-- The reading of a sensor in a sample. -/
def readingOf (l : List Int) (n : Nat) : Int := l.getD n 0

/-- A sensor's state and DEVCNT after a sample, judged against the states `st` that the previous sample left (R293):
0 VALID, 1 SUSPECT, 2 FAILED. (DEDUCED, log 115.) -/
def judgeSensor (st cnt : Nat → Nat) (l : List Int) (n : Nat) : Nat × Nat :=
  let r := readingOf l n
  if st n = 2 then (2, cnt n)
  else if r < -800 ∨ 2800 < r then (2, cnt n)
  else
    match median2 (((neighbours n).filter fun k => st k != 2).map (readingOf l)) with
    | none => (st n, cnt n)
    | some m =>
      if 640 < (2 * r - m).natAbs then
        let c := cnt n + 1
        (if 16 ≤ c then 2 else 1, min c 16)
      else (0, 0)

/-- What the sensors give as the maximum: temperature, sensor and SUBST (R294). (DEDUCED, log 115.) -/
def thermMax (st : Nat → Nat) (l : List Int) : Int × Nat × Nat :=
  let valid := (List.range 24).filter fun n => st n == 0
  match greatest (valid.map (readingOf l)) with
  | none => (2800, 0, 1)
  | some top =>
    let subst (n : Nat) : Int :=
      (greatest (((neighbours n).filter fun k => st k == 0).map (readingOf l))).getD top + 128
    let part (n : Nat) : Int × Nat :=
      let r := readingOf l n
      if st n = 0 then (r, 0)
      else if st n = 1 then (if r < subst n then (subst n, 1) else (r, 0))
      else if 2800 < r then (2800, 1)
      else (subst n, 1)
    (List.range 24).foldl (fun b n => if b.1 < (part n).1 then ((part n).1, n, (part n).2) else b)
      ((part 0).1, 0, (part 0).2)

/-- THERM_JUDGE's work (R293, R294): the sample is judged 2 us after it was taken. -/
def judgeSample (d : Dev) : Dev :=
  let l := d.therm.sample
  let d := d.jumpTo (d.therm.sampleAt + 2000)
  let st (n : Nat) : Nat := d.rd (F.THERM_TS_STATE n)
  let new (n : Nat) : Nat × Nat := judgeSensor st (fun k => d.rd (F.THERM_TS_DEVCNT k)) l n
  let news := (List.range 24).map new
  let newSt (n : Nat) : Nat := (news.getD n (0, 0)).1
  let became (s : Nat) : Bool := (List.range 24).any fun n => newSt n == s && st n != s
  let d1 := (d.when (became 2) fun d => d.wr F.THERM_EVT_FAILED 1).when (became 1) fun d => d.wr F.THERM_EVT_SUSPECT 1
  let d2 := d1.each (List.range 24) fun n d =>
    ((d.wr (F.THERM_TS_STATE n) (newSt n)).wr (F.THERM_TS_DEVCNT n) (news.getD n (0, 0)).2).wrInt (F.THERM_TS_TEMP n)
      (readingOf l n)
  let d2 := d2.wr F.THERM_VALID_MASK ((List.range 24).foldl (fun a n => if newSt n = 2 then a else a + 2 ^ n) 0)
  let failed := (List.range 24).any fun n => newSt n == 2
  let d3 := if failed && !bitAt d2.fc.cond 48 then d2.condOn 48
    else if !failed && bitAt d2.fc.cond 48 then d2.condOff 48 else d2
  let m := thermMax newSt l
  let prev := d3.rdInt F.THERM_MAX_TEMP
  let d4 := ((d3.wrInt F.THERM_MAX_TEMP m.1).wr F.THERM_MAX_SENSOR m.2.1).wr F.THERM_MAX_SUBST m.2.2
  let hi := d4.rdInt F.THERM_ALARM_HI
  let lo := d4.rdInt F.THERM_ALARM_LO
  let d5 := d4.when (decide (hi ≤ m.1 ∧ prev < hi)) fun d =>
    { d.wr F.THERM_EVT_ALARM_HI 1 with therm := { d.therm with high := true } }
  let d5 := d5.when (d5.therm.high && decide (m.1 < lo)) fun d =>
    { d.wr F.THERM_EVT_ALARM_CLR 1 with therm := { d.therm with high := false } }
  let hot := decide (2560 ≤ m.1)
  let d6 := if hot && !bitAt d5.fc.cond 49 then
      let d := d5.condOn 49
      d.when (!d.on F.THERM_STAT_SHUTDOWN) fun d =>
        { d with therm := { d.therm with shutAt := d.now, shutPend := true } }
    else if !hot && bitAt d5.fc.cond 49 then d5.condOff 49 else d5
  let d7 := { d6 with therm := { d6.therm with sampled := false, judged := true } }
  d7.when (d7.pwr.cooling != 0 && decide (m.1 < 2400)) fun d =>
    applyWanted { d.wr F.THERM_STAT_COOLING 0 with pwr := { d.pwr with cooling := 0 } }

/-- Whether the sensors are sampled: SAFECLK runs and no hold of kind power-on, P, H or S is in progress. -/
def Dev.senses (d : Dev) : Bool := d.clk.pllS.released && !(decide (1 ≤ d.rst.hold) && decide (d.rst.hold ≤ 4))

/-- THERM_SAMPLE (R292): all 24 sensors, every 50 us. A sample that has not been judged is judged first. -/
def execThermSample (temps : List (BitVec 16)) : State → Out := liftDev fun d =>
  d.when d.senses fun d =>
    let d := d.when d.therm.sampled judgeSample
    let d := d.jumpTo (d.therm.sampleAt + 50000)
    { d with therm := { d.therm with sample := temps.map fun t => t.toInt, sampled := true, sampleAt := d.now } }

/-- THERM_JUDGE (R293, R294). -/
def execThermJudge : State → Out := liftDev fun d => d.when (d.therm.sampled && d.senses) judgeSample

/-- SHUTDOWN_HIBERNATE (R295): 20 us after the latch of source 49. -/
def execShutdownHibernate : State → Out := liftDev fun d =>
  if d.therm.shutPend then
    let d := (d.jumpTo (d.therm.shutAt + 20000)).wr F.THERM_STAT_SHUTDOWN 1
    let d := { d with therm := { d.therm with shutPend := false } }
    d.when (d.on F.PWR_STATE_BUSY || d.rd F.PWR_STATE_CUR != 3) (startDown 3 4)
  else d

/-! ## Throttling (R297) -/

/-- The effective throttle level L, as `THERM.THROTTLE.EFF` shows it. -/
def Dev.throttle (d : Dev) : Nat :=
  let l := d.rd F.THERM_THROTTLE_LEVEL
  if d.on F.THERM_THROTTLE_REQ_EN then max l (d.rd F.SYS_THROTTLE_REQ_LEVEL) else l

/-- A write to `THERM.THROTTLE` or `SYS.THROTTLE_REQ`: a read of `THERM.THROTTLE` shows the level in force. -/
def throttleWrite (r : Reg) : Effect := plainEffect r

/-- THROTTLE_WRITE (R297). -/
def execThrottleWrite (m : Nat) (v : Word) : State → Out := writeRow (throttleWrite .THERM_THROTTLE) m .THERM_THROTTLE v.toNat

/-- THROTTLE_REQ (R297). -/
def execThrottleReq (m : Nat) (v : Word) : State → Out :=
  writeRow (throttleWrite .SYS_THROTTLE_REQ) m .SYS_THROTTLE_REQ v.toNat

/-- A block reset of the THERM page (R299): every sensor is VALID and MAX reads 0, so that the conditions of sources
48 and 49 end. (DEDUCED, log 116.) -/
def thermReset (d : Dev) : Dev :=
  let d := d.when (bitAt d.fc.cond 48) fun d => d.condOff 48
  let d := d.when (bitAt d.fc.cond 49) fun d => d.condOff 49
  { d with therm := { d.therm with high := false } }

end Sys2Proof.Machine
end

