-- ==== Sys2Proof/Machine/Dma.lean ====
section
/-!
DEFINITION. Sys2Proof/Machine/Dma.lean: the commands and triggers of the DMA channels, the choice of the next burst
and the bandwidth windows (R310 to R319). What moves data is in DmaMove.lean.
-/
namespace Sys2Proof.Machine

/-- What a channel holds. -/
def Dev.chan (d : Dev) (h : Nat) : DmaChan := mget {} d.dma.ch h

/-- Replaces what a channel holds. -/
def Dev.setChan (d : Dev) (h : Nat) (c : DmaChan) : Dev := { d with dma := { d.dma with ch := mset d.dma.ch h c } }

/-- The page of a channel's registers (R321). -/
def chanPage (h : Nat) : Page := .DMA (1 + h / 8)

/-- `CHh_STAT.STATE`: 0 IDLE, 1 FETCH, 2 WAIT, 3 MOVE, 4 WRITEBACK. -/
def Dev.chState (d : Dev) (h : Nat) : Nat := d.rd (F.DMA_CH_STAT_STATE h)

/-- Bits of `CHh_EVT` are set in one cycle; source 74 + h pulses once where one that is enabled becomes 1 (R320). -/
def dmaEvents (h bits : Nat) (d : Dev) : Dev :=
  let old := d.word (.DMA_CH_EVT h)
  let rising := bits &&& (31 - (old &&& 31))
  (d.orWord (.DMA_CH_EVT h) bits).when ((rising &&& d.word (.DMA_CH_EVTEN h)) != 0) fun d => d.irPulse (74 + h)

/-- The chain halts. -/
def haltChan (h code : Nat) (d : Dev) : Dev :=
  let d := ((d.wr (F.DMA_CH_STAT_RUN h) 0).wr (F.DMA_CH_STAT_STATE h) 0).wr (F.DMA_CH_STAT_CODE h) code
  (d.wr (F.DMA_CH_CTRL_ABORT h) 0).setChan h
    { d.chan h with desc := none, bursts := [], toIssue := 0, abort := false, lateAbort := false }

/-- A descriptor starts to move its data (R315). -/
def beginMove (h : Nat) (d : Dev) : Dev :=
  let c := d.chan h
  match c.desc with
  | none => d
  | some x =>
    (d.wr (F.DMA_CH_STAT_STATE h) 3).setChan h { c with
      src := x.src, dst := x.dst, toIssue := x.count, bursts := [], inside := d.now }

/-- The descriptor in progress is over: its write-back is due. -/
def toWriteback (h : Nat) (d : Dev) : Dev := d.wr (F.DMA_CH_STAT_STATE h) 4

/-- A trigger of a channel (R316). -/
def dmaTrigger (h : Nat) (d : Dev) : Dev :=
  if ¬ d.domUp domMEM then d
  else if d.chState h = 2 then beginMove h d
  else if d.on (F.DMA_CH_STAT_TRGPEND h) then d.count (F.DMA_CH_CNT_TRGOVR h)
  else d.wr (F.DMA_CH_STAT_TRGPEND h) 1

/-- An abort (R319): of an idle channel, ignored; in WAIT, or with no burst in flight, the write-back is due at once. -/
def dmaAbort (h : Nat) (d : Dev) : Dev :=
  let c := d.chan h
  match d.chState h with
  | 0 => d
  | 2 => toWriteback h ((d.wr (F.DMA_CH_CTRL_ABORT h) 1).setChan h { c with abort := true })
  | 3 =>
    let d := (d.wr (F.DMA_CH_CTRL_ABORT h) 1).setChan h { c with abort := true }
    d.when c.bursts.isEmpty (toWriteback h)
  | 4 => (d.wr (F.DMA_CH_CTRL_ABORT h) 1).setChan h { c with lateAbort := true }
  | _ => (d.wr (F.DMA_CH_CTRL_ABORT h) 1).setChan h { c with abort := true }

/-- A chain starts at `CHh_DESC` (R315). -/
def dmaStart (h : Nat) (d : Dev) : Dev :=
  let c := d.chan h
  let d := ((d.wr (F.DMA_CH_STAT_RUN h) 1).wr (F.DMA_CH_STAT_STATE h) 1).wr (F.DMA_CH_STAT_HOPS h) 0
  d.setChan h { c with at_ := d.rd (F.DMA_CH_DESC_ADDR h), desc := none, bursts := [], toIssue := 0, crc := none,
                       err := 0, abort := false, lateAbort := false }

/-- A write to `CHh_CTRL` (R315, R316, R319): refused as a whole where it would start a running channel.
(DEDUCED, log 85.) -/
def dmaCtrlWrite (h : Nat) : Effect := fun _ v w d =>
  let run := d.on (F.DMA_CH_STAT_RUN h)
  if bitAt v 0 ∧ run then d.blkErr (chanPage h) 16
  else
    let d := d.setWord (.DMA_CH_CTRL h) w
    let d := d.when (bitAt v 1) (dmaAbort h)
    let d := d.when (bitAt v 0) (dmaStart h)
    d.when (bitAt v 2) (dmaTrigger h)

/-- DMA_START (R315). -/
def execDmaStart (m : Nat) (h : Fin 32) (v : Word) : State → Out := writeRow (dmaCtrlWrite h) m (.DMA_CH_CTRL h) v.toNat
/-- DMA_SWTRIG (R316). -/
def execDmaSwtrig (m : Nat) (h : Fin 32) (v : Word) : State → Out := writeRow (dmaCtrlWrite h) m (.DMA_CH_CTRL h) v.toNat
/-- DMA_ABORT (R319). -/
def execDmaAbort (m : Nat) (h : Fin 32) (v : Word) : State → Out := writeRow (dmaCtrlWrite h) m (.DMA_CH_CTRL h) v.toNat

/-- A block reset of a DMA page: its channels are aborted, and then the page is reset (R319). (DEDUCED, log 94.) -/
def dmaReset (p : Nat) (d : Dev) : Dev :=
  d.each ((List.range 8).map fun i => 8 * (p - 1) + i) fun h d =>
    d.setChan h { served := (d.chan h).served }

/-! ## The choice of a burst (R311, R313) -/

/-- Bytes in a window of `units` bandwidth units, in sixteenths of a byte: 62.5 bytes each us (R313). -/
def Dev.windowBytes16 (d : Dev) (units : Nat) : Nat := units * 1000 * max 1 (d.rd F.DMA_CFG_WIN)

/-- The cap of a channel in sixteenths of a byte, scaled by the throttle (R297). -/
def Dev.capBytes16 (d : Dev) (f : FRef) : Nat :=
  let u := d.rd f
  d.windowBytes16 (if u = 0 then 256 else u) * (8 - d.throttle) / 8

/-- The length of the next burst of a channel by the burst rule of R311, 0 for none. -/
def DmaChan.burstLen (c : DmaChan) : Nat :=
  match c.desc with
  | none => 0
  | some x =>
    let size := 32 * 2 ^ bitsOf x.dctrl 8 2
    let room (inc : Bool) (a : Nat) : Nat := if inc then size - a % size else size
    min (min c.toIssue size) (min (room (bitAt x.dctrl 0) c.src) (room (bitAt x.dctrl 1) c.dst))

/-- Whether PACE allows a burst: the flash FIFO holds its bytes, or has room for them, beside what bursts in flight
will take or bring (R311). (DEDUCED, log 87.) -/
def Dev.paceOk (d : Dev) (c : DmaChan) (n : Nat) : Bool :=
  match c.desc with
  | none => false
  | some x =>
    let a := Reg.XSPI_DATA.addr
    let unread := c.bursts.foldl (fun s b => s + (b.len - b.data.length)) 0
    let unwritten := c.bursts.foldl (fun s b => s + (b.len - b.written)) 0
    !bitAt x.dctrl 7 ||
    ((x.src != a || decide (unread + n ≤ d.xspi.fifo.length)) &&
     (x.dst != a || decide (d.xspi.fifo.length + unwritten + n ≤ xspiDepth)))

/-- Whether a channel has a burst to issue that R311 allows and has not moved its cap in the window (R313). -/
def Dev.chReady (d : Dev) (h : Nat) : Bool :=
  let c := d.chan h
  let n := c.burstLen
  d.chState h == 3 && !c.abort && c.err == 0 && decide (0 < n) && decide (c.bursts.length < 2) && d.paceOk c n &&
  decide (16 * c.moved < d.capBytes16 (F.DMA_CH_BW_CAP h))

/-- Whether a channel has moved less than its floor in the window. -/
def Dev.belowFloor (d : Dev) (h : Nat) : Bool :=
  decide (16 * (d.chan h).moved < d.windowBytes16 (d.rd (F.DMA_CH_BW_FLOOR h)))

/-- Whether a channel's EXCL keeps another from issuing: it is inside a descriptor, and the other is of equal or lower
priority; of two exclusive channels of equal priority the one that began first goes on (R313). (DEDUCED, log 86.) -/
def Dev.excludes (d : Dev) (a b : Nat) : Bool :=
  a != b && d.on (F.DMA_CH_CTRL_EXCL a) && decide (3 ≤ d.chState a) &&
  decide (d.rd (F.DMA_CH_CTRL_PRIO b) ≤ d.rd (F.DMA_CH_CTRL_PRIO a)) &&
  !(d.on (F.DMA_CH_CTRL_EXCL b) && decide (3 ≤ d.chState b) &&
    d.rd (F.DMA_CH_CTRL_PRIO b) == d.rd (F.DMA_CH_CTRL_PRIO a) &&
    (decide ((d.chan b).inside < (d.chan a).inside) || ((d.chan b).inside == (d.chan a).inside && decide (b < a))))

/-- The best of channels: the highest priority, and among equals the one served least recently (R313). -/
def Dev.bestChan (d : Dev) (l : List Nat) : Option Nat :=
  l.foldl (fun b h => match b with
    | none => some h
    | some k =>
      let ph := d.rd (F.DMA_CH_CTRL_PRIO h)
      let pk := d.rd (F.DMA_CH_CTRL_PRIO k)
      if pk < ph ∨ (pk = ph ∧ (d.chan h).served < (d.chan k).served) then some h else b) none

/-- Whether the DMA block is clocked. -/
def Dev.dmaClocked (d : Dev) : Bool := d.domUp domMEM && d.busRuns && !d.gateClosed 14

/-- The channels that may issue a burst now: ready, not excluded, within the aggregate cap, and in SHED only below
their floor (R313, R355). -/
def Dev.mayIssue (d : Dev) : List Nat :=
  let total := (List.range 32).foldl (fun s h => s + (d.chan h).moved) 0
  if decide (16 * total < d.capBytes16 F.DMA_CFG_AGG_CAP) then
    (List.range 32).filter fun h =>
      d.chReady h && !((List.range 32).any fun a => d.excludes a h) && (d.rd F.PWR_STATE_CUR != 1 || d.belowFloor h)
  else []

/-- The channel that the engine chooses (R313): one below its floor first. -/
def Dev.nextChan (d : Dev) : Option Nat :=
  let l := d.mayIssue
  match d.bestChan (l.filter d.belowFloor) with
  | some h => some h
  | none => d.bestChan l

/-- Bursts in flight. -/
def Dev.inFlight (d : Dev) : Nat := (List.range 32).foldl (fun s h => s + (d.chan h).bursts.length) 0

/-- A burst of a channel is issued. -/
def issueBurst (h : Nat) (d : Dev) : Dev :=
  let c := d.chan h
  match c.desc with
  | none => d
  | some x =>
    let n := c.burstLen
    d.setChan h { c with
      bursts := c.bursts ++ [{ src := c.src, dst := c.dst, len := n }],
      src := if bitAt x.dctrl 0 then c.src + n else c.src,
      dst := if bitAt x.dctrl 1 then c.dst + n else c.dst,
      toIssue := c.toIssue - n, moved := c.moved + n, served := d.dma.arbs }

/-- DMA_BURST (R313): the engine can issue a burst, with fewer than 8 in flight, and chooses. (DEDUCED, log 88.) -/
def execDmaBurst : State → Out := liftDev fun d =>
  if 8 ≤ d.inFlight ∨ ¬ d.dmaClocked then d
  else
    let pick := d.nextChan
    let d := { d with dma := { d.dma with arbs := d.dma.arbs + 1, inWin := d.dma.inWin + 1 } }
    let d := d.each ((List.range 32).filter fun h => !d.chReady h && (d.chan h).always) fun h d =>
      d.setChan h { d.chan h with always := false }
    match pick with
    | none => d
    | some h => issueBurst h d

/-- DMA_WINDOW_END (R314): every floor is judged, and the next window begins. (DEDUCED, log 88.) -/
def execDmaWindowEnd : State → Out := liftDev fun d =>
  d.when d.dmaClocked fun d =>
    let d := d.jumpTo (d.dma.winAt + 1000 * max 1 (d.rd F.DMA_CFG_WIN))
    let d := d.each (List.range 32) fun h d =>
      let c := d.chan h
      let miss := decide (0 < d.dma.inWin) && c.always && d.belowFloor h
      let d := d.wr (F.DMA_CH_STAT_FLOOR_MISS h) (b2n miss)
      let d := d.when miss fun d => (dmaEvents h 16 d).latch 54
      d.setChan h { c with moved := 0, always := true }
    { d with dma := { d.dma with inWin := 0, winAt := d.now } }

end Sys2Proof.Machine
end

