-- ==== Sys2Proof/Machine/Triggers.lean ====
section
/-!
DEFINITION. Sys2Proof/Machine/Triggers.lean: the delivery of trigger-compare firings to their targets (R172).
-/
namespace Sys2Proof.Machine

/-- Whether two ACTION codes reach a common target: a broadcast code names every target of its kind. -/
def actionReaches (a : Nat) : List Nat :=
  if a = 0x20 then (List.range 16).map fun i => 0x10 + i
  else if a = 0x30 then (List.range 8).map fun i => 0x28 + i
  else if a = 0 then []
  else [a]

/-- The ACTION codes of R172. -/
def actionCodes : List Nat :=
  0 :: List.range' 0x10 17 ++ List.range' 0x28 9 ++ List.range' 0x40 32 ++ List.range' 0x60 8

/-- A trigger delivered to one target, by its code: converters 0x10, engines 0x28, DMA channels 0x40, interrupt sources
109 to 116 0x60. -/
def deliverTrigger (a : Nat) (d : Dev) : Dev :=
  if 0x10 ≤ a ∧ a ≤ 0x1F then adcTrigger (a - 0x10) d
  else if 0x28 ≤ a ∧ a ≤ 0x2F then loopTrigger (a - 0x28) d
  else if 0x40 ≤ a ∧ a ≤ 0x5F then dmaTrigger (a - 0x40) d
  else if 0x60 ≤ a ∧ a ≤ 0x67 then d.irPulse (109 + (a - 0x60))
  else d

/-- TRIGGER_FIRE (R172): the earliest committed firings, all of one value. Several at one target in one tick are one
trigger. -/
def execTriggerFire : State → Out := liftDev fun d =>
  match d.edge.fires with
  | [] => d
  | f :: _ =>
    let now := d.edge.fires.filter fun x => x.at_ == f.at_
    let d := { d.jumpToTb f.at_ with edge := { d.edge with fires := d.edge.fires.filter fun x => x.at_ != f.at_ } }
    let targets := (now.flatMap fun x => actionReaches (d.code (F.EDGE_TRG_CMP_ACTION x.trg) actionCodes)).eraseDups
    d.each targets deliverTrigger

end Sys2Proof.Machine
end

