-- ==== Sys2Proof/Machine/Station.lean ====
section
/-!
DEFINITION. Sys2Proof/Machine/Station.lean: the receive side of the station ports (R322 to R336, R340, R341):
classification, host receive queues, duplicate discard, sampled values, GOOSE subscriptions and the checks of remote
register access. Port 0 is A and port 1 is B.
-/
namespace Sys2Proof.Machine

/-! ## Ports -/

/-- What a station port holds. -/
def Dev.sport (d : Dev) (x : Nat) : StationPort := mget {} d.station.ports x

/-- Replaces what a station port holds. -/
def Dev.setSport (d : Dev) (x : Nat) (p : StationPort) : Dev :=
  { d with station := { d.station with ports := mset d.station.ports x p } }

/-- The station state changed. -/
def Dev.setStation (d : Dev) (f : StationState → StationState) : Dev := { d with station := f d.station }

/-- The MAC of a port as a number (R344: LO holds address bytes 2 to 5, HI bytes 0 and 1). -/
def Dev.portMac (d : Dev) (x : Nat) : Nat :=
  d.rd (F.STATION_PORT_MAC_HI_MAC x) % 2 ^ 16 * 2 ^ 32 + d.rd (F.STATION_PORT_MAC_LO_MAC x)

/-- A MAC held in a LO and a HI word. -/
def macOf (lo hi : Nat) : Nat := hi % 2 ^ 16 * 2 ^ 32 + lo

/-- Whether the MAC of a port works: its page is enabled, its domain up and its clock running (R50, R76, R322). -/
def Dev.portOn (d : Dev) (x : Nat) : Bool :=
  d.enabled (.STATION x) && d.domUp domSTATION && !d.gateClosed (16 + x) && d.clk.pllM.released

/-- Whether the transmitter of a port works: its MAC does, and the lanes have their clock, O6 (R57, R322). -/
def Dev.portSends (d : Dev) (x : Nat) : Bool := d.portOn x && d.outRuns 6

/-- LINK of a port: RXLOCK, and ANEG_DONE where auto-negotiation runs. -/
def Dev.linkOf (d : Dev) (x : Nat) : Bool :=
  d.on (F.STATION_PORT_STAT_RXLOCK x) &&
  (!(d.on (F.STATION_PORT_CFG_MODE x) && d.on (F.STATION_PORT_CFG_ANEG x)) || d.on (F.STATION_PORT_STAT_ANEG_DONE x))

/-- LINK follows; LINK_CHANGE is set where it changes. -/
def showLink (x : Nat) (d : Dev) : Dev :=
  if d.on (F.STATION_PORT_STAT_LINK x) = d.linkOf x then d
  else (d.wr (F.STATION_PORT_STAT_LINK x) (b2n (d.linkOf x))).wr (F.STATION_PORT_EVT_LINK_CHANGE x) 1

/-- STATION_LINK_CHANGE (R322, R328, R344): the receiver's lock and the end of auto-negotiation. -/
def execStationLinkChange (port : Fin 2) (lock aneg : Bool) : State → Out := liftDev fun d =>
  d.when (d.domUp domSTATION) fun d =>
    let p := d.sport port
    let d := d.when (d.on (F.STATION_PORT_STAT_RXLOCK port) != lock) fun d => d.setSport port { p with lockAt := d.now }
    showLink port ((d.wr (F.STATION_PORT_STAT_RXLOCK port) (b2n lock)).wr (F.STATION_PORT_STAT_ANEG_DONE port) (b2n aneg))

/-- STATION_LINK_LOSS (R328): the receiver has been without lock for more than 1 ms: the first tick past it. -/
def execStationLinkLoss (port : Fin 2) : State → Out := liftDev fun d =>
  if d.portOn port ∧ ¬ d.on (F.STATION_PORT_STAT_RXLOCK port) then
    (d.jumpTo ((d.sport port).lockAt + 1000001)).latch (32 + port)
  else d

/-- A write to `PORTx_CFG` (R322): MODE does not change while the port is enabled. -/
def portCfgWrite (x : Nat) : Effect := fun _ _ w d =>
  if d.enabled (.STATION x) ∧ bitAt w 0 ≠ d.on (F.STATION_PORT_CFG_MODE x) then d.blkErr (.STATION x) 16
  else showLink x (d.setWord (.STATION_PORT_CFG x) w)

/-- A write to `RED_CFG` (R329): MODE changes only while both ports are disabled. -/
def redCfgWrite : Effect := fun _ _ w d =>
  if bitsOf w 0 2 ≠ d.rd F.STATION_RED_CFG_MODE ∧ (d.enabled (.STATION 0) ∨ d.enabled (.STATION 1)) then
    d.blkErr (.STATION 2) 16
  else d.setWord .STATION_RED_CFG w

/-- Sets bit `i` of an event register; `src` pulses where the bit becomes 1 while the same bit of the enable is 1. -/
def bitEvent (ev en : Reg) (i src : Nat) (d : Dev) : Dev :=
  (d.orWord ev (2 ^ i)).when (!bitAt (d.word ev) i && bitAt (d.word en) i) fun d => d.irPulse src

/-! ## The host receive queue (R325) -/

/-- Bytes of a host queue. -/
def hostQueue : Nat := 16384

/-- Bytes of the receive queue in use: each frame with its descriptor of 16 bytes. (DEDUCED, log 99.) -/
def StationPort.rxUsed (p : StationPort) : Nat := p.rx.foldl (fun s f => s + f.bytes.length + 16) p.cur.length

/-- A frame enters the host queue of its port, or is dropped where it does not fit. -/
def hostDeliver (x : Nat) (f : RxFrame) (d : Dev) : Dev :=
  let p := d.sport x
  if hostQueue < p.rxUsed + f.bytes.length + 16 then
    (d.count (F.STATION_PORT_CNT1_RXDROP x)).wr (F.STATION_PORT_EVT_RXOVF x) 1
  else
    let d := d.setSport x { p with rx := p.rx ++ [f] }
    (d.wr (F.STATION_PORT_FIFO_RXFRAMES x) (p.rx.length + 1)).wr (F.STATION_PORT_EVT_RX x) 1

/-- The four words of a descriptor (R325). -/
def RxFrame.word (f : RxFrame) (i : Nat) : Nat :=
  let sec := f.ts / secUnit
  match i with
  | 0 => 2 ^ 31 + f.cls % 8 * 2 ^ 28 + b2n f.red * 2 ^ 27 + b2n f.vlan * 2 ^ 26 + f.bytes.length % 2 ^ 12
  | 1 => f.ts / nsUnit % 1000000000
  | 2 => sec % 2 ^ 32
  | _ => bitsOf (f.ts % nsUnit) 13 16 * 2 ^ 16 + bitsOf sec 32 16

/-- A read of `PORTx_RXD0` pops the oldest descriptor into the reader's snapshot. (DEDUCED, log 99.) -/
def rxPop (m x : Nat) (d : Dev) : Nat × Dev :=
  let p := d.sport x
  match p.rx with
  | [] => (0, d.setSport x { p with snap := merase p.snap m, cur := [] })
  | f :: rest =>
    let d := d.setSport x { p with rx := rest, cur := f.bytes, snap := mset p.snap m f }
    (f.word 0, d.wr (F.STATION_PORT_FIFO_RXFRAMES x) rest.length)

/-- RXD1 to RXD3 of a reader's snapshot; 0 where none was popped. -/
def Dev.rxWord (d : Dev) (m x i : Nat) : Nat :=
  match (d.sport x).snap.find? fun e => e.1 == m with
  | some e => e.2.word i
  | none => 0

/-- A read of `PORTx_RXDATA`: the next 4 bytes of the popped frame, or UNDERRUN. (DEDUCED, log 99.) -/
def rxData (x : Nat) (d : Dev) : Nat × Dev :=
  let p := d.sport x
  if p.cur.isEmpty then (0, d.blkErr (.STATION x) 17)
  else (ofLeBytes (p.cur.take 4), d.setSport x { p with cur := p.cur.drop 4 })

/-- RX_DESC_POP (R325). -/
def execRxDescPop (m : Nat) (port : Fin 2) : State → Out := liftDev fun d =>
  d.busReadWith (fun m => rxPop m port) m (.STATION_PORT_RXD0 port)

/-- RX_DATA_READ (R325). -/
def execRxDataRead (m : Nat) (port : Fin 2) : State → Out := liftDev fun d =>
  d.busReadWith (fun _ => rxData port) m (.STATION_PORT_RXDATA port)

/-! ## Duplicate discard (R330) -/

/-- The redundancy in use (R329): 0 SAN, 1 PRP, 2 HSR. -/
def Dev.redMode (d : Dev) : Nat := d.code F.STATION_RED_CFG_MODE [0, 1, 2]

/-- The forget time in ns. -/
def Dev.forgetNs (d : Dev) : Nat := max 1 (d.rd F.STATION_RED_CFG_FORGET) * 1000000

/-- Entries that are not forgotten. -/
def Dev.alive (d : Dev) (l : List (Nat × Nat × Nat)) : List (Nat × Nat × Nat) :=
  l.filter fun e => decide (d.now < e.2.2 + d.forgetNs)

/-- Whether a pair is a duplicate of one in the table: in PRP of a copy from the other port, in HSR of any. -/
def Dev.isDup (d : Dev) (x key : Nat) : Bool :=
  (d.alive d.station.dups).any fun e => e.1 == key && (d.redMode == 2 || e.2.1 != x)

/-- A pair is entered; the oldest of 1,024 gives way. -/
def enterPair (x key : Nat) (d : Dev) : Dev :=
  let l := d.alive d.station.dups
  let full := decide (1024 ≤ l.length)
  let d := d.when full fun d => d.count F.STATION_RED_CNT1_OVERWRITE
  d.setStation fun s => { s with dups := (key, x, d.now) :: l.take 1023 }

/-! ## Ring forwarding, at the arrival (R331) -/

/-- Whether the device is a transparent clock: PTP functions are enabled, and TC_EN is 1 on both ports (R83, R97).
(DEDUCED, log 105.) -/
def Dev.tcOn (d : Dev) : Bool :=
  d.enabled (.TIME 1) && d.on (F.TIME_PORT_CFG_TC_EN 0) && d.on (F.TIME_PORT_CFG_TC_EN 1)

/-- Whether a tagged frame must not be forwarded as a peer-delay message (R97). -/
def Dev.neverForward (d : Dev) (l : List (BitVec 8)) : Bool :=
  d.tcOn &&
  (match ptpAt l with
    | some o => ptpType l o == 2 || ptpType l o == 3 || ptpType l o == 0xA
    | none => false)

/-- A tagged frame that arrives at port `x` is taken for forwarding to the other port, or dropped where the buffer of
8 KiB has no room. (DEDUCED, log 98.) -/
def takeForward (x key ts : Nat) (bad : Bool) (l : List (BitVec 8)) (d : Dev) : Dev :=
  let y := 1 - x
  let seen := d.alive d.station.fwds
  if destMac l = d.portMac 0 ∨ (seen.any fun e => e.1 == key && e.2.1 == x) ∨ d.neverForward l then d
  else
    let d := d.setStation fun s => { s with fwds := (key, x, d.now) :: seen.take 1023 }
    let p := d.sport y
    if 8192 < p.fwd.foldl (fun n f => n + f.bytes.length) l.length then d.count F.STATION_RED_CNT1_FWDDROP
    else d.setSport y { p with fwd := p.fwd ++ [⟨l, ts, bad⟩] }

/-! ## Sampled values, at the arrival (R332) -/

/-- An ASDU's elements as a job. -/
def svJob (sub idx ts : Nat) (sim whole : Bool) (first : List (BitVec 8)) (t : Tlv) : SvJob :=
  let els := (takeTlvs 16 t.body).getD []
  let ok := whole && t.tag == 0x30 && (takeTlvs 16 t.body).isSome && tagsRise 0x80 0x89 els && tlvLen els 0x80 0 65535 &&
    tlvLen els 0x82 2 2 && tlvLen els 0x83 4 4 && tlvLen els 0x85 1 1 && tlvLen els 0x87 0 65535
  let body (g : Nat) : List (BitVec 8) := match findTlv els g with
    | some e => e.body
    | none => []
  { sub, idx, ts, sim, ok, sameId := body 0x80 == first, smpCnt := tlvNat els 0x82, confRev := tlvNat els 0x83
    synch := tlvNat els 0x85, sample := body 0x87 }

/-- The simulation bit of a header, and the PDU that follows it. -/
def simBit (pay : List (BitVec 8)) : Bool := bitAt (beAt pay 4 2) 15

/-- A sampled-value frame: its ASDUs as elements, whether the sequence decodes and noASDU counts them, and the svID of
the first. (DEDUCED, log 96.) -/
def svFrame (pay : List (BitVec 8)) : Option (List Tlv × Bool × List (BitVec 8)) :=
  match takeTlv ((pay.take (beAt pay 2 2)).drop 8) with
  | none => none
  | some (pdu, _) =>
    if pdu.tag ≠ 0x60 then none
    else
      let els := (leadingTlvs 8 pdu.body).1
      match findTlv els 0xA2 with
      | none => none
      | some q =>
        let r := leadingTlvs 9 q.body
        let n := tlvNat els 0x80
        match r.1.head? with
        | none => none
        | some a =>
          match findTlv (leadingTlvs 16 a.body).1 0x80 with
          | none => none
          | some id => some (r.1, r.2 && tlvLen els 0x80 1 2 && decide (1 ≤ n ∧ n ≤ 8) && n == r.1.length, id.body)

/-- The lowest-numbered subscription that a frame matches (R332). (DEDUCED, log 96.) -/
def Dev.svMatch (d : Dev) (dst appid crc : Nat) : Option Nat :=
  (List.range 32).find? fun s =>
    d.on (F.STATION_SUB_CFG_EN s) && d.rd (F.STATION_SUB_CFG_APPID s) == appid &&
    macOf (d.rd (F.STATION_SUB_MAC_LO_MAC s)) (d.rd (F.STATION_SUB_MAC_HI_MAC s)) == dst &&
    d.rd (F.STATION_SUB_IDCRC_VAL s) == crc

/-- A sampled-value frame joins the jobs of the subscription it matches; none where it matches no subscription. -/
def svArrive (dst ts : Nat) (pay : List (BitVec 8)) (d : Dev) : Option Dev :=
  match svFrame pay with
  | none => none
  | some (asdus, whole, id) =>
    (d.svMatch dst (beAt pay 0 2) (crc32c id)).map fun s =>
      d.setStation fun st => { st with
        svJobs := st.svJobs ++ asdus.mapIdx fun i t => svJob s i ts (simBit pay) whole id t }

/-! ## GOOSE, at the arrival (R336) -/

/-- The bits of the members of allData: a boolean with a non-zero value gives 1. -/
def goosBits (l : List Tlv) : Nat :=
  (l.take 32).zipIdx.foldl (fun a e => if e.1.tag = 0x83 ∧ e.1.body.any (· != 0) then a + 2 ^ e.2 else a) 0

/-- The goosePdu of a payload: its leading elements, and whether the whole of it decodes. -/
def goosePdu (pay : List (BitVec 8)) : Option (List Tlv × Bool) :=
  match takeTlv ((pay.take (beAt pay 2 2)).drop 8) with
  | none => none
  | some (pdu, _) => if pdu.tag ≠ 0x61 then none else some (leadingTlvs 16 pdu.body)

/-- The subscription that a message matches: the lowest-numbered. (DEDUCED, log 96.) -/
def Dev.gooseMatch (d : Dev) (dst appid crc : Nat) : Option Nat :=
  (List.range 16).find? fun g =>
    d.on (F.STATION_GSUB_CFG_EN g) && d.rd (F.STATION_GSUB_CFG_APPID g) == appid &&
    macOf (d.rd (F.STATION_GSUB_MAC_LO_MAC g)) (d.rd (F.STATION_GSUB_MAC_HI_MAC g)) == dst &&
    d.rd (F.STATION_GSUB_REFCRC_VAL g) == crc

/-- A message joins the jobs of the subscription it matches, whose number is given. (DEDUCED, log 97.) -/
def gooseArrive (dst : Nat) (pay : List (BitVec 8)) (d : Dev) : Option (Nat × Dev) :=
  match goosePdu pay with
  | none => none
  | some (els, whole) =>
    match findTlv els 0x80 with
    | none => none
    | some ref =>
      (d.gooseMatch dst (beAt pay 0 2) (crc32c ref.body)).map fun g =>
        let all := match findTlv els 0xAB with
          | some t => takeTlvs 512 t.body
          | none => none
        let int (tag : Nat) : Bool := tlvLen els tag 1 5
        let job : GooseJob := {
          sub := g
          ok := whole && tagsRise 0x80 0xAB els && int 0x81 && int 0x85 && int 0x86 && int 0x88 && all.isSome
          sim := tlvTrue els 0x87
          nds := tlvTrue els 0x89
          confRev := tlvNat els 0x88, stNum := tlvNat els 0x85, tal := tlvNat els 0x81
          bits := goosBits (all.getD []), at_ := d.now }
        (g, d.setStation fun st => { st with gJobs := st.gJobs ++ [job] })

/-! ## Classification (R324) -/

/-- A frame that redundancy lets pass, without its tag or trailer. The manual states no CLASS for row 6; a frame that
COPY_HOST copies carries that of row 3. (DESIGN CHOICE and DEDUCED, log 99.) -/
def classify (x ts : Nat) (red : Bool) (l : List (BitVec 8)) (d : Dev) : Dev :=
  let dst := destMac l
  let et := etherType l
  let mine := dst == d.portMac x
  let rx (c : Nat) : RxFrame := { cls := c, red, vlan := hasVlan l, ts, bytes := l }
  let unmatched (c : Nat) (d : Dev) : Dev :=
    d.when (d.on (F.STATION_PORT_CFG_HOST_UNMATCHED x)) (hostDeliver x (rx c))
  if et = 0x8808 then d
  else if et = 0x88BA then (svArrive dst ts (payloadOf l) d).getD (unmatched 2 d)
  else if et = 0x88B8 then
    match gooseArrive dst (payloadOf l) d with
    | some r => r.2.when (d.on (F.STATION_GSUB_CFG_COPY_HOST r.1)) (hostDeliver x (rx 3))
    | none => unmatched 3 d
  else if et = d.rd F.STATION_RRA_CFG_ETYPE ∧ mine then
    d.when (d.on F.STATION_RRA_CFG_EN) fun d => d.setStation fun s => { s with
      rraIn := s.rraIn ++ [{ port := x, red, src := (l.drop 6).take 6, data := payloadOf l }] }
  else if et = 0x88F7 ∧ (dst = 0x011B19000000 ∨ dst = 0x0180C200000E ∨ mine) then hostDeliver x (rx 1) d
  else if et = 0x88FB then
    d.when (d.on F.STATION_RED_CFG_SUP_HOST) fun d => hostDeliver x (rx (d.free % 8)) d.taken
  else if mine ∨ dst = 0xFFFFFFFFFFFF ∨ (beAt l 0 1 % 2 = 1 ∧ d.on (F.STATION_PORT_CFG_MCAST_ALL x)) then
    hostDeliver x (rx 0) d
  else d

/-- The receive timestamp of an event `ago` ps back at the balls, at the reference plane (R94): RXLAT, in ps, is
subtracted. -/
def Dev.rxStamp (d : Dev) (x ago : Nat) : Nat :=
  (d.tbAgo ago + wrapUnits - d.rd (F.TIME_PORT_RXLAT_LAT x) * nsUnit / 1000) % wrapUnits

/-- The transmit timestamp, at the reference plane: TXLAT is added. -/
def Dev.txStamp (d : Dev) (x ago : Nat) : Nat :=
  (d.tbAgo ago + d.rd (F.TIME_PORT_TXLAT_LAT x) * nsUnit / 1000) % wrapUnits

/-- A tagged frame whose pair is not in the table: the pair is entered, a PRP trailer that names the other LAN is counted
and the frame classified without its tag or trailer (R330); what the frame changes is kept for port B. -/
def takeTagged (x key ts : Nat) (wrongLan : Bool) (inner : List (BitVec 8)) (d : Dev) : Dev :=
  let p := d.sport 1
  let e := classify x ts true inner ((enterPair x key d).when wrongLan fun d => d.count F.STATION_RED_CNT0_WRONGLAN)
  e.when (x == 1) fun e => e.setStation fun s => { s with twin := some {
    key, at_ := d.now
    rx := (e.sport 1).rx.length - p.rx.length, sv := s.svJobs.length - d.station.svJobs.length
    goose := s.gJobs.length - d.station.gJobs.length, rra := s.rraIn.length - d.station.rraIn.length
    drops := d.rd (F.STATION_PORT_CNT1_RXDROP 1), wrong := d.rd F.STATION_RED_CNT0_WRONGLAN
    evRx := d.rd (F.STATION_PORT_EVT_RX 1), evOvf := d.rd (F.STATION_PORT_EVT_RXOVF 1) } }

/-- Port B's copy of a pair that completed in this very cycle, if one did. -/
def Dev.twinOf (d : Dev) (x key : Nat) : Option TwinRx :=
  if x = 0 then d.station.twin.filter fun w => w.key == key && w.at_ == d.now else none

/-- Port B's copy is taken back, so that port A's of the same cycle is the one kept (R330). -/
def dropTwin (w : TwinRx) (d : Dev) : Dev :=
  let cut {α : Type} (n : Nat) (l : List α) : List α := l.take (l.length - n)
  let d := d.setStation fun s => { s with
    svJobs := cut w.sv s.svJobs, gJobs := cut w.goose s.gJobs, rraIn := cut w.rra s.rraIn
    dups := s.dups.filter fun e => e.1 != w.key, twin := none }
  let p := d.sport 1
  let d := d.setSport 1 { p with rx := cut w.rx p.rx }
  let d := (d.wr (F.STATION_PORT_FIFO_RXFRAMES 1) (d.sport 1).rx.length).wr F.STATION_RED_CNT0_WRONGLAN w.wrong
  ((d.wr (F.STATION_PORT_CNT1_RXDROP 1) w.drops).when (w.evRx == 0) fun d => d.wr (F.STATION_PORT_EVT_RX 1) 0).when
    (w.evOvf == 0) fun d => d.wr (F.STATION_PORT_EVT_RXOVF 1) 0

/-- A tagged frame at port `x` (R330): of a pair in the table it is discarded and counted; where port B's copy completed in
the same cycle, that one is the copy discarded. (The order of the two commands does not matter; log 162.) -/
def tagged (x key ts : Nat) (wrongLan : Bool) (inner : List (BitVec 8)) (d : Dev) : Dev :=
  match d.twinOf x key with
  | some w => takeTagged x key ts wrongLan inner ((dropTwin w d).count F.STATION_RED_CNT0_DUP)
  | none => if d.isDup x key then d.count F.STATION_RED_CNT0_DUP else takeTagged x key ts wrongLan inner d

/-- STATION_FRAME_RX (R323, R324, R329 to R331): a frame from its destination MAC to the last byte before its FCS, whether
that FCS was good, and how many ps ago its timestamp point was at the balls. -/
def execStationFrameRx (port : Fin 2) (bytes : List (BitVec 8)) (fcsOk : Bool) (ago : Nat) : State → Out := liftDev fun d =>
  if ¬ d.portOn port then d
  else
    let x : Nat := port
    let ts := d.rxStamp x ago
    let mode := d.redMode
    let lenOk := decide (60 ≤ bytes.length ∧ bytes.length ≤ 2044)
    let hsr := mode == 2 && hasHsr bytes
    let prp := mode == 1 && hasPrp bytes
    let key := srcMac bytes * 2 ^ 16 + (if hsr then hsrSeq bytes else prpSeq bytes)
    let circled := hsr && srcMac bytes == d.portMac 0
    let d := d.when (hsr && lenOk && !circled) (takeForward x key ts (!fcsOk) bytes)
    if !(lenOk && fcsOk) then d.count (F.STATION_PORT_CNT0_RXERR x)
    else
      let d := d.wr (F.STATION_PORT_CNT0_RXOK x) (d.rd (F.STATION_PORT_CNT0_RXOK x) + 1)
      if circled then d
      else if hsr then tagged x key ts false (dropHsr bytes) d
      else if prp then tagged x key ts (prpLan bytes != 0xA + x) (bytes.take (bytes.length - 6)) d
      else classify x ts false bytes d

/-! ## Sampled values (R333 to R335) -/

/-- The words of a subscription in the operand space. -/
def setSvWord (s w v : Nat) (d : Dev) : Dev := d.setStation fun st => { st with svWords := mset st.svWords (32 * s + w) v }

/-- LIVE of a subscription, where it stands: STAT, SV_LIVE and bit 0 of the flags word. (DEDUCED, log 95.) -/
def setSvLive (s : Nat) (live : Bool) (flags : Nat) (d : Dev) : Dev :=
  let d := (d.wr (F.STATION_SUB_STAT_LIVE s) (b2n live)).wr F.STATION_SV_LIVE_SUB
    (if live then setBitAt (d.rd F.STATION_SV_LIVE_SUB) s else clearBitAt (d.rd F.STATION_SV_LIVE_SUB) s)
  let f := flags / 2 * 2 + b2n live
  setSvWord s 29 (intOperand (f : Nat)) (d.setStation fun st => { st with svFlags := mset st.svFlags s f })

/-- SMPWRAP of a subscription: 0 acts as 65,536. -/
def Dev.smpWrap (d : Dev) (s : Nat) : Nat :=
  let w := d.rd (F.STATION_SUB_TIMING_SMPWRAP s)
  if w = 0 then 65536 else w

/-- NCH of a subscription: its channels, 1 to 14. -/
def Dev.svChans (d : Dev) (s : Nat) : Nat := d.code (F.STATION_SUB_CFG_NCH s) (List.range' 1 14)

/-- The distance of a job's smpCnt from the last accepted one (R335). -/
def Dev.svDist (d : Dev) (j : SvJob) : Nat :=
  let w := d.smpWrap j.sub
  (j.smpCnt + w - d.rd (F.STATION_SUB_STAT_SMPCNT j.sub) % w) % w

/-- Whether an ASDU is rejected (R333, R335). (DEDUCED, log 96.) -/
def Dev.svReject (d : Dev) (j : SvJob) : Bool :=
  let s := j.sub
  let x := d.svDist j
  !j.ok || !j.sameId || j.confRev != d.rd (F.STATION_SUB_CONFREV_VAL s) || (j.sim && !d.on (F.STATION_SUB_CFG_SIM_EN s)) ||
  decide (j.sample.length < 8 * d.svChans s) || j.sample.length % 8 != 0 ||
  decide (d.smpWrap s ≤ j.smpCnt) ||
  (bitAt d.station.svSeen s && (x == 0 || decide (d.smpWrap s ≤ 2 * x)))

/-- Value and quality of a channel of an ASDU. -/
def SvJob.value (j : SvJob) (i : Nat) : Nat := beAt j.sample (8 * i) 4
/-- Quality of a channel. -/
def SvJob.quality (j : SvJob) (i : Nat) : Nat := beAt j.sample (8 * i + 4) 4

/-- An accepted ASDU is written to the operand space and the ring (R334). -/
def svDeliver (j : SvJob) (d : Dev) : Dev :=
  let s := j.sub
  let nch := d.svChans s
  let ncur := d.rd (F.STATION_SUB_CFG_NCUR s)
  let d := d.each (List.range 14) fun w d =>
    if nch ≤ w then setSvWord s (14 + w) 0 (setSvWord s w 0 d)
    else
      let scale := d.rd (if w < ncur then F.STATION_SUB_CSCALE_VAL s else F.STATION_SUB_VSCALE_VAL s)
      let x := narrow (Num.mul (Num.ofInt (signedOf 32 (j.value w))) (Num.of32 scale)) d
      setSvWord s (14 + w) (intOperand (j.quality w % 2 ^ 14 : Nat)) (setSvWord s w x.1 x.2)
  let qbad := (List.range nch).any fun w => j.quality w % 4 != 0
  let flags := 1 + 2 * b2n qbad + 4 * b2n j.sim + 8 * (j.synch % 4)
  let d := setSvLive s true flags (setSvWord s 28 (intOperand (j.smpCnt : Nat)) d)
  let e := d.rd (F.STATION_SUB_STAT_WIDX s)
  let put (w v : Nat) (d : Dev) : Dev := d.setWord (.STATION_SUB_RING s (32 * e + w)) v
  let d := put 0 (2 ^ 31 + j.idx % 16 * 2 ^ 24 + j.synch % 4 * 2 ^ 19 + b2n j.sim * 2 ^ 18 + b2n qbad * 2 ^ 17 +
    j.smpCnt % 2 ^ 16) d
  let d := put 3 0 (put 2 (j.ts / secUnit % 2 ^ 32) (put 1 (j.ts / nsUnit % 1000000000) d))
  let d := d.each (List.range 14) fun w d => put (18 + w) (j.quality w) (put (4 + w) (j.value w) d)
  let d := (d.wr (F.STATION_SUB_STAT_WIDX s) (e + 1)).wr (F.STATION_SUB_STAT_SMPCNT s) j.smpCnt
  d.setStation fun st => { st with
    svAt := mset st.svAt s (j.ts / nsUnit), svSeen := setBitAt st.svSeen s, svFrom := mset st.svFrom s d.now }

/-- SV_ASDU (R333 to R335): the oldest ASDU that waits. -/
def execSvAsdu : State → Out := liftDev fun d =>
  match d.station.svJobs with
  | [] => d
  | j :: rest =>
    let d := d.setStation fun st => { st with svJobs := rest }
    if d.svReject j then d.count (F.STATION_SUB_STAT_REJECT j.sub)
    else
      let x := if bitAt d.station.svSeen j.sub then d.svDist j else 1
      let d := d.wr (F.STATION_SUB_LOST_LOST j.sub) (d.rd (F.STATION_SUB_LOST_LOST j.sub) + (x - 1))
      bitEvent .STATION_SV_EVT .STATION_SV_EVTEN j.sub 120 (svDeliver j d)

/-- The Scoreboard source that a subscription's SRCSEL names latches, while ENABLE of its port page is 1 (R328). -/
def latchPort (sel : Bool) (d : Dev) : Dev := d.when (d.enabled (.STATION (b2n sel))) fun d => d.latch (32 + b2n sel)

/-- SV_TIMEOUT (R335): no ASDU has been accepted for TIMEOUT us since the last, or since the enabling; one accepted in
the cycle in which they are over prevents it, so that it comes with the next tick. (DEDUCED, log 95.) -/
def execSvTimeout (sub : Fin 32) : State → Out := liftDev fun d =>
  if d.on (F.STATION_SUB_CFG_EN sub) ∧ mhas d.station.svFrom sub then
    let d := d.jumpTo (mget 0 d.station.svFrom sub + 1000 * max 1 (d.rd (F.STATION_SUB_TIMING_TIMEOUT sub)) + 1)
    let d := setSvLive sub false (mget 0 d.station.svFlags sub) d
    let d := d.setStation fun st => { st with svFrom := merase st.svFrom sub, svSeen := clearBitAt st.svSeen sub }
    latchPort (d.on (F.STATION_SUB_CFG_SRCSEL sub)) (bitEvent .STATION_SV_TEVT .STATION_SV_TEVTEN sub 120 d)
  else d

/-- A write to `SUBs_CFG`: supervision starts with EN and ends with it; the next ASDU is a first one (R335).
(DEDUCED, log 95.) -/
def subCfgWrite (s : Nat) : Effect := fun _ _ w d =>
  let was := d.on (F.STATION_SUB_CFG_EN s)
  let d := d.setWord (.STATION_SUB_CFG s) w
  let now := d.on (F.STATION_SUB_CFG_EN s)
  if was = now then d
  else d.setStation fun st => { st with
    svSeen := clearBitAt st.svSeen s
    svFrom := if now then mset st.svFrom s d.now else merase st.svFrom s }

/-! ## GOOSE subscriptions (R336) -/

/-- GOOSE_MESSAGE (R336): the oldest message that waits. (DEDUCED, log 97.) -/
def execGooseMessage : State → Out := liftDev fun d =>
  match d.station.gJobs with
  | [] => d
  | j :: rest =>
    let g := j.sub
    let d := d.setStation fun st => { st with gJobs := rest }
    if !j.ok ∨ j.confRev ≠ d.rd (F.STATION_GSUB_CONFREV_VAL g) ∨ (j.sim ∧ ¬ d.on (F.STATION_GSUB_CFG_SIM_EN g)) then
      d.count (F.STATION_GSUB_STAT_REJECT g)
    else
      let d := ((d.wr (F.STATION_GSUB_STAT_LIVE g) 1).wr (F.STATION_GSUB_STAT_SIM g) (b2n j.sim)).wr
        (F.STATION_GSUB_STAT_NDS g) (b2n j.nds)
      let d := d.setStation fun st => { st with gDead := mset st.gDead g (j.at_ + 1000000 * j.tal) }
      if j.nds then d
      else
        let changed := !mhas d.station.gStNum g || mget 0 d.station.gStNum g != j.stNum
        let d := (d.wr (F.STATION_GSUB_BITS_BITS g) j.bits).wr (F.STATION_GSUB_STAT_STNUM g) j.stNum
        let d := d.setStation fun st => { st with gStNum := mset st.gStNum g j.stNum }
        d.when changed (bitEvent .STATION_GOOSE_EVT .STATION_GOOSE_EVTEN g 121)

/-- GOOSE_TIMEOUT (R336): no message has been accepted by the deadline: the first tick past it. (DEDUCED, log 97.) -/
def execGooseTimeout (sub : Fin 16) : State → Out := liftDev fun d =>
  if d.on (F.STATION_GSUB_CFG_EN sub) ∧ mhas d.station.gDead sub then
    let d := d.jumpTo (mget 0 d.station.gDead sub + 1)
    let d := (d.wr (F.STATION_GSUB_STAT_LIVE sub) 0).wr (F.STATION_GSUB_BITS_BITS sub) (d.rd (F.STATION_GSUB_DEFAULT_VAL sub))
    let d := d.setStation fun st => { st with gDead := merase st.gDead sub }
    latchPort (d.on (F.STATION_GSUB_CFG_SRCSEL sub)) (bitEvent .STATION_GOOSE_EVT .STATION_GOOSE_EVTEN (16 + sub) 121 d)
  else d

/-- A write to `GSUBg_CFG`: with EN cleared, supervision ends and the last stNum is forgotten. -/
def gsubCfgWrite (g : Nat) : Effect := fun _ _ w d =>
  let d := d.setWord (.STATION_GSUB_CFG g) w
  d.when (!d.on (F.STATION_GSUB_CFG_EN g)) fun d => d.setStation fun st => { st with
    gDead := merase st.gDead g, gStNum := merase st.gStNum g }

/-! ## Remote register access: checks and sessions (R340, R341) -/

/-- An event of remote register access pulses source 122 (R342). -/
def rraEvent (i : Nat) : Dev → Dev := bitEvent .STATION_RRA_EVT .STATION_RRA_EVTEN i 122

/-- The key of a session, KEY0 first. (DEDUCED, log 106.) -/
def Dev.sesKey (d : Dev) (j : Nat) : BitVec 256 :=
  BitVec.ofNat 256 ((List.range 8).foldl (fun a i => a * 2 ^ 32 + d.word (.STATION_SES_KEY j i)) 0)

/-- The initialisation vector: SALT with its most significant bit replaced, then SEQ (R340). -/
def Dev.sesIv (d : Dev) (j : Nat) (response : Bool) (seq : Nat) : BitVec 96 :=
  BitVec.ofNat 96 ((d.rd (F.STATION_SES_SALT_VAL j) % 2 ^ 31 + b2n response * 2 ^ 31) * 2 ^ 64 + seq)

/-- The session that a request names (R341, check 1). -/
def Dev.sesOf (d : Dev) (sid src : Nat) : Option Nat :=
  (List.range 8).find? fun j =>
    d.on (F.STATION_SES_CTRL_EN j) && d.rd (F.STATION_SES_CTRL_SID j) == sid &&
    macOf (d.rd (F.STATION_SES_PEER_LO_VAL j)) (d.rd (F.STATION_SES_PEER_HI_VAL j)) == src

/-- A request fails its TAG: at 16 strikes in a row the session is closed. -/
def rraStrike (j : Nat) (d : Dev) : Dev :=
  let n := d.rd (F.STATION_SES_STAT_STRIKES j) + 1
  let d := (d.count (F.STATION_SES_STAT_BADTAG j)).wr (F.STATION_SES_STAT_STRIKES j) n
  d.when (decide (16 ≤ n)) fun d => (rraEvent 2 (d.wr (F.STATION_SES_CTRL_EN j) 0)).latch 59

/-- The items of a request: ADDR, DATA and KIND. -/
def rraItems (data : List (BitVec 8)) (n : Nat) : List (Nat × Nat × Nat) :=
  (List.range n).map fun i => (beAt data (16 + 12 * i) 4, beAt data (20 + 12 * i) 4, beAt data (24 + 12 * i) 1)

/-- RRA_REQUEST (R341): the oldest frame that waits is checked. (DEDUCED, log 106.) -/
def execRraRequest : State → Out := liftDev fun d =>
  match d.station.rraIn with
  | [] => d
  | f :: rest =>
    let d := d.setStation fun st => { st with rraIn := rest }
    let x := f.data
    if beAt x 0 1 ≠ 1 ∨ beAt x 1 1 ≠ 1 then rraEvent 1 d
    else
      match d.sesOf (beAt x 2 2) (ofBeBytes f.src) with
      | none => rraEvent 1 (d.count F.STATION_RRA_CNT_NOSES)
      | some j =>
        let seq := beAt x 4 8
        let n := beAt x 12 2
        let body := 16 + 12 * n
        if seq ≤ d.rd64 (F.STATION_SES_SEQ_LO_SEQ j) (F.STATION_SES_SEQ_HI_SEQ j) ∨ n = 0 ∨ 32 < n ∨ x.length < body + 16 then
          rraEvent 1 (d.count (F.STATION_SES_STAT_REPLAY j))
        else if Config.gmac (d.sesKey j) (d.sesIv j false seq) (x.take body) ≠ BitVec.ofNat 128 (beAt x body 16) then
          rraEvent 1 (rraStrike j d)
        else
          let d := (d.wr (F.STATION_SES_STAT_STRIKES j) 0).wr64 (F.STATION_SES_SEQ_LO_SEQ j) (F.STATION_SES_SEQ_HI_SEQ j) seq
          if 4 ≤ d.station.rraQ.length then rraEvent 1 (d.count F.STATION_RRA_CNT_BUSY)
          else
            let q : RraReq := { port := f.port, red := f.red, src := f.src, ses := j, sid := beAt x 2 2, seq
                                todo := rraItems x n }
            d.setStation fun st => { st with rraQ := st.rraQ ++ [q] }

/-- A write to `SESj_CTRL` (R341): setting EN opens the session; SID does not change while EN is 1.
(DEDUCED, log 107.) -/
def sesCtrlWrite (j : Nat) : Effect := fun _ _ w d =>
  let was := d.on (F.STATION_SES_CTRL_EN j)
  let sid := d.rd (F.STATION_SES_CTRL_SID j)
  let busy := was && bitsOf w 16 16 != sid
  let d := d.when busy fun d => d.blkErr (.STATION 15) 16
  let d := d.setWord (.STATION_SES_CTRL j) (if busy then putBits w 16 16 sid else w)
  d.when (!was && bitAt w 0) fun d =>
    (d.wr64 (F.STATION_SES_SEQ_LO_SEQ j) (F.STATION_SES_SEQ_HI_SEQ j) 0).wr (F.STATION_SES_STAT_STRIKES j) 0

/-- A write to a register of a session that is frozen while EN is 1 (R341). -/
def sesWrite (j : Nat) (r : Reg) : Effect := fun _ _ w d =>
  if d.on (F.STATION_SES_CTRL_EN j) then d.blkErr (.STATION 15) 16 else d.setWord r w

/-- A write to a key word of a session. -/
def sesKeyWrite (j i : Nat) : Effect := fun _ v _ d =>
  if d.on (F.STATION_SES_CTRL_EN j) then d.blkErr (.STATION 15) 16 else d.setWord (.STATION_SES_KEY j i) v

/-- RRA_SESSION_ENABLE (R341). -/
def execRraSessionEnable (m : Nat) (j : Fin 8) (v : Word) : State → Out :=
  writeRow (sesCtrlWrite j) m (.STATION_SES_CTRL j) v.toNat

end Sys2Proof.Machine
end

