-- ==== Sys2Proof/Machine/StationTx.lean ====
section
/-!
DEFINITION. Sys2Proof/Machine/StationTx.lean: the transmit side of the station ports (R326, R327, R329, R331), GOOSE
publications (R337 to R339), the responses of remote register access (R342), and block resets of STATION pages.
-/
namespace Sys2Proof.Machine

/-! ## Redundancy (R329) -/

/-- Whether frames go through redundancy. -/
def Dev.redundant (d : Dev) : Bool := d.redMode != 0

/-- The next value of `RED_SEQ` is taken. -/
def takeSeq (d : Dev) : Nat × Dev :=
  let s := d.rd F.STATION_RED_SEQ_SEQ
  (s, d.wr F.STATION_RED_SEQ_SEQ (s + 1))

/-- A frame as port `x` sends it under a sequence number: with a PRP trailer, or an HSR tag, whose path the manual does
not state. (DESIGN CHOICE, log 103.) -/
def addRed (x : Nat) (seq : Option Nat) (l : List (BitVec 8)) (d : Dev) : List (BitVec 8) × Dev :=
  match seq with
  | none => (l, d)
  | some s =>
    match d.redMode with
    | 1 => (addPrp x s l, d)
    | 2 => (addHsr (d.free % 16) s l, d.taken)
    | _ => (l, d)

/-- A frame leaves a port: padded to 64 bytes with its FCS, counted, and kept as the last one sent. -/
def sendBytes (x : Nat) (bad : Bool) (l : List (BitVec 8)) (d : Dev) : Dev :=
  let d := d.wr (F.STATION_PORT_CNT1_TXOK x) (d.rd (F.STATION_PORT_CNT1_TXOK x) + 1)
  d.setSport x { d.sport x with last := padTo 60 l, lastBad := bad }

/-! ## GOOSE publications (R337 to R339) -/

/-- The template bytes of a publication. -/
def Dev.template (d : Dev) (u n : Nat) : List (BitVec 8) :=
  ((List.range 96).flatMap fun w => leBytes 4 (d.word (.STATION_PUB_TPL u w))).take n

/-- The goosePdu of a template, and its elements; none where it does not reach exactly to the end. -/
def tplPdu (l : List (BitVec 8)) : Option (Tlv × List Tlv) :=
  match takeTlv ((payloadOf l).drop 8) with
  | some (pdu, []) => (takeTlvs 16 pdu.body).map fun els => (pdu, els)
  | _ => none

/-- Whether a template meets the rules of R337. -/
def tplOk (l : List (BitVec 8)) (n nb : Nat) : Bool :=
  decide (60 ≤ n ∧ n ≤ 384) && etherType l == 0x88B8 &&
  (match tplPdu l with
    | none => false
    | some (pdu, els) =>
      pdu.tag == 0x61 && tlvLen els 0x81 4 4 && tlvLen els 0x85 4 4 && tlvLen els 0x86 4 4 && tlvLen els 0x84 8 8 &&
      (match findTlv els 0xAB with
        | none => nb == 0
        | some a =>
          let ms := (leadingTlvs 128 a.body).1
          decide (nb ≤ ms.length) && (ms.take nb).all fun t => t.tag == 0x83 && t.body.length == 1 && t.head == 2))

/-- A BER length in at least the form whose tag and length took `head` bytes. -/
def berLen (head n : Nat) : List (BitVec 8) :=
  if head ≤ 2 ∧ n < 128 then beBytes 1 n
  else if head ≤ 3 ∧ n < 256 then 0x81 :: beBytes 1 n
  else 0x82 :: beBytes 2 n

/-- The elements of a goosePdu with the engine's fields filled in; `raw` are their bytes in the template.
(DEDUCED, log 101.) -/
def fillEls (nb data tal stNum sqNum : Nat) (t : List (BitVec 8)) : List Tlv → List (BitVec 8) → List (BitVec 8)
  | [], _ => []
  | e :: es, raw =>
    let n := e.head + e.body.length
    let int (v : Nat) : List (BitVec 8) := BitVec.ofNat 8 e.tag :: BitVec.ofNat 8 (berInt v).length :: berInt v
    let new : List (BitVec 8) :=
      if e.tag = 0x81 then int tal
      else if e.tag = 0x85 then int stNum
      else if e.tag = 0x86 then int sqNum
      else if e.tag = 0x84 then patch (raw.take n) e.head t
      else if e.tag = 0xAB then
        (List.range nb).foldl (fun l i => patch l (e.head + 3 * i + 2) [BitVec.ofNat 8 (b2n (bitAt data i))]) (raw.take n)
      else raw.take n
    new ++ fillEls nb data tal stNum sqNum t es (raw.drop n)

/-- The t field: the instant of the last state change less UTCOFS, and the quality byte, with bit 5 forced in
holdover (R337); `TIME.STAT.HOLDOVER` is PLL-M's Freewheel. -/
def Dev.gooseTime (d : Dev) (t : Nat) : List (BitVec 8) :=
  let sec := t / secUnit
  let ns := t / nsUnit % 1000000000
  let q := d.rd F.STATION_GOOSE_TQ_QUAL
  let q := if d.on F.CLK_PLLM_STAT_FREEWHEEL then q ||| 0x20 else q
  beBytes 4 (unsignedOf 32 ((sec : Int) - d.rd F.STATION_GOOSE_TQ_UTCOFS)) ++ beBytes 3 (ns * 2 ^ 24 / 1000000000) ++
    beBytes 1 q

/-- TALMUL: 0 acts as 2. -/
def Dev.talMul (d : Dev) (u : Nat) : Nat :=
  let m := d.rd (F.STATION_PUB_CTRL_TALMUL u)
  if m = 0 then 2 else m

/-- The frame of a publication as it is now (R337, R338). -/
def Dev.pubFrame (d : Dev) (u : Nat) (p : Pub) : List (BitVec 8) :=
  let l := d.template u p.tlen
  match tplPdu l with
  | none => l
  | some (pdu, els) =>
    let tal := (d.talMul u * p.interval + 999) / 1000
    let body := fillEls p.nb (d.rd (F.STATION_PUB_DATA_DATA u)) tal p.stNum p.sqNum (d.gooseTime p.t) els pdu.body
    let pduBytes := BitVec.ofNat 8 0x61 :: berLen pdu.head body.length ++ body
    let o := typeAt l + 2
    patch (l.take (o + 8)) (o + 2) (beBytes 2 (8 + pduBytes.length)) ++ pduBytes

/-- TMAX in us, 1 to 60,000 ms. -/
def Dev.pubMax (d : Dev) (u : Nat) : Nat := d.inRange (F.STATION_PUB_TIMING_TMAX u) 1 60000 * 1000

/-- TMIN in us: values below 100 act as 100, and TMAX caps it (R338). -/
def Dev.pubMin (d : Dev) (u : Nat) : Nat := min (max 100 (d.rd (F.STATION_PUB_TIMING_TMIN u))) (d.pubMax u)

/-- The ports that send a publication: both through redundancy, otherwise those marked. -/
def Dev.pubPorts (d : Dev) (u : Nat) : Nat :=
  if d.redundant then 3 else d.rd (F.STATION_PUB_CTRL_PORTA u) + 2 * d.rd (F.STATION_PUB_CTRL_PORTB u)

/-- Replaces what a publication holds. -/
def Dev.setPub (d : Dev) (u : Nat) (p : Pub) : Dev := d.setStation fun s => { s with pubs := mset s.pubs u p }

/-- The enabled publication of a number, if it is enabled. -/
def Dev.pub (d : Dev) (u : Nat) : Option Pub := (d.station.pubs.find? fun e => e.1 == u).map Prod.snd

/-- A state change (R338, R339): one that lands before the last change's frame has begun to leave merges into it. -/
def pubChange (u : Nat) (d : Dev) : Dev :=
  match d.pub u with
  | none => d
  | some p =>
    let st := if p.fresh then p.stNum else if p.stNum = 4294967295 then 1 else p.stNum + 1
    d.setPub u { p with stNum := st, sqNum := 0, t := d.tbVal, interval := d.pubMin u, from_ := d.now, due := d.pubPorts u
                        seq := none, fresh := true }

/-- A write to `PUBu_CTRL` (R337, R339): setting EN parses the template. -/
def pubCtrlWrite (u : Nat) : Effect := fun _ _ w d =>
  let was := d.on (F.STATION_PUB_CTRL_EN u)
  let n := bitsOf w 23 9
  let nb := bitsOf w 8 6
  if !was && bitAt w 0 then
    if tplOk (d.template u n) n nb && decide (nb ≤ 32) then
      let d := d.setWord (.STATION_PUB_CTRL u) w
      d.setPub u { tlen := n, nb, t := d.tbVal, interval := d.pubMin u, from_ := d.now, due := d.pubPorts u }
    else d.blkErr (.STATION (13 + u / 8)) 16
  else
    (d.setWord (.STATION_PUB_CTRL u) w).when (!bitAt w 0) fun d => d.setStation fun s => { s with pubs := merase s.pubs u }

/-- A write to `PUBu_DATA`: a value that differs is a state change (R338). -/
def pubDataWrite (u : Nat) : Effect := fun _ _ w d =>
  let old := d.word (.STATION_PUB_DATA u)
  (d.setWord (.STATION_PUB_DATA u) w).when (w != old) (pubChange u)

/-- A write to the template of a publication: ignored while it is enabled (R337). -/
def pubTplWrite (u i : Nat) : Effect := fun _ _ w d =>
  if d.on (F.STATION_PUB_CTRL_EN u) then d.blkErr (.STATION (13 + u / 8)) 17 else d.setWord (.STATION_PUB_TPL u i) w

/-- GOOSE_PUB_ENABLE (R337). -/
def execGoosePubEnable (m : Nat) (u : Fin 16) (v : Word) : State → Out :=
  writeRow (pubCtrlWrite u) m (.STATION_PUB_CTRL u) v.toNat
/-- GOOSE_PUB_DISABLE (R339). -/
def execGoosePubDisable (m : Nat) (u : Fin 16) (v : Word) : State → Out :=
  writeRow (pubCtrlWrite u) m (.STATION_PUB_CTRL u) v.toNat
/-- GOOSE_STATE_CHANGE (R338). -/
def execGooseStateChange (m : Nat) (u : Fin 16) (v : Word) : State → Out :=
  writeRow (pubDataWrite u) m (.STATION_PUB_DATA u) v.toNat

/-- GOOSE_RETRANSMIT (R338): the interval to the next scheduled frame has passed. -/
def execGooseRetransmit (u : Fin 16) : State → Out := liftDev fun d =>
  match d.pub u with
  | none => d
  | some p =>
    let d := d.jumpTo (p.from_ + 1000 * p.interval)
    d.setPub u { p with sqNum := if p.sqNum = 4294967295 then 1 else p.sqNum + 1, interval := min (2 * p.interval) (d.pubMax u)
                        from_ := d.now, due := d.pubPorts u, seq := none }

/-- A publication's frame begins to leave port `x`. -/
def sendPub (x u : Nat) (p : Pub) (d : Dev) : Dev :=
  let r := if ¬ d.redundant then (none, d)
    else match p.seq with
      | some s => (some s, d)
      | none =>
        let q := takeSeq d
        (some q.1, q.2)
  let f := addRed x r.1 (d.pubFrame u p) r.2
  let d := (f.2.wr (F.STATION_PUB_STNUM_STNUM u) p.stNum).wr (F.STATION_PUB_SQNUM_SQNUM u) p.sqNum
  sendBytes x false f.1 (d.setPub u { p with due := clearBitAt p.due x, seq := r.1, fresh := false })

/-! ## The host transmit queue (R326) -/

/-- Bytes of a frame in the transmit queue. -/
def TxFrame.size (f : TxFrame) : Nat := (f.bytes.length + 3) / 4 * 4

/-- Bytes of the transmit queue in use: the port's own frames and the one being pushed. -/
def StationPort.txUsed (p : StationPort) : Nat :=
  p.tx.foldl (fun s f => if f.own then s + f.size else s) (match p.open_ with | some f => f.size | none => 0)

/-- TXFREE follows the queue. -/
def showTx (x : Nat) (d : Dev) : Dev := d.wr (F.STATION_PORT_FIFO_TXFREE x) (hostQueue - (d.sport x).txUsed)

/-- A frame is rejected. -/
def txError (x : Nat) (d : Dev) : Dev := (d.wr (F.STATION_PORT_EVT_TXERR x) 1).blkErr (.STATION x) 18

/-- A write to `PORTx_TXD0`: a frame begins, and an incomplete one is discarded. (DEDUCED, log 100.) -/
def txd0Write (x : Nat) : Effect := fun _ _ w d =>
  let p := d.sport x
  let d := d.when p.open_.isSome (txError x)
  showTx x ((d.setWord (.STATION_PORT_TXD0 x) w).setSport x { p with open_ := some { d0 := w } })

/-- A frame is complete: it enters the queue of its port, and with RED in a redundancy mode that of the other too.
(DEDUCED, log 100.) -/
def queueTx (x : Nat) (f : TxFrame) (d : Dev) : Dev :=
  let f := { f with d1 := d.word (.STATION_PORT_TXD1 x), d2 := d.word (.STATION_PORT_TXD2 x) }
  if bitAt f.d0 18 ∧ d.redundant then
    let r := takeSeq d
    let f := { f with seq := some r.1 }
    let y := 1 - x
    let d := r.2.setSport y { r.2.sport y with tx := (r.2.sport y).tx ++ [{ f with own := false }] }
    d.setSport x { d.sport x with open_ := none, tx := (d.sport x).tx ++ [f] }
  else d.setSport x { d.sport x with open_ := none, tx := (d.sport x).tx ++ [f] }

/-- A write to `PORTx_TXDATA`: 4 bytes, the first in bits 7:0; a push that finds no room discards the frame.
(DEDUCED, log 100.) -/
def txDataWrite (x : Nat) : Effect := fun _ v _ d =>
  let p := d.sport x
  match p.open_ with
  | none => d
  | some f =>
    if hostQueue < p.txUsed + 4 then showTx x (txError x (d.setSport x { p with open_ := none }))
    else
      let len := bitsOf f.d0 0 12
      let bytes := f.bytes ++ leBytes 4 v
      showTx x (if len ≤ bytes.length then queueTx x { f with bytes := bytes.take len } d
        else d.setSport x { p with open_ := some { f with bytes } })

/-- TX_DESC_WRITE (R326). -/
def execTxDescWrite (m : Nat) (port : Fin 2) (v : Word) : State → Out :=
  writeRow (txd0Write port) m (.STATION_PORT_TXD0 port) v.toNat
/-- TX_DATA_PUSH (R326). -/
def execTxDataPush (m : Nat) (port : Fin 2) (v : Word) : State → Out :=
  writeRow (txDataWrite port) m (.STATION_PORT_TXDATA port) v.toNat

/-- One-step mode (R96): the egress timestamp `ts` goes into a Sync or a Pdelay_Resp; none where it is not applied. -/
def oneStep (ts : Nat) (f : TxFrame) (l : List (BitVec 8)) : Option (List (BitVec 8)) :=
  match ptpAt l with
  | none => none
  | some o =>
    if ptpType l o = 0 then
      let sub := bitsOf (ts % nsUnit) 13 16
      let l := (addCorrection l o sub).1
      some (patch l (o + 34) (beBytes 6 (ts / secUnit) ++ beBytes 4 (ts / nsUnit % 1000000000)))
    else if ptpType l o = 3 then
      let span := 2 ^ 16 * 1000000000 * 2 ^ 16
      let rx := (bitsOf f.d2 0 16 * 1000000000 + bitsOf f.d1 0 30) * 2 ^ 16 + bitsOf f.d2 16 16
      some (addCorrection l o ((ts / 2 ^ 13 + span - rx % span) % span : Nat)).1
    else none

/-- The entry of the transmit timestamp queue for a message, if the port recognises it (R93, R95). -/
def Dev.tsEntry (d : Dev) (x ts : Nat) (l : List (BitVec 8)) : Option TsqEntry :=
  let o := if (ptpAt l).isSome then ptpAt l else if d.on (F.TIME_PORT_CFG_UDP_EN x) then udpPtpAt l else none
  match o with
  | none => none
  | some o => if ptpType l o ≤ 3 then some { time := ts, domain := beAt l (o + 4) 1, mtype := ptpType l o
                                             seqId := beAt l (o + 30) 2 } else none

/-- The oldest frame of the host queue leaves port `x` with egress timestamp `ts`. (DEDUCED, log 105.) -/
def sendHost (x ts : Nat) (f : TxFrame) (rest : List TxFrame) (d : Dev) : Dev :=
  let r := addRed x f.seq f.bytes d
  let ptp := r.2.enabled (.TIME 1)
  let one := if ptp && bitAt f.d0 17 && r.2.on (F.TIME_PORT_CFG_ONESTEP_EN x) then oneStep ts f r.1 else none
  let d := r.2.setSport x { r.2.sport x with tx := rest }
  let d := match one, d.tsEntry x ts r.1 with
    | none, some e => d.when (ptp && d.on (F.TIME_PORT_CFG_TS_EN x) && bitAt f.d0 16) (tsqPush x e)
    | _, _ => d
  let d := sendBytes x false (one.getD r.1) d
  let d := d.when (f.own && !rest.any fun g => g.own) fun d => d.wr (F.STATION_PORT_EVT_TX_EMPTY x) 1
  showTx x d

/-! ## Ring forwarding, at the departure (R97, R98, R331) -/

/-- The correction of a forwarded frame in 2^-16 ns, from its arrival at `a` to its departure; none where it passes
unaltered. The manual asks for equal TC_EN on both ports and not for equal TC_MODE: that of the port of arrival decides.
(DEDUCED and DESIGN CHOICE, log 105.) -/
def Dev.tcAmount (d : Dev) (a rx ts : Nat) (l : List (BitVec 8)) : Option (Nat × Int) :=
  if d.tcOn then
    match ptpAt l with
    | none => none
    | some o =>
      let res : Int := ((ts : Int) - rx) / 2 ^ 13
      let e2e := d.on (F.TIME_PORT_CFG_TC_MODE a)
      if ptpType l o = 0 then
        let asym := signedOf 32 (d.rd (F.TIME_PORT_ASYM_ASYM a)) * 65536 / 1000
        some (o, if e2e then res else res + d.rd (F.TIME_PORT_LINKDLY_DLY a) + asym)
      else if ptpType l o = 1 ∧ e2e then some (o, res)
      else none
  else none

/-- The oldest frame of the forwarding buffer leaves port `x` with egress timestamp `ts`. (DEDUCED, log 105.) -/
def sendForward (x ts : Nat) (f : FwdFrame) (rest : List FwdFrame) (d : Dev) : Dev :=
  let d := d.setSport x { d.sport x with fwd := rest }
  match d.tcAmount (1 - x) f.ts ts f.bytes with
  | none => sendBytes x f.bad f.bytes d
  | some (o, n) =>
    let r := addCorrection f.bytes o n
    let d := d.wr (F.TIME_PORT_TC_CNT_CORRECTED x) (d.rd (F.TIME_PORT_TC_CNT_CORRECTED x) + 1)
    let d := d.when r.2 fun d => d.count (F.TIME_PORT_TC_CNT_SATURATED x)
    sendBytes x f.bad r.1 d

/-- The lowest-numbered publication with a frame to send at port `x` (R327). -/
def Dev.nextPub (d : Dev) (x : Nat) : Option (Nat × Pub) :=
  (List.range 16).findSome? fun u =>
    match d.pub u with
    | some p => if bitAt p.due x then some (u, p) else none
    | none => none

/-- STATION_TX (R327): port `port` chooses and sends the next frame that is ready, whose timestamp point was at the balls
`ago` ps ago. -/
def execStationTx (port : Fin 2) (ago : Nat) : State → Out := liftDev fun d =>
  if ¬ d.portSends port then d
  else
    let x : Nat := port
    let ts := d.txStamp x ago
    let p := d.sport x
    match d.nextPub x, p.fwd, p.rsp, p.tx with
    | some (u, q), _, _, _ => sendPub x u q d
    | none, f :: fs, _, _ => sendForward x ts f fs d
    | none, [], r :: rs, _ =>
      let l := addRed x r.2 r.1 d
      sendBytes x false l.1 (l.2.setSport x { l.2.sport x with rsp := rs })
    | none, [], [], f :: fs => sendHost x ts f fs d
    | none, [], [], [] => d

/-- HSR_FORWARD (R327, R331): the oldest frame under way to port `port` leaves, where no publication goes first. -/
def execHsrForward (port : Fin 2) (ago : Nat) : State → Out := liftDev fun d =>
  if ¬ d.portSends port then d
  else
    match d.nextPub port, (d.sport port).fwd with
    | none, f :: fs => sendForward port (d.txStamp port ago) f fs d
    | _, _ => d

/-- The supervision frame (R329): the version, path and sequence fields are not stated. (DESIGN CHOICE, log 103.) -/
def supFrame (d : Dev) : List (BitVec 8) :=
  beBytes 6 0x01154E000100 ++ beBytes 6 (d.portMac 0) ++ beBytes 2 0x88FB ++ beBytes 4 (d.free % 2 ^ 32) ++
    beBytes 1 (if d.redMode = 1 then 20 else 23) ++ beBytes 1 6 ++ beBytes 6 (d.portMac 0) ++ beBytes 2 0

/-- RED_SUPERVISION (R329): every LIFE ms a supervision frame joins the host frames of both ports, as far as they are
enabled. (DEDUCED, log 104.) -/
def execRedSupervision : State → Out := liftDev fun d =>
  let life := d.rd F.STATION_RED_CFG_LIFE
  if d.redundant ∧ life ≠ 0 ∧ (d.portOn 0 ∨ d.portOn 1) then
    let d := d.jumpTo (d.station.supAt + 1000000 * life)
    let f : TxFrame := { d0 := 0, bytes := supFrame d, own := false }
    let d := d.taken
    let d := d.each ([0, 1].filter d.portOn) fun x d => d.setSport x { d.sport x with tx := (d.sport x).tx ++ [f] }
    d.setStation fun s => { s with supAt := d.now }
  else d

/-! ## Responses of remote register access (R340, R342) -/

/-- The payload of a response. -/
def Dev.rraPayload (d : Dev) (q : RraReq) : List (BitVec 8) :=
  let head := beBytes 1 1 ++ beBytes 1 2 ++ beBytes 2 q.sid ++ beBytes 8 q.seq ++ beBytes 2 q.done.length ++ beBytes 2 0
  let body := head ++ q.done.flatMap fun e =>
    beBytes 4 e.1 ++ beBytes 4 e.2.1 ++ beBytes 1 e.2.2.1 ++ beBytes 1 e.2.2.2 ++ beBytes 2 0
  body ++ beBytes 16 (Config.gmac (d.sesKey q.ses) (d.sesIv q.ses true q.seq) body).toNat

/-- RRA_RESPONSE (R342): every item of the oldest request has executed, and its response leaves. -/
def execRraResponse : State → Out := liftDev fun d =>
  match d.station.rraQ with
  | [] => d
  | q :: rest =>
    if q.todo ≠ [] then d
    else
      let frame := q.src ++ beBytes 6 (d.portMac q.port) ++ beBytes 2 (d.rd F.STATION_RRA_CFG_ETYPE) ++ d.rraPayload q
      let d := d.setStation fun s => { s with rraQ := rest }
      let d := d.wr (F.STATION_SES_STAT_DONE q.ses) (d.rd (F.STATION_SES_STAT_DONE q.ses) + 1)
      let r := if q.red && d.redundant then
          let t := takeSeq d
          (some t.1, t.2)
        else (none, d)
      let ports := if r.1.isSome then [0, 1] else [q.port]
      rraEvent 0 (r.2.each ports fun x d => d.setSport x { d.sport x with rsp := (d.sport x).rsp ++ [(frame, r.1)] })

/-! ## Block resets of STATION pages (R344) -/

/-- What a block reset of a STATION page ends beside its registers: the queues of a port, what redundancy remembers,
the supervision of subscriptions, publications, and the requests of remote register access. -/
def stationReset (p : Nat) (d : Dev) : Dev :=
  if p < 2 then d.setSport p { lockAt := (d.sport p).lockAt, last := (d.sport p).last, lastBad := (d.sport p).lastBad }
  else if p = 2 then d.setStation fun s => { s with dups := [], fwds := [], twin := none }
  else if p = 3 then d
  else if p < 12 then
    d.each ((List.range 4).map fun i => 4 * (p - 4) + i) fun s d =>
      let d := setSvLive s false (mget 0 d.station.svFlags s) d
      d.setStation fun st => { st with svSeen := clearBitAt st.svSeen s, svFrom := merase st.svFrom s }
  else if p = 12 then d.setStation fun s => { s with gDead := [], gStNum := [] }
  else if p < 15 then d.setStation fun s => { s with pubs := s.pubs.filter fun e => e.1 / 8 != p - 13 }
  else d.setStation fun s => { s with rraIn := [], rraQ := [] }

end Sys2Proof.Machine
end

