-- ==== Sys2Proof/Machine/Security.lean ====
section
/-!
DEFINITION. Sys2Proof/Machine/Security.lean: the OTP and its operations (R382, R383, R392, R393), the verification of
Felian images (R384 to R391), the safety profile (R394, R395), attestation and measurements (R399 to R401), the swap of
protection firmware (R404) and the update progress (R402).
-/
namespace Sys2Proof.Machine

/-- Replaces what the KEYS engines hold. -/
def Dev.setSec (d : Dev) (f : SecState → SecState) : Dev := { d with sec := f d.sec }

/-- A list cut or padded with zeros to `n` bytes. -/
def fitTo (n : Nat) (l : List (BitVec 8)) : List (BitVec 8) := (l ++ List.replicate n 0).take n

/-- Word `i` of a 256-bit hash, byte 4i in bits 31:24. -/
def hashWord (h : BitVec 256) (i : Nat) : Nat := bitsOf h.toNat (224 - 32 * i) 32

/-! ## The OTP as the KEYS page shows it (R382, R406) -/

/-- An owner slot. -/
def Dev.ownerSlot (d : Dev) (k : Nat) : OwnerSlot := mget {} d.sec.otp.owner k

/-- A rollback counter. -/
def Dev.rbCounter (d : Dev) (i : Nat) : Nat := mget 0 d.sec.otp.rb i

/-- A patch slot. -/
def Dev.patchSlot (d : Dev) (k : Nat) : PatchSlot := mget {} d.sec.otp.patch k

/-- Owner slots that are ACTIVE. -/
def Dev.activeOwners (d : Dev) : List Nat := (List.range 4).filter fun k => (d.ownerSlot k).state == 1

/-- A sum over a range, for words put together from fields. -/
def sumOver (n : Nat) (f : Nat → Nat) : Nat := (List.range n).foldl (fun a i => a + f i) 0

/-- `KEYS.OWNER`, `RB_LO`, `RB_HI` and `PATCH` show the OTP. (DESIGN CHOICE, log 2.) -/
def showOtp (d : Dev) : Dev :=
  let d := d.setWord .KEYS_OWNER
    (sumOver 4 fun k => (d.ownerSlot k).state % 4 * 4 ^ k + b2n ((d.ownerSlot k).alg == 2) * 2 ^ (8 + k))
  let d := d.setWord .KEYS_RB_LO (sumOver 4 fun i => d.rbCounter i * 256 ^ i)
  let d := d.setWord .KEYS_RB_HI (sumOver 4 fun i => d.rbCounter (4 + i) * 256 ^ i)
  d.setWord .KEYS_PATCH
    (sumOver 16 fun k => b2n (d.patchSlot k).used * 2 ^ k + b2n (d.patchSlot k).killed * 2 ^ (16 + k))

/-! ## What consumes a verified image (R390) -/

/-- `V_INFO.KIND`. -/
def Dev.imageKind (d : Dev) : Nat := bitsOf (d.word .KEYS_V_INFO) 0 16

/-- Whether a verified image of one of `kinds` stands. -/
def Dev.verified (d : Dev) (kinds : List Nat) : Bool := d.on F.KEYS_V_STAT_VALID && kinds.contains d.imageKind

/-- A command is refused for want of a verified image. (DEDUCED, log 153.) -/
def notVerified (d : Dev) : Dev := d.blkErr (.KEYS 1) 17

/-- Where the payload of the verified image lies. (DEDUCED, log 148.) -/
def Dev.payloadAt (d : Dev) : Nat := (d.sec.watch.getD (0, 0)).1 + d.sec.payoff

/-- The payload of the verified image. -/
def Dev.payload (d : Dev) (mem : List Host.Cell) : List (BitVec 8) :=
  readBytes d mem 5 d.payloadAt (d.word .KEYS_V_PLEN)

/-! ## OTP operations -/

/-- An OTP operation is refused (R383). (DEDUCED, log 153.) -/
def otpRefused (d : Dev) : Dev := (d.wr F.KEYS_OTP_STAT_RESULT 2).blkErr (.KEYS 0) 16

/-- An OTP operation starts. -/
def otpStart (r : OtpRun) (d : Dev) : Dev :=
  ((d.wr F.KEYS_OTP_STAT_BUSY 1).progStart (.KEYS 0) 0 0).setSec fun s => { s with otpRun := some { r with at_ := d.now } }

/-- The bits that a slot's programming, kill or revoke burns: the manual does not state how many of its 44 bytes'.
(DESIGN CHOICE, log 154.) -/
def Dev.slotBits (d : Dev) : Nat := 1 + d.free % 352

/-- RB_ADVANCE (R392). (DEDUCED, log 156.) -/
def rbAdvance (d : Dev) : Dev :=
  let k := d.rd F.KEYS_OTP_CTRL_IDX
  let v := d.rd F.KEYS_OTP_CTRL_VALUE
  let c := d.rbCounter k
  if v < c ∨ 64 < v then otpRefused d
  else if v = c then d.wr F.KEYS_OTP_STAT_RESULT 1
  else otpStart { op := 1, idx := k, sub := 1, need := v - c } d

/-- An OWNER_KEY payload applied (R393). (DEDUCED, log 147.) -/
def otpOwner (p : List (BitVec 8)) (d : Dev) : Dev :=
  let k := leAt p 32 1
  let op := leAt p 33 1
  let alg := leAt p 34 1
  let others := d.activeOwners.filter fun j => j != k
  if p.length ≠ 36 ∨ 3 < k ∨ ¬ (op = 1 ∨ op = 2) ∨ ¬ (alg = 1 ∨ alg = 2) ∨ leAt p 35 1 ≠ 0 ∨
      op = 1 ∧ (d.ownerSlot k).state ≠ 0 ∨ op = 2 ∧ others = [] then otpRefused d
  else
    let new : OwnerSlot :=
      if op = 1 then { hash := BitVec.ofNat 256 (beAt p 0 32), alg, state := 1 } else { d.ownerSlot k with state := 2 }
    otpStart { op := 2, idx := k, sub := op, need := d.slotBits, owner := new } d.taken

/-- A ROM_PATCH payload applied (R393). (DEDUCED, log 147.) -/
def otpPatch (p : List (BitVec 8)) (d : Dev) : Dev :=
  let a := leAt p 0 4
  let k := leAt p 36 1
  let op := leAt p 37 1
  let s := d.patchSlot k
  if p.length ≠ 40 ∨ a % 32 ≠ 0 ∨ 0x40000 ≤ a ∨ 15 < k ∨ ¬ (op = 1 ∨ op = 2) ∨ leAt p 38 2 ≠ 0 ∨
      op = 1 ∧ s.used ∨ op = 2 ∧ ¬ s.used then otpRefused d
  else
    let new : PatchSlot :=
      if op = 1 then { addr := a, words := (List.range 8).map fun i => leAt p (4 + 4 * i) 4, used := true }
      else { s with killed := true }
    otpStart { op := 3, idx := k, sub := op, need := d.slotBits, patch := new } d.taken

/-- A write to `KEYS.OTP_CTRL` (R383): a non-zero OP starts an operation. (DEDUCED, log 153.) -/
def otpCtrlWrite (mem : List Host.Cell) : Effect := fun _ _ w d =>
  let d := d.setWord .KEYS_OTP_CTRL w
  let op := d.code F.KEYS_OTP_CTRL_OP [0, 1, 2, 3]
  if op = 0 then d
  else if d.on F.KEYS_OTP_STAT_BUSY ∨ d.on F.PWR_VMON_WARN then otpRefused d
  else if op = 1 then rbAdvance d
  else if op = 2 then
    (if d.verified [9] then otpOwner (d.payload mem) d else notVerified (otpRefused d))
  else if d.verified [8] then otpPatch (d.payload mem) d
  else notVerified (otpRefused d)

/-- OTP_RB_ADVANCE (R392). -/
def execOtpRbAdvance (m : Nat) (v : Word) (s : State) : Out := writeRow (otpCtrlWrite s.mem) m .KEYS_OTP_CTRL v.toNat s
/-- OTP_OWNER (R393). -/
def execOtpOwner (m : Nat) (v : Word) (s : State) : Out := writeRow (otpCtrlWrite s.mem) m .KEYS_OTP_CTRL v.toNat s
/-- OTP_PATCH (R393). -/
def execOtpPatch (m : Nat) (v : Word) (s : State) : Out := writeRow (otpCtrlWrite s.mem) m .KEYS_OTP_CTRL v.toNat s

/-- The OTP after a bit of an operation has been burnt: a slot that is not complete reads INVALID, or fails its check
at boot (R383). (DESIGN CHOICE, log 154.) -/
def Otp.burn (o : Otp) (r : OtpRun) : Otp :=
  let whole := decide (r.need ≤ r.done + 1)
  match r.op with
  | 1 => { o with rb := mset o.rb r.idx (mget 0 o.rb r.idx + 1) }
  | 2 =>
    let part : OwnerSlot := { r.owner with state := 3 }
    { o with owner := mset o.owner r.idx (if whole then r.owner else part) }
  | _ =>
    let part : PatchSlot := { r.patch with crcOk := false, killed := (mget {} o.patch r.idx).killed }
    { o with patch := mset o.patch r.idx (if whole then r.patch else part) }

/-- The OTP operation ends with a result. -/
def otpEnd (result : Nat) (d : Dev) : Dev :=
  (((d.wr F.KEYS_OTP_STAT_BUSY 0).wr F.KEYS_OTP_STAT_RESULT result).progEnd (.KEYS 0)).setSec fun s =>
    { s with otpRun := none }

/-- OTP_BIT_BURN (R383): a bit is burnt and read back in 10 us; `ok` says that it reads back burnt. -/
def execOtpBitBurn (ok : Bool) : State → Out := liftDev fun d =>
  match d.sec.otpRun with
  | none => d
  | some r =>
    let d := d.jumpTo (r.at_ + 10000)
    if ok then
      let done := r.done + 1
      let d := showOtp (d.setSec fun s => { s with otp := s.otp.burn r, otpRun := some { r with done, at_ := d.now } })
      let d := d.progAt (.KEYS 0) done (min 99 (100 * done / r.need))
      d.when (decide (r.need ≤ done)) (otpEnd 1)
    else (otpEnd 3 d).latch 59

/-! ## Verification (R384 to R391) -/

/-- A field of an image header (R385). -/
structure Header where
  bytes : List (BitVec 8)
  deriving DecidableEq, Repr

/-- KIND. -/
def Header.kind (h : Header) : Nat := leAt h.bytes 0x06 2
/-- SIGALG. -/
def Header.alg (h : Header) : Nat := leAt h.bytes 0x08 1
/-- KEYSLOT. -/
def Header.slot (h : Header) : Nat := leAt h.bytes 0x09 1
/-- RBVAL. -/
def Header.rbval (h : Header) : Nat := leAt h.bytes 0x0A 1
/-- FLAGS. -/
def Header.flags (h : Header) : Nat := leAt h.bytes 0x0B 1
/-- VERSION. -/
def Header.version (h : Header) : Nat := leAt h.bytes 0x0C 4
/-- PLEN. -/
def Header.plen (h : Header) : Nat := leAt h.bytes 0x10 4
/-- PAYOFF. -/
def Header.payoff (h : Header) : Nat := leAt h.bytes 0x14 4
/-- LOAD. -/
def Header.load (h : Header) : Nat := leAt h.bytes 0x18 4
/-- ARG. -/
def Header.arg (h : Header) : Nat := leAt h.bytes 0x1C 4
/-- UID. -/
def Header.uid (h : Header) : Nat := leAt h.bytes 0x20 8
/-- Bytes of the public key. -/
def Header.keyLen (h : Header) : Nat := if h.alg = 1 then 1312 else 1952
/-- Bytes of the signature. -/
def Header.sigLen (h : Header) : Nat := if h.alg = 1 then 2420 else 3309

/-- FORMAT holds: no field breaks R385 or R386, and the payload lies within the image (R388). (DEDUCED, log 147.) -/
def Header.wellFormed (h : Header) (len : Nat) : Bool :=
  h.bytes.take 4 == [0x46, 0x4C, 0x4E, 0x31] && leAt h.bytes 4 2 == 1 &&
  decide (1 ≤ h.kind ∧ h.kind ≤ 9) && (h.alg == 1 || h.alg == 2) && decide (h.slot ≤ 4) && decide (h.rbval ≤ 64) &&
  decide (h.flags ≤ 1) && decide (h.plen ≤ 16777215) && h.payoff % 64 == 0 &&
  decide ((if h.alg = 1 then 3904 else 5440) ≤ h.payoff) && decide (h.payoff + h.plen ≤ len) &&
  (decide (h.kind ≤ 2) || h.load == 0) && (decide (h.kind ≤ 6 ∧ h.kind ≠ 3) || h.arg == 0) &&
  (h.flags == 1 || h.uid == 0) && (h.bytes.drop 0x48).all fun b => b == 0

/-- R384 allows KEYSLOT for KIND, and a slot's ALG is the image's SIGALG. -/
def Dev.slotAllowed (d : Dev) (h : Header) : Bool :=
  let none_ := d.activeOwners.isEmpty
  if h.slot = 0 then h.kind == 8 || none_
  else
    let s := d.ownerSlot (h.slot - 1)
    h.kind != 8 && s.state == 1 && s.alg == h.alg

/-- The stored hash of the key that KEYSLOT names. -/
def Dev.storedHash (d : Dev) (slot : Nat) : BitVec 256 :=
  if slot = 0 then d.sec.otp.vendorHash else (d.ownerSlot (slot - 1)).hash

/-- The rollback counter of a KIND (R386); kinds 8 and 9 have none. -/
def rbOf (kind : Nat) : Option Nat :=
  match kind with
  | 1 => some 0 | 2 => some 1 | 3 => some 2 | 4 => some 3 | 5 => some 3 | 6 => some 4 | 7 => some 5
  | _ => none

/-- The code with which the checks of R388 end, in their order, for an image of `len` bytes of which `get o n` are the
`n` bytes from offset `o`. -/
def imageCode (d : Dev) (get : Nat → Nat → List (BitVec 8)) (len : Nat) : Nat :=
  let h : Header := ⟨get 0 128⟩
  let key := get 0x80 h.keyLen
  let sig := get (0x80 + h.keyLen) h.sigLen
  if ¬ h.wellFormed len then 1
  else if h.flags = 1 ∧ h.uid ≠ d.sec.otp.uid.toNat then 2
  else if ¬ d.slotAllowed h ∨ Config.sha3_256 key ≠ d.storedHash h.slot then 3
  else if (match rbOf h.kind with | some i => decide (h.rbval < d.rbCounter i) | none => false) then 4
  else if Config.sha3_256 (get h.payoff h.plen) ≠ BitVec.ofNat 256 (beAt h.bytes 0x28 32) then 5
  else if ¬ Config.signatureOk h.alg key h.bytes sig then 6
  else 0

/-- The code for the image that stands at `a` in memory. -/
def verifyCode (d : Dev) (mem : List Host.Cell) (a len : Nat) : Nat :=
  imageCode d (fun o n => readBytes d mem 5 (a + o) n) len

/-- Whether a range lies wholly in shared SRAM, safety RAM or staging RAM. -/
def inPlainRam (a n : Nat) : Bool :=
  decide (sramBase ≤ a ∧ a + n ≤ sramBase + 0x1800000) || decide (safetyBase ≤ a ∧ a + n ≤ safetyBase + 0x80000) ||
  decide (stagingBase ≤ a ∧ a + n ≤ stagingBase + 0x10000)

/-- `V_CTRL.START` (R388). (DEDUCED, log 150.) -/
def vStart (mem : List Host.Cell) (d : Dev) : Dev :=
  let a := d.rd F.KEYS_V_ADDR_VAL
  let n := d.rd F.KEYS_V_LEN_VAL
  if d.on F.KEYS_V_STAT_BUSY ∨ n < 128 ∨ ¬ inPlainRam a n then d.blkErr (.KEYS 1) 16
  else
    let d := ((d.wr F.KEYS_V_STAT_BUSY 1).wr F.KEYS_V_STAT_VALID 0).wr F.KEYS_V_STAT_TAMPER 0
    let h : Header := ⟨readBytes d mem 5 a 128⟩
    let d := d.progStart (.KEYS 1) 0 (if h.plen = 0 then 255 else 0)
    d.setSec fun s => { s with vRun := some (a, n), watch := some (a, n), vAt := d.now, vPlen := h.plen
                               vHead := 2 + h.keyLen / 136 }

/-- `V_CTRL.CLEAR`. (DESIGN CHOICE, log 149.) -/
def vClear (d : Dev) : Dev :=
  ((d.wr F.KEYS_V_STAT_VALID 0).wr F.KEYS_V_STAT_TAMPER 0).setSec fun s => { s with watch := none }

/-- `V_CTRL.ABORT`. -/
def vAbort (d : Dev) : Dev := d.when d.sec.vRun.isSome (endVerify 9)

/-- The verified image's measurement is recorded under its kind (R401). -/
def commit (d : Dev) : Dev :=
  let k := d.imageKind - 1
  let d := d.wr (F.KEYS_MEAS_VER_VAL k) (d.word .KEYS_V_VER)
  let d := d.wr (F.KEYS_MEAS_INFO_VAL k) (2 ^ 31 + d.word .KEYS_V_INFO / 2 ^ 24)
  d.each (List.range 8) fun i d => d.wr (F.KEYS_MEAS_DIG_VAL k i) (d.word (.KEYS_V_HDIG i))

/-- `V_CTRL.COMMIT` (R390, R401). -/
def vCommit (d : Dev) : Dev := if d.verified [1, 2, 3, 4, 5, 6, 7] then commit d else notVerified d

/-! ## The safety profile -/

/-- A field of the profile lies within its register's range, and its reserved bits are 0 (R394, R395).
(DEDUCED, log 147, 152.) -/
def profileOk (p : List (BitVec 8)) : Bool :=
  p.length == 80 && (p.take 64).all (fun b => decide (b.toNat < 8)) && decide (leAt p 0x40 4 < 8) &&
  decide (1 ≤ leAt p 0x44 2 ∧ leAt p 0x44 2 ≤ 60000) && decide (1 ≤ leAt p 0x46 2 ∧ leAt p 0x46 2 ≤ 3600) &&
  decide (leAt p 0x48 1 ≤ 15) && decide (leAt p 0x49 1 < 4) && leAt p 0x4D 1 == 0 &&
  decide (5 ≤ leAt p 0x4E 2 ∧ leAt p 0x4E 2 ≤ 500)

/-- A profile applied in one SAFECLK cycle, or refused whole (R395). (DEDUCED, log 124, 152.) -/
def applyProfile (p : List (BitVec 8)) (d : Dev) : Dev :=
  if ¬ profileOk p then d.blkErr (.KEYS 1) 18
  else
    let flags := leAt p 0x40 4
    let d := d.each (List.range 64) fun n d => classWrite n 5 0 (leAt p n 1) d
    let d := changeAsserted (fun d =>
      let d := d.wr F.FC_STAT_TEST_FORCE_EN (flags % 2)
      d.when (flags % 2 == 0) fun d => (d.setWord .SYS_TFORCE_LO 0).setWord .SYS_TFORCE_HI 0) d
    let d := d.wr F.FC_QUIET_MS (leAt p 0x44 2)
    let d := (d.wr F.FC_RECOV_CFG_WIN (leAt p 0x46 2)).wr F.FC_RECOV_CFG_MAX (leAt p 0x48 1)
    let d := (d.wr F.FC_CFG_BLK_ACTION (leAt p 0x49 1 % 2)).wr F.FC_CFG_AUTO_UNBLOCK (leAt p 0x49 1 / 2)
    let d := d.wr F.FC_CFG_TRIP_MASK (leAt p 0x4A 1)
    let d := (d.wr F.SAFE_TRIP_CFG_POL (leAt p 0x4B 1)).wr F.SAFE_TRIP_CFG_MIN (leAt p 0x4C 1)
    let d := d.wr F.SAFE_ALIVE_HALF_HALF (leAt p 0x4E 2)
    d.setSec fun s => { s with profile := true, flags }

/-- `V_CTRL.PROFILE` (R390, R395). -/
def vProfile (mem : List Host.Cell) (d : Dev) : Dev :=
  if d.verified [3] then landFirst (applyProfile (d.payload mem)) d else notVerified d

/-- A write to `KEYS.V_CTRL`; every bit reads 0. (DESIGN CHOICE, log 149.) -/
def vCtrlWrite (mem : List Host.Cell) : Effect := fun _ v _ d =>
  let d := d.when (bitAt v 2) vAbort
  let d := d.when (bitAt v 1) vClear
  let d := d.when (bitAt v 0) (vStart mem)
  let d := d.when (bitAt v 3) vCommit
  d.when (bitAt v 4) (vProfile mem)

/-- V_START (R388). -/
def execVStart (m : Nat) : State → Out := fun s => writeRow (vCtrlWrite s.mem) m .KEYS_V_CTRL 1 s
/-- V_CLEAR (R390). -/
def execVClear (m : Nat) : State → Out := fun s => writeRow (vCtrlWrite s.mem) m .KEYS_V_CTRL 2 s
/-- V_ABORT (R388). -/
def execVAbort (m : Nat) : State → Out := fun s => writeRow (vCtrlWrite s.mem) m .KEYS_V_CTRL 4 s
/-- V_COMMIT (R401). -/
def execVCommit (m : Nat) : State → Out := fun s => writeRow (vCtrlWrite s.mem) m .KEYS_V_CTRL 8 s
/-- V_PROFILE (R395). -/
def execVProfile (m : Nat) : State → Out := fun s => writeRow (vCtrlWrite s.mem) m .KEYS_V_CTRL 16 s

/-- The header and its digest are copied into page 1 (R388). -/
def copyHeader (h : Header) (d : Dev) : Dev :=
  let d := d.setWord .KEYS_V_INFO (h.rbval * 2 ^ 24 + h.slot * 2 ^ 20 + h.alg * 2 ^ 16 + h.kind)
  let d := ((d.setWord .KEYS_V_VER h.version).setWord .KEYS_V_LOAD h.load).setWord .KEYS_V_ARG h.arg
  let d := d.setWord .KEYS_V_PLEN h.plen
  let dig := Config.sha3_256 h.bytes
  let d := d.each (List.range 8) fun i d =>
    (d.setWord (.KEYS_V_PDIG i) (beAt h.bytes (0x28 + 4 * i) 4)).setWord (.KEYS_V_HDIG i) (hashWord dig i)
  d.setSec fun s => { s with payoff := h.payoff }

/-- V_DONE (R388, R389): the verification in progress ends; `bus` says that the interconnect gave it a time-out.
(DEDUCED, log 150, 151.) -/
def execVDone (bus : Bool) : State → Out := liftMem fun mem d =>
  match d.sec.vRun with
  | none => (d, [])
  | some (a, n) =>
    let h : Header := ⟨readBytes d mem 5 a 128⟩
    match (if bus then some RespCode.timeout else d.rangeError 5 a n false) with
    | some c => (endVerify 7 (engineError 5 a n false false c d), [])
    | none =>
      let code := verifyCode d mem a n
      let d := d.when (code == 0) fun d => (copyHeader h d).wr F.KEYS_V_STAT_VALID 1
      let d := endVerify code d
      (d.when (code == 0 || decide (5 ≤ code)) fun d => d.wr (F.PG_PROG_POSITION (.KEYS 1)) (h.plen / 1024), [])

/-! ## The swap of protection firmware (R404) -/

/-- A write to `PROT.CTRL`. -/
def protCtrlWrite : Effect := fun m v _ d =>
  d.when (bitAt v 0) fun d =>
    let a := d.payloadAt
    let n := d.word .KEYS_V_PLEN
    if m = 4 ∧ d.verified [1] ∧ d.word .KEYS_V_LOAD = a ∧ safetyBase ≤ a ∧ a + n ≤ safetyBase + 0x80000 then
      let d := commit d
      let d := (d.wr F.PROT_STAT_HALTED 0).wr F.PROT_STAT_RUNNING 1
      d.setSec fun s => { s with protPc := d.word .KEYS_V_ARG }
    else notVerified d

/-- PROT_SWAP (R404). -/
def execProtSwap (m : Nat) : State → Out := writeRow protCtrlWrite m .PROT_CTRL 1

/-! ## Attestation (R399 to R401) -/

/-- The 448 bytes of a report (R400). (DESIGN CHOICE, log 155.) -/
def Dev.report (d : Dev) : List (BitVec 8) :=
  let w (n : Nat) (r : Reg) : List (BitVec 8) := leBytes n (d.word r)
  let hash (i : Nat → Reg) : List (BitVec 8) := (List.range 8).flatMap fun j => beBytes 4 (d.word (i j))
  let slots := (List.range 16).flatMap fun k =>
    let s := d.patchSlot k
    Config.patchSlotBytes s.addr s.words s.crcOk s.used s.killed
  [0x46, 0x4C, 0x52, 0x31] ++ leBytes 2 1 ++ leBytes 2 0x1C0 ++ hash .KEYS_A_NONCE ++
  leBytes 8 d.sec.otp.uid.toNat ++ w 4 .SVCPORT_ID0 ++ w 4 .SVCPORT_ID1 ++ leBytes 8 d.tbSec ++ leBytes 4 d.tbNs ++
  leBytes 8 (d.claim % 2 ^ 48) ++ leBytes 1 d.role ++ leBytes 1 (d.rd F.FC_STATE_STATE) ++
  leBytes 1 (d.rd F.XSPI_BANKSEL_BOOTED) ++ leBytes 1 (d.rd F.KEYS_OWNER_STATE) ++
  (List.range 8).flatMap (fun i => leBytes 1 (d.rbCounter i)) ++
  leBytes 2 (d.rd F.KEYS_PATCH_STAT_APPLIED) ++ leBytes 2 (d.rd F.KEYS_PATCH_STAT_BAD) ++ w 4 .RST_COUNT ++
  leBytes 4 d.sec.flags ++ List.replicate 12 0 ++ beBytes 32 (Config.sha3_256 slots).toNat ++
  (List.range 7).flatMap (fun k => hash (.KEYS_MEAS_DIG k) ++ w 4 (.KEYS_MEAS_VER k) ++
    leBytes 1 (d.word (.KEYS_MEAS_INFO k)) ++ leBytes 1 (d.word (.KEYS_MEAS_INFO k) / 2 ^ 31) ++ [0, 0]) ++
  List.replicate 24 0

/-- `A_CTRL.START` (R400). (DESIGN CHOICE, log 157.) -/
def attestStart (d : Dev) : Dev :=
  let a := d.rd F.KEYS_A_DST_VAL
  let ok := a % 8 == 0 && (MemRange.at a == some .sram || MemRange.at a == some .safety)
  if d.on F.KEYS_A_STAT_BUSY ∨ ¬ ok then d.blkErr (.KEYS 2) 16
  else
    ((d.wr F.KEYS_A_STAT_BUSY 1).progStart (.KEYS 2) 0 255).setSec fun s => { s with aRun := some (d.report, a) }

/-- The attestation engine writes bytes to memory, or stops with the bus error it meets (R42). (DEDUCED, log 158.) -/
def attestWrite (a : Nat) (data : List (BitVec 8)) (d : Dev) : Dev × List MemEff :=
  let e := if a % 8 ≠ 0 then some RespCode.decode else d.rangeError 6 a data.length true
  match e with
  | some c => ((busError 6 a true (decide (a % 8 ≠ 0)) c d).wr F.KEYS_A_STAT_RESULT 3, [])
  | none =>
    let d := watchWrite a data.length (clearErrors (wordsOf a data.length) d)
    (d.wr F.KEYS_A_STAT_RESULT 1, writeEffs a data)

/-- ATTEST_PUBKEY (R399): the public key is written; START in the same write starts a report as well.
(DEDUCED, log 158.) -/
def attestPubkey (d : Dev) : Dev × List MemEff :=
  attestWrite (d.rd F.KEYS_A_DST_VAL) (fitTo 1952 Config.identityPublicKey) d

/-- A write to `KEYS.A_CTRL` on the device; the key itself is written by `pubkeyEffs`. -/
def attestCtrlWrite : Effect := fun _ v _ d =>
  let d := d.when (bitAt v 1) fun d => (attestPubkey d).1
  d.when (bitAt v 0) attestStart

/-- The memory that a write to `KEYS.A_CTRL` changes. -/
def attestCtrlEffs (m v : Nat) (d : Dev) : List MemEff :=
  if d.canIssue m ∧ d.regCode m .KEYS_A_CTRL true v = .okay ∧ bitAt v 1 then (attestPubkey d).2 else []

/-- A write to `KEYS.A_CTRL` as a command. -/
def attestRow (m v : Nat) (s : State) : Out :=
  match writeRow attestCtrlWrite m .KEYS_A_CTRL v s with
  | .next t => .next { t with mem := runEffs t.mem (attestCtrlEffs m v s.dev) }
  | o => o

/-- ATTEST_START (R400). -/
def execAttestStart (m : Nat) : State → Out := attestRow m 1
/-- ATTEST_PUBKEY (R399). -/
def execAttestPubkey (m : Nat) : State → Out := attestRow m 2

/-- The attempts made so far, as a read of `PG_PROG` finds them while a report is being signed: not below those of an earlier
read and below 32; the manual gives no time of an attempt (R401). (DESIGN CHOICE, log 157.) -/
def attestTries (d : Dev) : Dev :=
  d.when d.sec.aRun.isSome fun d =>
    let made := d.rd (F.PG_PROG_POSITION (.KEYS 2))
    d.taken.wr (F.PG_PROG_POSITION (.KEYS 2)) (made + d.free % (32 - min 31 made))

/-- ATTEST_DONE (R400, R401): the report and its signature are written, or 32 attempts were rejected.
(DESIGN CHOICE, log 157.) -/
def execAttestDone : State → Out := liftMem fun _ d =>
  match d.sec.aRun with
  | none => (d, [])
  | some (msg, a) =>
    let draw := d.freeCount
    let made := d.rd (F.PG_PROG_POSITION (.KEYS 2))
    let tries := if Config.signingConverges msg draw then max made (1 + d.free % 32) else 32
    let d := ((d.taken.wr F.KEYS_A_STAT_BUSY 0).wr (F.PG_PROG_POSITION (.KEYS 2)) tries).progEnd (.KEYS 2)
    let d := d.setSec fun s => { s with aRun := none }
    if Config.signingConverges msg draw then
      attestWrite a (msg ++ fitTo 3309 (Config.identitySign msg draw) ++ [0, 0, 0]) d
    else (d.wr F.KEYS_A_STAT_RESULT 2, [])

/-! ## The update progress (R402) -/

/-- A write to `SYS.UPD_SET`. (DEDUCED, log 159.) -/
def updSetWrite : Effect := fun _ v w d =>
  let d := d.setWord .SYS_UPD_SET (clearBitAt w 31)
  let pos := bitsOf v 24 4 * 2 ^ 12 + bitsOf v 16 8
  let pct := bitsOf v 0 8
  let new := bitAt v 31
  let p : Page := .SYS 2
  if ¬ new ∧ ¬ d.on (F.PG_STAT_BUSY p) then d
  else
    let d := d.when new fun d => d.progStart p pos 0
    let old := d.rd (F.PG_PROG_PERCENT p)
    let legal := decide (pct ≤ 100) || pct == 255
    let d := d.wr (F.PG_PROG_POSITION p) pos
    if ¬ legal ∨ (¬ new ∧ old ≠ 255 ∧ pct < old) then d
    else if pct = 100 then d.progEnd p
    else d.wr (F.PG_PROG_PERCENT p) pct

/-- UPD_SET (R402). -/
def execUpdSet (m : Nat) (v : Word) : State → Out := writeRow updSetWrite m .SYS_UPD_SET v.toNat

end Sys2Proof.Machine
end

