-- ==== Sys2Proof/Machine/Reset.lean ====
section
/-!
DEFINITION. Sys2Proof/Machine/Reset.lean: what each kind of reset reaches and leaves (R7, R8, R31, R362 to R371), the
request, the hold and the release of a reset, and the end of a block reset.
-/
namespace Sys2Proof.Machine

/-! ## Fields that show the live state of hardware (R363) -/

/-- Values of fields, to be put back after a reset. -/
def Dev.save (d : Dev) (l : List FRef) : List (FRef × Nat) := l.map fun f => (f, d.rd f)

/-- Values put back. -/
def Dev.restore (d : Dev) (l : List (FRef × Nat)) : Dev := d.each l fun e d => d.wr e.1 e.2

/-- The fields of an operation's progress. -/
def progFields (p : Page) : List FRef :=
  [F.PG_PROG_POSITION p, F.PG_PROG_SEQ p, F.PG_PROG_PERCENT p, F.PG_STAT_BUSY p]

/-- The power state, and its transition while one is in progress, as PWR shows them. (DEDUCED, log 129.) -/
def Dev.powerFields (d : Dev) : List FRef :=
  [F.PWR_STATE_CUR, F.PWR_STATE_BUSY] ++ (if d.on F.PWR_STATE_BUSY then progFields .PWR else [])

/-- Whether the protection pair runs, and its halt, which only a pin, host or power-on reset ends (R271).
(DEDUCED, log 128.) -/
def pairFields : List FRef := [F.PROT_STAT_HALTED, F.PROT_STAT_RUNNING]

/-- The live fields of a page, whose hardware runs on through a reset. (DEDUCED, log 127, 130.) -/
def Dev.liveFields (d : Dev) (p : Page) : List FRef :=
  match p with
  | .PWR => [F.PWR_DOM_STAT_UP, F.PWR_DOM_STAT_TRANS, F.PWR_VMON_WARN, F.PWR_VMON_VDDA_LOW, F.PWR_VMON_VIN, F.PWR_IVR_FAULT]
  | .TIME 0 => [F.TIME_STEP_BUSY, F.TIME_STAT_PERIOD_PEND, F.TIME_STAT_ADDEND_PEND]
  | .SYS 1 => F.PG_STAT_READY p :: (if d.memory.clearAt.isSome then progFields p else [])
  | .LOOP 0 => [F.PG_STAT_READY p]
  | .ADC 0 => [F.ADC_GRPINJ_ACTIVE]
  | .STATION 0 => [F.STATION_PORT_STAT_RXLOCK 0, F.STATION_PORT_STAT_ANEG_DONE 0]
  | .STATION 1 => [F.STATION_PORT_STAT_RXLOCK 1, F.STATION_PORT_STAT_ANEG_DONE 1]
  | _ => []

/-- The further fields of a page that run on through a block reset of it, which stops no function that `ENABLE`
keeps. (DEDUCED, log 128.) -/
def Dev.blockFields (d : Dev) (p : Page) : List FRef :=
  match p with
  | .PWR => d.powerFields
  | .PROT => pairFields
  | .THERM => [F.THERM_STAT_COOLING, F.THERM_STAT_SHUTDOWN]
  | .SVCPORT => if d.rst.booting then F.SVCPORT_BOOT_STAGE :: progFields p else []
  | .RIM n => [F.RIM_STAT_TXON n, F.RIM_STAT_RXLOCK n]
  | .TANDEM 0 => [F.TANDEM_LINK_L0_LOCK, F.TANDEM_LINK_L1_LOCK]
  | .ADC 0 => [F.PG_STAT_READY p]
  | .EDGE q =>
    ((List.range 64).filter fun c => Page.EDGE q == (Reg.EDGE_CAR_CTRL c).page).flatMap fun c =>
      [F.EDGE_CAR_STAT_CPERIOD c, F.EDGE_CAR_STAT_RUN c, F.EDGE_CAR_STAT_ARMED c, F.EDGE_CAR_PSTART_NS_VAL c,
       F.EDGE_CAR_PSTART_SEC_VAL c]
  | _ => []

/-! ## Block resets (R31) -/

/-- The fault collector's own state after its page is reset (R290): level conditions stand. (DEDUCED, log 129.) -/
def fcLost (d : Dev) : Dev :=
  let byFc := d.pwr.shedByFc && d.rd F.PWR_STATE_CUR == 1
  let f := d.fc
  let d := { d with
    fc := { cond := f.cond, tripSetAt := f.tripSetAt, tripDrive := f.tripDrive, aliveOn := f.aliveOn
            aliveAt := f.aliveAt, kickAt := f.kickAt, kickLate := f.kickLate, quietSince := d.now }
    pwr := { d.pwr with shedByFc := false, runAtEnd := false } }
  d.when byFc (setCur 0 3)

/-- The trip outputs and ALIVE after SAFE page 0 is reset (R371). -/
def safeLost (d : Dev) : Dev :=
  { d with fc := { d.fc with tripSetAt := [], tripDrive := false, aliveOn := false, aliveAt := d.now, kickAt := d.now
                             kickLate := false } }

/-- The Scoreboard is copied (R289). -/
def copyScore (d : Dev) : Dev := (d.setWord .FC_LAST_LO (d.word .FC_SCORE_LO)).setWord .FC_LAST_HI (d.word .FC_SCORE_HI)

/-- What the rim port behind a page keeps: its enabling and its lane run on, with the frame in progress and the edges that
wait, which only a block withdraws (R23); the other queues and the runs are lost. -/
def RimState.fresh (r : RimState) : RimState :=
  { enabledAt := r.enabledAt, everLock := r.everLock, lockAt := r.lockAt, rescanAt := r.rescanAt, fseq := r.fseq
    freeAt := r.freeAt, frameDue := r.frameDue, blocked := r.blocked, relDue := r.relDue, pairDue := r.pairDue
    pairBypass := r.pairBypass, lastFrame := r.lastFrame, lastPair := r.lastPair, inFrame := r.inFrame, qEdge := r.qEdge }

/-- What the block behind a page loses with its registers (R31 and each block's rule). -/
def blockHidden (p : Page) (d : Dev) : Dev :=
  match p with
  | .CLK => { d with clk := { d.clk with draining := 0, fmonRun := false } }
  | .TIME 0 => timeRegs { d with time := { d.time with wdRun := false, pulses := [] } }
  | .TIME _ => { d with time := { d.time with tsqA := [], tsqB := [], tsqSnap := [] } }
  | .STATION q => stationReset q d
  | .TANDEM 0 => { d with tandem := { tandemLost d.tandem with lanesAt := d.now } }
  | .RIM n => d.setRim n (d.rim n).fresh
  | .SPOKE n => { d with spokes := d.spokes.filter fun e => rimOf e.1 != n }
  | .EDGE q =>
    let d := { d with edge := { d.edge with
      legs := d.edge.legs.map fun (e : Nat × Leg) =>
        if Page.EDGE q = (Reg.EDGE_LEG_CTRL e.1).page then (e.1, { e.2 with lastq := none }) else e
      cars := d.edge.cars.map fun (e : Nat × Carrier) =>
        if Page.EDGE q = (Reg.EDGE_CAR_CTRL e.1).page then (e.1, { e.2 with xfer := false, xferOld := false }) else e } }
    d
  | .ADC q => d.when (decide (1 ≤ q ∧ q ≤ 16)) (adcReset (q - 1))
  | .LOOP q =>
    if q < 8 then engineReset q d
    else d.when (q == 8) fun d => { d with loop := { d.loop with reqAt := [] } }
  | .DMA q => d.when (decide (1 ≤ q)) (dmaReset q)
  | .IR _ => { d with irOwner := d.irOwner.filter fun e => d.on (F.IR_SRC_ROUTE_ACTIVE e.1) }
  | .XSPI => { d with xspi := {} }
  | .SYS 1 => { d with memory := { d.memory with corrAt := [], scrub := 0 } }
  | .FC => fcLost d
  | .SAFE => safeLost d
  | .THERM => thermReset d
  | .KEYS 0 => showOtp (d.setSec fun s => { s with otpRun := none })
  | .KEYS 1 => d.setSec fun s => { s with vRun := none, watch := none }
  | .KEYS _ => d.setSec fun s => { s with aRun := none }
  | _ => d

/-- What a block reset does before the registers go: EN of carriers and legs falls with its effect (R179), and the
Scoreboard is copied (R289); a reference that changes with SRC settles anew (R183). -/
def blockBefore (p : Page) (d : Dev) : Dev :=
  match p with
  | .EDGE q =>
    let d := d.each ((List.range 64).filter fun c => Page.EDGE q == (Reg.EDGE_CAR_CTRL c).page) carOff
    d.each ((List.range 1024).filter fun l => Page.EDGE q == (Reg.EDGE_LEG_CTRL l).page && d.on (F.EDGE_LEG_CTRL_EN l))
      fun l d => d.wr (F.EDGE_LEG_CTRL_EN l) 0
  | .FC => copyScore d
  | .ADC 0 => d.when (d.on F.ADC_REF_SRC) refSettle
  | _ => d

/-- LINK shows the receiver that runs on. (DEDUCED, log 133.) -/
def liveLink (x : Nat) (d : Dev) : Dev := d.wr (F.STATION_PORT_STAT_LINK x) (b2n (d.linkOf x))

/-- What a block reset does to a page and the block behind it (R31). -/
def resetPage (p : Page) (d : Dev) : Dev :=
  let d := blockBefore p d
  let live := d.save (d.liveFields p ++ d.blockFields p)
  let d := { d with
    regs := d.regs.resetBy (some .B) fun r => r.page == p
    unlocks := d.unlocks.filter fun u => u.1 != p
    blockResets := d.blockResets.filter fun q => q != p }
  let d := blockHidden p (d.restore live)
  match p with
  | .FC => d.latchAsserted
  | .STATION 0 => liveLink 0 d
  | .STATION 1 => liveLink 1 d
  | _ => d

/-- A block reset acts: fields not kept by B take their reset values, and SOFT_RESET clears (R31). An unlock sequence that
is open on the page closes without KEY_FAIL: the manual does not say what becomes of it (DESIGN CHOICE, log 166). A
test force that SYS page 0 loses ends its assertions, and where FC page 0 loses what held ALIVE, its next transition is
one half period away (R277, R280, R285). (DEDUCED, log 57.) -/
def blockReset (p : Page) (d : Dev) : Dev :=
  match p with
  | .SYS 0 => changeAsserted (resetPage p) d
  | .FC => changeAlive (resetPage p) d
  | _ => resetPage p d

/-- Whether the drain of a page's block reset can be over: the aborts of a DMA page's channels end with their write-backs
(R319). (DEDUCED, log 94.) -/
def Dev.drained (d : Dev) (p : Page) : Bool :=
  match p with
  | .DMA q => q == 0 || (List.range 8).all fun i => !d.on (F.DMA_CH_STAT_RUN (8 * (q - 1) + i))
  | _ => true

/-- BLOCK_RESET_DRAINED (R31): the drain of a page's block reset ends; `forced` says that it was still open after
1,024 BUSCLK cycles (R76). A SOFT_RESET written at this very instant stays set (R5): a new reset starts. -/
def execBlockResetDrained (p : Page) (forced : Bool) : State → Out := liftDev fun d =>
  d.when (d.blockResets.contains p && (forced || d.drained p)) fun d =>
    let again := d.againOne (.PG_CTRL p) 1
    let d := landFirst (blockReset p) (d.when forced fun d => d.blkErr .CLK 18)
    d.when again (startBlockReset p)

/-! ## Pin, host, safety and power-on resets (R362 to R369) -/

/-- The kind letter of a hold (R362); none for power-on. -/
def holdKind (h : Nat) : Option Keep :=
  match h with
  | 2 => some .P | 3 => some .H | 4 => some .S | _ => none

/-- The live fields of every page, and those that a safety reset keeps besides (R356, R364). (DEDUCED, log 127, 128, 129.) -/
def Dev.allLive (d : Dev) (h : Nat) : List FRef :=
  allPages.flatMap d.liveFields ++ (if h = 4 then d.powerFields ++ [F.PROT_STAT_HALTED] else [])

/-- Every block loses what no reset of kind `h` leaves it (R364, R369): pages, engines and memory controllers. The
clock root, the timebase, the memories, the supplies' comparators and the OTP stand. (DEDUCED, log 127, 129, 130.) -/
def wholeReset (h : Nat) (d : Dev) : Dev :=
  let live := d.save (d.allLive h)
  let d := { d with regs := d.regs.resetBy (holdKind h) fun _ => true, unlocks := [], blockResets := [], irOwner := []
                    rimHalt := 0 }
  let keepPort (p : StationPort) : StationPort := { lockAt := p.lockAt }
  let d := { d with
    clk := { d.clk with draining := 0, fmonRun := false }
    time := { d.time with wdRun := false, pulses := [], tsqA := [], tsqB := [], tsqSnap := [] }
    rims := [], spokes := [], edge := {}, adc := {}, dma := {}, xspi := {}, therm := {}
    loop := { cstat := d.loop.cstat, tdone := d.loop.tdone, sstat := d.loop.sstat, outputs := d.loop.outputs }
    tandem := { claimGen := d.tandem.claimGen }
    station := { ports := d.station.ports.map fun (e : Nat × StationPort) => (e.1, keepPort e.2) }
    memory := { d.memory with corrAt := [], scrub := 0, sscrub := 0 }
    fc := { cond := d.fc.cond &&& (2 ^ 50 + 2 ^ 51), quietSince := d.now } }
  let s := d.sec
  let d := { d with
    sec := { otp := s.otp, protPc := s.protPc, svcPc := s.svcPc }
    pwr := if h = 4 then { d.pwr with shedByFc := false, runAtEnd := false }
      else { upwards := d.pwr.upwards, kept := d.pwr.kept, warnAt := d.pwr.warnAt, warnLong := d.pwr.warnLong
             measAt := d.pwr.measAt, vddaBad := d.pwr.vddaBad, vddaAt := d.pwr.vddaAt } }
  liveLink 0 (liveLink 1 (showOtp (timeRegs (d.restore live))))

/-- The order of reach of the kinds (R366): power-on, then P, H and S, then V. -/
def reachOf (h : Nat) : Nat := if h = 1 then 3 else if h = 5 then 1 else if h = 0 then 0 else 2

/-- A service reset acts at entry (R362, R363, R365). An unlock sequence that is open on STATION page 15 stays open: the
manual does not say (DESIGN CHOICE, log 166). -/
def serviceEntry (d : Dev) : Dev :=
  let svc (s : Nat) : Bool := decide (d.rd (F.IR_SRC_ROUTE_TARGET s) < 8)
  let d := { d with regs := d.regs.resetBy (some .V) fun r => r.page == .STATION 15 }
  let d := stationReset 15 d
  let d := d.each (List.range 8) fun j d => d.wr (F.STATION_SES_CTRL_EN j) 0
  let d := d.each ((List.range 256).filter fun s => d.on (F.IR_SRC_ROUTE_ACTIVE s) && svc s) fun s d =>
    d.wr (F.IR_SRC_ROUTE_ACTIVE s) 0
  { d with irOwner := d.irOwner.filter fun e => d.on (F.IR_SRC_ROUTE_ACTIVE e.1) }

/-- A cause of a reset of kind `h` arises (R364, R366): its hold begins or, in a hold of narrower or equal reach,
restarts; in one of wider reach it is only recorded. (DEDUCED, log 127.) -/
def enterReset (h : Nat) (d : Dev) : Dev :=
  let d := { d with rst := { d.rst with kinds := d.rst.kinds ||| 2 ^ (h - 1) } }
  let held := decide (2 ≤ d.rst.hold ∧ d.rst.hold ≤ 4)
  if reachOf h < reachOf d.rst.hold then d
  else
    let d := { d with rst := { d.rst with hold := h, since := d.now, booting := false } }
    if h = 5 then serviceEntry d
    else
      let d := wholeReset h (d.when (!held) copyScore)
      { d with rst := { d.rst with bootDone := false, go := false, bank := 0, dir := [], bankProg := [], bankErr := 0 } }

/-- A host reset from an origin, with its boot source (R368). -/
def hostReset (src : Nat) (ovr : Option Nat) (d : Dev) : Dev :=
  let d := if reachOf d.rst.hold ≤ 2 then { d with rst := { d.rst with hostSrc := src, override_ := ovr } } else d
  enterReset 3 d

/-- A write to `RST.REQ` (R368). The classes that may make a request are judged with the access. -/
def reqWrite : Effect := fun m v _ d =>
  if bitsOf v 16 16 ≠ 0xD1CE then d.blkErr .RST 16
  else
    match bitsOf v 0 3 with
    | 1 =>
      let src := if m = 11 then (match d.station.rraQ with | q :: _ => q.port + 1 | [] => 0) else 0
      hostReset src (if bitAt v 4 then some (bitsOf v 5 2) else none) d
    | 2 => enterReset 4 d
    | 3 => enterReset 5 d
    | _ => d

/-- RESET_HOST (R368). -/
def execResetHost (m : Nat) (v : Word) : State → Out := writeRow reqWrite m .RST_REQ v.toNat
/-- RESET_SAFETY (R368). -/
def execResetSafety (m : Nat) (v : Word) : State → Out := writeRow reqWrite m .RST_REQ v.toNat
/-- RESET_SERVICE (R365). -/
def execResetService (m : Nat) (v : Word) : State → Out := writeRow reqWrite m .RST_REQ v.toNat

/-- PIN_RESET (R367): a low pulse that the filter accepts. Before VIN release it is only noted. -/
def execPinReset : State → Out := liftDev fun d =>
  let d := { d with rst := { d.rst with pinLow := true } }
  d.when d.rst.vinUp (enterReset 2)

/-- RESET_N_RISE (R367): the 10 us remainder of the hold begins. -/
def execResetNRise : State → Out := liftDev fun d =>
  d.when d.rst.pinLow fun d => { d with rst := { d.rst with
    pinLow := false, since := if 2 ≤ d.rst.hold ∧ d.rst.hold ≤ 4 then d.now else d.rst.since } }

/-! ## Power-on (R346, R362, R372) -/

/-- The registers that show the OTP outside the KEYS pages: the UID and the factory trims (R382).
(DESIGN CHOICE, log 2.) -/
def showFactory (d : Dev) : Dev :=
  let u := d.sec.otp.uid.toNat
  let d := (d.setWord .SVCPORT_ID2 (u / 2 ^ 32)).setWord .SVCPORT_ID3 (u % 2 ^ 32)
  d.each (List.range 16) fun c d => d.setWord (.ADC_CALVAL c) (mget 0 d.sec.otp.trims c).toNat

/-- SAFE and TIME, which are always on, are up. -/
def coreUp (d : Dev) : Dev := (d.setBit F.PWR_DOM_STAT_UP domSAFE).setBit F.PWR_DOM_STAT_UP domTIME

/-- POWER_ON_RESET (R346, R372): VIN is released; everything but the OTP and the comparators stands at its reset
value, and the straps are sampled. (DESIGN CHOICE, log 3; DEDUCED, log 132.) -/
def execPowerOnReset (bootsrc : BitVec 2) (tandemId : Bool) : State → Out := fun s =>
  let d := s.dev
  if d.rst.vinUp then .next s
  else
    let live := d.save (d.liveFields .PWR)
    let n : Dev := { now := d.now, freeCount := d.freeCount, gpio := d.gpio
                     pwr := { warnAt := d.pwr.warnAt, warnLong := d.pwr.warnLong, vddaBad := d.pwr.vddaBad
                              vddaAt := d.pwr.vddaAt, measAt := d.now }
                     rst := { pinLow := d.rst.pinLow, vinUp := true, since := d.now }
                     fc := { cond := d.fc.cond &&& (2 ^ 50 + 2 ^ 51) }
                     sec := { otp := d.sec.otp } }
    let n := (n.restore live).setWord .RST_STRAP (b2n tandemId * 16 + bootsrc.toNat)
    .next { s with dev := showFactory (showOtp (coreUp n)), mem := [] }

/-! ## Release (R362, R363, R366, R378) -/

/-- The boot starts at stage 0 (R378), from the source that the strap or a host reset names (R368).
(DESIGN CHOICE, log 3; DEDUCED, log 128.) -/
def startBoot (d : Dev) : Dev :=
  let ovr := d.rst.override_
  let d := (d.wr F.RST_CAUSE_OVR (b2n ovr.isSome)).wr F.RST_STRAP_EFF_SRC (ovr.getD (d.rd F.RST_STRAP_BOOTSRC))
  let d := (d.wr F.SVCPORT_BOOT_STAGE 0).progStart .SVCPORT 0 255
  let runs := d.clk.pllS.released && !d.on F.PROT_STAT_HALTED
  { d.wr F.PROT_STAT_RUNNING (b2n runs) with rst := { d.rst with booting := true, override_ := none } }

/-- The domains other than SAFE, TIME and STATION that the release is to power up wait for the cooling judgement
(R296); the others begin to switch at once. -/
def powerUp (d : Dev) : Dev :=
  let waits := (List.range 10).filter fun i => decide (3 ≤ i) && d.wanted i && !d.domUp i
  let mask := waits.foldl (fun a i => a + 2 ^ i) 0
  let d := { d with pwr := { d.pwr with cooling := mask }, therm := { d.therm with judged := false } }
  applyWanted (d.wr F.THERM_STAT_COOLING (b2n (mask != 0)))

/-- The counts and the record of the kinds that arose (R366, `RST.CAUSE` and `RST.COUNT`). (DEDUCED, log 131.) -/
def recordKinds (d : Dev) : Dev :=
  let k := d.rst.kinds
  let d := d.when (bitAt k 1) fun d => d.count F.RST_COUNT_PIN
  let d := d.when (bitAt k 2) fun d => d.count F.RST_COUNT_HOST
  let d := d.when (bitAt k 3) fun d => d.count F.RST_COUNT_SAFETY
  let d := d.when (bitAt k 4) fun d => d.count F.RST_COUNT_SERVICE
  let d := (d.wr F.RST_CAUSE_KINDS k).when (bitAt k 2) fun d => d.wr F.RST_CAUSE_HOSTSRC d.rst.hostSrc
  { d with rst := { d.rst with kinds := 0, hold := 0, hostSrc := 0 } }

/-- The release of a service reset: the cores restart at `RST.SVC_ENTRY` where RELEASE.SVC is 1 (R365). -/
def serviceRelease (d : Dev) : Dev :=
  (recordKinds d).when (d.on F.RST_RELEASE_SVC) fun d => d.setSec fun s => { s with svcPc := d.rd F.RST_SVC_ENTRY_ADDR }

/-- The release of a power-on, pin, host or safety reset. (DEDUCED, log 127.) -/
def wholeRelease (h : Nat) (d : Dev) : Dev :=
  let d := if h = 1 then coreUp d else wholeReset h d
  let d := recordKinds d
  (startBoot (powerUp d)).latchAsserted

/-- RESET_RELEASE (R362): the hold ends: at VIN release, 10 us after the entry or after RESET_N has risen, or 1 us
after the entry. A RESET_N that is low at VIN release holds the device in a pin reset. (DEDUCED, log 126, 132.) -/
def execResetRelease : State → Out := liftDev fun d =>
  match d.rst.hold with
  | 0 => d
  | 1 =>
    if ¬ d.rst.vinUp then d
    else if d.rst.pinLow then
      coreUp { d with rst := { d.rst with hold := 2, kinds := d.rst.kinds ||| 2, since := d.now } }
    else wholeRelease 1 d
  | 5 => serviceRelease (d.jumpTo (d.rst.since + 1000))
  | h => if d.rst.pinLow then d else wholeRelease h (d.jumpTo (d.rst.since + 10000))

end Sys2Proof.Machine
end

