-- ==== Sys2Proof/Machine/Write.lean ====
section
/-!
DEFINITION. Sys2Proof/Machine/Write.lean: what a write to each register does: the effect of the register's own chapter,
or the access codes of R4 where it has none.
-/
namespace Sys2Proof.Machine

/-! ## PG_CTRL (R31, R35) -/

/-- What follows when a page's `ENABLE` rises. -/
def pageEnabled (p : Page) (d : Dev) : Dev :=
  match p with
  | .RIM n => rimEnable n d
  | .TANDEM 0 => tandemEnable d
  | .ADC 0 => refSettle d
  | _ => d

/-- What follows when a page's `ENABLE` falls. -/
def pageDisabled (p : Page) (d : Dev) : Dev :=
  match p with
  | .RIM n => rimDisable n d
  | .TANDEM 0 => tandemDisable d
  | .ADC 0 => { d.wr (F.PG_STAT_READY p) 0 with adc := { d.adc with settling := false } }
  | _ => d

/-- `ENABLE` of a page changes. -/
def enableChange (p : Page) (new : Bool) (d : Dev) : Dev :=
  let d := d.wr (F.PG_CTRL_ENABLE p) (b2n new)
  if new then pageEnabled p d else pageDisabled p d

/-- A write leaves `ENABLE` at `new`; a change for a rim, under which cells may be released, comes after a step of the
timebase that is BUSY (R90). -/
def enableTo (p : Page) (new : Bool) (d : Dev) : Dev :=
  if d.enabled p = new then d
  else match p with
    | .RIM _ => landFirst (enableChange p new) d
    | _ => enableChange p new d

/-- A block reset of a page is asked for: the channels of a DMA page are aborted first (R319). (DEDUCED, log 135.) -/
def askReset (p : Page) (d : Dev) : Dev :=
  let d := match p with
    | .DMA q =>
      d.when (decide (1 ≤ q) && d.rst.hold == 0) fun d => d.each ((List.range 8).map fun i => 8 * (q - 1) + i) dmaAbort
    | _ => d
  startBlockReset p d

/-- A write to `PG_CTRL`: ENABLE where it may change, EXPERT_EN cleared by a 1, and a block reset started by a 1 of
SOFT_RESET that LOCK_CTRL does not freeze. -/
def pgCtrlWrite (p : Page) : Effect := fun _ v w d =>
  let v := d.ack (.PG_CTRL p) v
  let d := (enableTo p (bitAt w 0) d).when (bitAt v 2) fun d => d.wr (F.PG_CTRL_EXPERT_EN p) 0
  d.when (bitAt v 1 && !d.on (F.PG_LOCK_LOCK_CTRL p)) (askReset p)

/-! ## Registers of the reset and boot logic -/

/-- A write to `RST.RELEASE`: setting SVC starts the service cores at `SVC_ENTRY`. -/
def releaseWrite : Effect := fun _ _ w d =>
  let was := d.on F.RST_RELEASE_SVC
  let d := d.setWord .RST_RELEASE w
  d.when (!was && d.on F.RST_RELEASE_SVC) fun d => d.setSec fun s => { s with svcPc := d.rd F.RST_SVC_ENTRY_ADDR }

/-- A write to `SVCPORT.GO` (R373, R378): it ends stage 4's wait where the boot source is staging RAM. -/
def goWrite : Effect := fun _ _ _ d =>
  d.when (d.rst.booting && d.rd F.SVCPORT_BOOT_STAGE == 4 && d.rd F.RST_STRAP_EFF_SRC == 1) fun d =>
    { d with rst := { d.rst with go := true } }

/-! ## Every register -/

/-- The effect of a write to a register, with the memory that the effect may read. -/
def regEffect (mem : List Host.Cell) (r : Reg) : Effect :=
  match r with
  | .PG_CTRL p => pgCtrlWrite p
  | .PG_KEY p => keyWrite p
  | .PG_LOCK p => lockWrite p
  | .PG_ERRFORCE p => errForceWrite p
  | .SYS_BERR_INFO => captureWrite r (some F.SYS_BERR_INFO_COUNT)
  | .SYS_ECC_INFO => captureWrite r (some F.SYS_ECC_INFO_COUNT)
  | .FC_FIRST | .EDGE_LATEINFO | .LOOP_NANINFO _ => captureWrite r none
  | .SYS_TFORCE_LO | .SYS_TFORCE_HI | .FC_FORCE_LO | .FC_FORCE_HI => forceWrite r
  | .SYS_THROTTLE_REQ | .THERM_THROTTLE => throttleWrite r
  | .SYS_UPD_SET => updSetWrite
  | .IR_TGT_CLAIM j => claimWrite j
  | .IR_TGT_THRESH j => threshWrite j
  | .IR_SWI => swiWrite
  | .CLK_ROOT => rootWrite
  | .CLK_PLLM_CFG => pllmCfgWrite
  | .CLK_PLLS_CFG => pllsCfgWrite
  | .CLK_OUT_CFG n => outCfgWrite n
  | .CLK_PHASE_POLICY => phasePolicyWrite
  | .CLK_DOMSEL => domselWrite
  | .CLK_GATE => gateWrite
  | .CLK_FMON_CFG => fmonCfgWrite
  | .TIME_ADDEND => addendWrite
  | .TIME_ADJ_NS => adjWrite
  | .TIME_ADJ_CFG => adjCfgWrite
  | .TIME_STEP => stepWrite
  | .TIME_DIST => periodWrite
  | .TIME_WD_CFG => wdCfgWrite
  | .TIME_WD_KICK => wdKickWrite
  | .RIM_CTRL n => rimCtrlWrite n
  | .RIM_FW_CTRL n => fwCtrlWrite n
  | .SPOKE_CTRL k => spokeCtrlWrite k
  | .SPOKE_SAFE_STATE k | .SPOKE_WDOG k => spokeCfgWrite k r
  | .SPOKE_PAR k _ => spokeCfgWrite k r
  | .EDGE_CAR_CTRL c => carCtrlWrite c
  | .EDGE_CAR_XFER c => xferWrite c
  | .EDGE_LEG_CTRL l => legCtrlWrite l
  | .EDGE_LEG_DT l => dtWrite l
  | .EDGE_LEG_MINP l => minpWrite l
  | .ADC_CTRL c => adcCtrlWrite c
  | .ADC_SEL c => selWrite c
  | .ADC_INJ c => injWrite c
  | .ADC_CAL c => calWrite c
  | .ADC_REF => refWrite
  | .ADC_DAC p => dacWrite p
  | .ADC_DIAG_CFG p => diagCfgWrite p
  | .LOOP_CTRL e => loopCtrlWrite mem e
  | .LOOP_SWAP => swapWrite
  | .LOOP_GRP_CFG g => grpCfgWrite g
  | .LOOP_TRACE_CTRL e => traceCtrlWrite e
  | .LOOP_TRACE_CFG e | .LOOP_TRACE_TRIG e | .LOOP_TRACE_LEVEL e => traceCfgWrite e r
  | .LOOP_TRACE_NODE e _ => traceCfgWrite e r
  | .LOOP_RUNMAX e => runmaxWrite e
  | .TANDEM_MCTRL => mctrlWrite mem
  | .SAFE_CLAIM_CTRL => claimCtrlWrite
  | .FC_SCORE_LO => scoreWrite false
  | .FC_SCORE_HI => scoreWrite true
  | .FC_CLASS n => classWrite n
  | .FC_CTRL => fcCtrlWrite
  | .FC_CFG | .SAFE_BLOCK | .SAFE_BLOCK_CFG => landFirstWrite (plainEffect r)
  | .SAFE_TRIP => tripWrite
  | .SAFE_TRIP_CFG => tripCfgWrite
  | .SAFE_ALIVE => aliveWrite
  | .SAFE_ALIVE_KICK => aliveKickWrite
  | .PWR_STATE => stateWrite
  | .PWR_DOM => domWrite
  | .PWR_VMIN => vminWrite
  | .RST_REQ => reqWrite
  | .RST_RELEASE => releaseWrite
  | .SVCPORT_GO => goWrite
  | .XSPI_CMD => xspiCmdWrite []
  | .XSPI_DATA => xspiDataWrite
  | .DMA_CH_CTRL h => dmaCtrlWrite h
  | .STATION_PORT_CFG x => portCfgWrite x
  | .STATION_PORT_TXD0 x => txd0Write x
  | .STATION_PORT_TXDATA x => txDataWrite x
  | .STATION_RED_CFG => redCfgWrite
  | .STATION_SUB_CFG s => subCfgWrite s
  | .STATION_GSUB_CFG g => gsubCfgWrite g
  | .STATION_PUB_CTRL u => pubCtrlWrite u
  | .STATION_PUB_DATA u => pubDataWrite u
  | .STATION_PUB_TPL u i => pubTplWrite u i
  | .STATION_SES_CTRL j => sesCtrlWrite j
  | .STATION_SES_PEER_LO j | .STATION_SES_PEER_HI j | .STATION_SES_SALT j | .STATION_SES_WBASE j
  | .STATION_SES_WSIZE j => sesWrite j r
  | .STATION_SES_KEY j i => sesKeyWrite j i
  | .KEYS_OTP_CTRL => otpCtrlWrite mem
  | .KEYS_V_CTRL => vCtrlWrite mem
  | .KEYS_A_CTRL => attestCtrlWrite
  | .PROT_CTRL => protCtrlWrite
  | r => plainEffect r

/-- The memory that a write to a register changes at once: the public key that `KEYS.A_CTRL` asks for (R399). -/
def regEffs (m : Nat) (r : Reg) (v : Nat) (d : Dev) : List MemEff :=
  match r with
  | .KEYS_A_CTRL => attestCtrlEffs m v d
  | _ => []

/-! ## Commands that write PG_CTRL, RST and SVCPORT -/

/-- EXPERT_EN_CLEAR (R35). -/
def execExpertEnClear (m : Nat) (p : Page) (v : Word) : State → Out := writeRow (pgCtrlWrite p) m (.PG_CTRL p) v.toNat

/-- SOFT_RESET (R31). -/
def execSoftReset (m : Nat) (p : Page) (v : Word) : State → Out := writeRow (pgCtrlWrite p) m (.PG_CTRL p) v.toNat

/-- RIM_ENABLE (R133). -/
def execRimEnable (m : Nat) (n : Fin 32) (v : Word) : State → Out :=
  writeRow (pgCtrlWrite (.RIM n)) m (.PG_CTRL (.RIM n)) v.toNat

/-- RIM_DISABLE (R433). -/
def execRimDisable (m : Nat) (n : Fin 32) (v : Word) : State → Out :=
  writeRow (pgCtrlWrite (.RIM n)) m (.PG_CTRL (.RIM n)) v.toNat

/-- SVCPORT_GO (R373). -/
def execSvcportGo (m : Nat) (v : Word) : State → Out := writeRow goWrite m .SVCPORT_GO v.toNat

end Sys2Proof.Machine
end

