-- ==== Sys2Proof/Machine/Read.lean ====
section
/-!
DEFINITION. Sys2Proof/Machine/Read.lean: what a read of each register gives: the stored word, the fields that follow
the state of the hardware, and what a read itself changes.
-/
namespace Sys2Proof.Machine

/-- A word with its write-only fields reading 0 (R4). -/
def maskWo (r : Reg) (w : Nat) : Nat :=
  r.fields.foldl (fun w f => if f.acc == .WO then putBits w f.lo (f.hi + 1 - f.lo) 0 else w) w

/-- `n` truth values as bits. -/
def maskOf (n : Nat) (f : Nat → Bool) : Nat := sumOver n fun i => b2n (f i) * 2 ^ i

/-- Whether a pin, host or safety reset holds the device (R362). -/
def Dev.inHold (d : Dev) : Bool := decide (2 ≤ d.rst.hold ∧ d.rst.hold ≤ 4)

/-- A stored word with some fields replaced by what they show; in a hold they read as they are stored, at their reset
values (R363). -/
def Dev.showing (d : Dev) (r : Reg) (l : List (FRef × Nat)) : Nat :=
  if d.inHold then d.word r else l.foldl (fun w e => putBits w e.1.lo e.1.w e.2) (d.word r)

/-- READY of a page (R31): of shared SRAM, of the LOOP memories and of the reference as they say; otherwise the block
is enabled and serves. (DEDUCED, log 134.) -/
def Dev.pageReady (d : Dev) (p : Page) : Bool :=
  match p with
  | .SYS 1 | .LOOP 0 | .ADC 0 => d.on (F.PG_STAT_READY p)
  | _ => d.enabled p && !d.pageGated p false

/-- Whether an engine's run is in progress. -/
def Dev.loopRuns (d : Dev) (e : Nat) : Bool := (d.eng e).run.isSome

/-- POSITION and PERCENT of an operation whose progress only time drives: the zero-fill of shared SRAM (R304), a
calibration (R200) and a verification (R389). -/
def Dev.progress (d : Dev) (p : Page) : Option (Nat × Nat) :=
  match p with
  | .SYS 1 =>
    d.memory.clearAt.map fun t =>
      let n := min 786431 ((d.now - t) / max 1 (d.busNs 1))
      (n / 128, n * 100 / 786432)
  | .ADC q =>
    if q = 0 ∨ 16 < q then none
    else (d.conv (q - 1)).cal.map fun t =>
      let n := min 2047 ((d.now - t) * 1000 / (20 * max 1 d.adcPs))
      (n, n * 100 / 2048)
  | .KEYS 1 => d.vProgress
  | _ => none

/-- The lowest-addressed page whose error line is asserted (`IR.ERRNEXT`). -/
def Dev.errNext (d : Dev) : Nat :=
  match allPages.find? d.errLine with
  | some p => (Reg.PG_ID p).addr
  | none => 0xFFFFFFFF

/-- The levels sensed at the TRIPn balls: those that the drivers give; of a driver that is off, a value that the
manual leaves to the external pulls (R370). (DESIGN CHOICE, log 122.) -/
def Dev.tripBalls (d : Dev) : Nat :=
  maskOf 8 fun n => match d.tripLevel n with
    | some b => b
    | none => bitAt d.free n

/-- Quiet time in ms (`FC.STATE.QUIET_MS`). (DEDUCED, log 123.) -/
def Dev.quietMs (d : Dev) : Nat := if d.assertedFrom 4 then 0 else min 65535 ((d.now - d.fc.quietSince) / 1000000)

/-- `CLAIM_STAT.OBEYED`: a frame of the last 1 ms carried the unit's own non-zero claim. -/
def Dev.obeyed (d : Dev) : Bool := d.tandem.ownSeen && d.claim != 0 && decide (d.now ≤ d.tandem.ownAt + 1000000)

/-- Edges queued in the last complete millisecond of the timebase (`EDGE.LOAD`). -/
def Dev.epms (d : Dev) : Nat :=
  let ms := d.tns / 1000000
  if ms = d.edge.loadMs then d.rd F.EDGE_LOAD_EPMS else if ms = d.edge.loadMs + 1 then d.edge.load else 0

/-- The word that a read of a register gives (R363: live fields). -/
def Dev.liveWord (d : Dev) (m : Nat) (r : Reg) : Nat :=
  match r with
  | .PG_STAT p =>
    d.showing r ((F.PG_STAT_READY p, b2n (d.pageReady p)) ::
      (if p = .FC then [(F.PG_STAT_DEGRADED p, b2n (!d.replaceN))] else []))
  | .PG_PROG p =>
    match d.progress p with
    | some x => d.showing r [(F.PG_PROG_POSITION p, x.1), (F.PG_PROG_PERCENT p, x.2)]
    | none => d.word r
  | .IR_SRC_ROUTE s =>
    d.showing r [(F.IR_SRC_ROUTE_LINE s, b2n (d.irLine s)), (F.IR_SRC_ROUTE_PEND s, b2n (d.irPend s))]
  | .IR_PEND n => maskOf 32 fun i => d.irPend (32 * n + i)
  | .IR_SWI => maskOf 5 fun i => d.irPend (136 + i)
  | .IR_ERRNEXT => d.errNext
  | .CLK_ROOTSTAT => d.showing r [(F.CLK_ROOTSTAT_CELLS_BLOCKED, b2n d.cellsBlocked)]
  | .CLK_PHASE_ERR =>
    if d.on F.CLK_PLLM_STAT_SLEWING then d.showing r [(F.CLK_PHASE_ERR_REMAIN, unsignedOf 16 d.slewRemain)] else d.word r
  | .TIME_NOW_SUB => d.snapOf m % nsUnit / 2 ^ 13
  | .TIME_NOW_SEC_LO => d.snapOf m / secUnit % 2 ^ 32
  | .TIME_NOW_SEC_HI => d.snapOf m / secUnit / 2 ^ 32 % 2 ^ 32
  | .TIME_STAT =>
    d.showing r [(F.TIME_STAT_DETERM, d.rd F.CLK_PLLM_STAT_DETERM), (F.TIME_STAT_HOLDOVER, d.rd F.CLK_PLLM_STAT_FREEWHEEL)]
  | .TIME_PORT_TSQ_STAT x => d.showing r [(F.TIME_PORT_TSQ_STAT_COUNT x, (d.time.tsq x).length)]
  | .TIME_PORT_TSQ_W1 x => d.tsqWord m x 1
  | .TIME_PORT_TSQ_W2 x => d.tsqWord m x 2
  | .TIME_PORT_TSQ_W3 x => d.tsqWord m x 3
  | .STATION_PORT_RXD1 x => d.rxWord m x 1
  | .STATION_PORT_RXD2 x => d.rxWord m x 2
  | .STATION_PORT_RXD3 x => d.rxWord m x 3
  | .TANDEM_TRANS n =>
    d.showing r [(F.TANDEM_TRANS_VALID n, b2n (d.trans n).isSome), (F.TANDEM_TRANS_NS n, (d.trans n).getD 0)]
  | .TANDEM_STAT => d.showing r [(F.TANDEM_STAT_NSILENT, d.nSilent), (F.TANDEM_STAT_TAKE_READY, b2n d.takeReady)]
  | .TANDEM_SILENT => maskOf 32 d.rimSilent
  | .TANDEM_TAKEBOUND =>
    d.showing r [(F.TANDEM_TAKEBOUND_VALID, b2n d.takeBound.isSome), (F.TANDEM_TAKEBOUND_NS, d.takeBound.getD 0)]
  | .EDGE_STAT =>
    d.showing r [(F.EDGE_STAT_ANY_LEG, b2n d.anyLeg), (F.EDGE_STAT_CELLS_BLOCKED, b2n d.cellsBlocked),
      (F.EDGE_STAT_GEN_BUSY, b2n (!d.edge.gens.isEmpty || decide (d.tns < d.edge.genAt)))]
  | .EDGE_LOAD => d.showing r [(F.EDGE_LOAD_EPMS, d.epms)]
  | .EDGE_BLKMASK => d.blockMask
  | .LOOP_STAT e =>
    if d.loopRuns e then d.word r
    else d.showing r [(F.LOOP_STAT_RUNNING e, 0), (F.LOOP_STAT_WAITING e, 0)]
  | .DMA_ERRSUM => maskOf 32 fun h => d.on (F.DMA_CH_EVT_ERR h)
  | .SVCPORT_CAUSE => d.word .RST_CAUSE
  | .SVCPORT_STRAP => d.word .RST_STRAP
  | .SVCPORT_ROOTSTAT => d.showing .CLK_ROOTSTAT [(F.CLK_ROOTSTAT_CELLS_BLOCKED, b2n d.cellsBlocked)]
  | .SVCPORT_LAST_LO => d.word .FC_LAST_LO
  | .SVCPORT_LAST_HI => d.word .FC_LAST_HI
  | .FC_LIVE_LO => d.assertedMask false
  | .FC_LIVE_HI => d.assertedMask true
  | .FC_STATE => d.showing r [(F.FC_STATE_QUIET_MS, d.quietMs)]
  | .SAFE_CLAIM_STAT => d.showing r [(F.SAFE_CLAIM_STAT_OBEYED, b2n d.obeyed)]
  | .SAFE_TRIP_STAT => d.showing r [(F.SAFE_TRIP_STAT_BALL, d.tripBalls)]
  | .SAFE_BLOCK_STAT => d.blockMask
  | .THERM_THROTTLE => d.showing r [(F.THERM_THROTTLE_EFF, d.throttle)]
  | r => maskWo r (d.word r)

/-- A read of a register by a master: its word, and what the read itself changes. -/
def regRead (m : Nat) (r : Reg) (d : Dev) : Nat × Dev :=
  match r with
  | .TIME_NOW_NS => nowRead m d
  | .TIME_PORT_TSQ_W0 x => tsqPop m x d
  | .IR_TGT_CLAIM j => irClaim j d
  | .STATION_PORT_RXD0 x => rxPop m x d
  | .STATION_PORT_RXDATA x => rxData x d
  | .ADC_RES c => fifoPop c d
  | .XSPI_DATA => xspiPop d
  | .PG_PROG (.KEYS 2) =>
    let d := attestTries d
    (d.word r, d)
  | .SAFE_TRIP_STAT => (d.liveWord m r, if d.fc.tripDrive then d else d.taken)
  | r => (d.liveWord m r, d)

end Sys2Proof.Machine
end

