-- ==== Sys2Proof/Machine/Access.lean ====
section
/-!
DEFINITION. Sys2Proof/Machine/Access.lean: a bus access to any address (R28, R39 to R43, R300 to R302), and the items of
remote register access (R342).
-/
namespace Sys2Proof.Machine

/-! ## Memory -/

/-- Whether a size in bytes and an alignment are ones that memory accepts (R28). -/
def memShape (a n : Nat) : Bool := [1, 2, 4, 8, 16, 32].contains n && a % n == 0

/-- Whether a range's words carry check bits (R300). -/
def MemRange.hasEcc : MemRange → Bool
  | .rom => false
  | _ => true

/-- The response of a memory access before any DATA error (R41). -/
def Dev.memCode (d : Dev) (m : Nat) (r : MemRange) (write : Bool) : RespCode :=
  if !d.allowed m (.mem r) write then .violation else if d.memGated r then .gated else .okay

/-- Words that the access reads meet the bit errors that they hold. -/
def meetErrors (r : MemRange) (a n : Nat) (errs : List EccErr) (d : Dev) : Dev :=
  d.when r.hasEcc fun d => eccMeet (wordsOf a n) errs d

/-- A read of memory (R301). -/
def memReadAcc (m : Nat) (r : MemRange) (a n : Nat) (errs : List EccErr) (mem : List Host.Cell) (d : Dev) : Dev :=
  match d.memCode m r false with
  | .okay =>
    let d := meetErrors r a n errs d
    if r.hasEcc && d.touchesBad a n then busError m a false false .data d
    else respond m (ofLeBytes (readBytes d mem m a n)) d
  | c => busError m a false false c d

/-- A write of memory: one narrower than 64 bits reads its word first (R302). -/
def memWriteAcc (m : Nat) (r : MemRange) (a n v : Nat) (errs : List EccErr) (d : Dev) : Dev × List MemEff :=
  match d.memCode m r true with
  | .okay =>
    let full := decide (8 ≤ n)
    let d := if full then clearErrors (wordsOf a n) d else meetErrors r a n errs d
    if !full && d.touchesBad a n then (busError m a true false .data d, [])
    else
      let d := d.when (!full) fun d =>
        { d with memory := { d.memory with fixing := d.memory.fixing.filter fun w => !(wordsOf a n).contains w } }
      (watchWrite a n (respond m 0 d), writeEffs a (leBytes n v))
  | c => (busError m a true false c d, [])

/-! ## Pages -/

/-- An access to a reserved offset of a page: it reads 0, and a write has no effect (R6). -/
def holeAcc (m : Nat) (p : Page) (a : Nat) (write : Bool) (d : Dev) : Dev :=
  if !d.allowed m (.hole p) write then busError m a write false .violation d
  else if d.pageGated p false then busError m a write false .gated d
  else respond m 0 d

/-- A 32-bit write of a page by a master that may issue. -/
def pageWrite32 (m a v : Nat) (s : State) : Out :=
  match targetAt a with
  | some (.reg r) =>
    match writeRow (regEffect s.mem r) m r v s with
    | .next t => .next { t with mem := runEffs t.mem (regEffs m r v s.dev) }
    | o => o
  | some (.hole p) => liftDev (holeAcc m p a true) s
  | _ => liftDev (busError m a true false .decode) s

/-- A 32-bit read of a page. -/
def pageRead32 (m a : Nat) (d : Dev) : Dev :=
  match targetAt a with
  | some (.reg r) => d.busReadWith (fun m => regRead m r) m r
  | some (.hole p) => holeAcc m p a false d
  | _ => busError m a false false .decode d

/-- The response of two accesses as that of one: the first error stands. -/
def joinResp (x y : Resp) : Resp :=
  if x.code ≠ .okay then { x with data := 0 }
  else if y.code ≠ .okay then { y with data := 0 }
  else { y with data := x.data + y.data * 2 ^ 32 }

/-- A response replaced. -/
def Dev.withResp (d : Dev) (r : Resp) : Dev := { d with resp := r }

/-! ## Any access -/

/-- A write of `n` bytes at an address by a master (R28, R41): pages take aligned 32-bit and 64-bit accesses, the
latter as two, the lower address first. (DEDUCED, log 16.) -/
def busWrite (m a n v : Nat) (errs : List EccErr) (s : State) : Out :=
  if ¬ s.dev.canIssue m then .next s
  else match targetAt a with
    | none => liftDev (busError m a true false .decode) s
    | some (.mem r) =>
      if memShape a n then liftMem (fun _ d => memWriteAcc m r a n v errs d) s
      else liftDev (busError m a true true .decode) s
    | some _ =>
      if n = 4 ∧ a % 4 = 0 then pageWrite32 m a (v % 2 ^ 32) s
      else if n = 8 ∧ a % 8 = 0 then
        match pageWrite32 m a (v % 2 ^ 32) s with
        | .next t =>
          match pageWrite32 m (a + 4) (v / 2 ^ 32 % 2 ^ 32) t with
          | .next u => .next { u with dev := u.dev.withResp (joinResp t.dev.resp u.dev.resp) }
          | o => o
        | o => o
      else liftDev (busError m a true true .decode) s

/-- A read of `n` bytes at an address by a master. (DEDUCED, log 16.) -/
def busRead (m a n : Nat) (errs : List EccErr) (mem : List Host.Cell) (d : Dev) : Dev :=
  if ¬ d.canIssue m then d
  else match targetAt a with
    | none => busError m a false false .decode d
    | some (.mem r) => if memShape a n then memReadAcc m r a n errs mem d else busError m a false true .decode d
    | some _ =>
      if n = 4 ∧ a % 4 = 0 then pageRead32 m a d
      else if n = 8 ∧ a % 8 = 0 then
        let x := pageRead32 m a d
        let y := pageRead32 m (a + 4) x
        y.withResp (joinResp x.resp y.resp)
      else busError m a false true .decode d

/-- REGISTER_WRITE (R4, R28, R41): a write of `n` bytes at an address; `errs` are bit errors that a read-modify-write
finds. -/
def execRegisterWrite (m addr n data : Nat) (errs : List EccErr) : State → Out := busWrite m addr n data errs

/-- BUS_READ (R41, R301): a read of `n` bytes at an address; `errs` are bit errors that it finds. -/
def execBusRead (m addr n : Nat) (errs : List EccErr) : State → Out := fun s =>
  liftDev (busRead m addr n errs s.mem) s

/-! ## Remote register access (R342) -/

/-- Whether a session may make an access of a kind to an address: within its window, outside STATION page 15, and a
write only with WRITE. (DEDUCED, log 108.) -/
def Dev.sesAllows (d : Dev) (j a : Nat) (write : Bool) : Bool :=
  let lo := d.rd (F.STATION_SES_WBASE_VAL j)
  decide (lo ≤ a ∧ a < lo + d.rd (F.STATION_SES_WSIZE_VAL j)) && Page.atAddr a != some (.STATION 15) &&
  (!write || d.on (F.STATION_SES_CTRL_WRITE j))

/-- An item of the oldest request is done. -/
def itemDone (q : RraReq) (rest : List RraReq) (done : Nat × Nat × Nat × Nat) (todo : List (Nat × Nat × Nat))
    (d : Dev) : Dev :=
  let q' := { q with todo, done := q.done ++ [done], failed := q.failed || done.2.2.2 != 0 }
  d.setStation fun s => { s with rraQ := q' :: rest }

/-- RRA_ITEM (R342): the next item of the oldest request. (DEDUCED, log 106, 108.) -/
def execRraItem (errs : List EccErr) (s : State) : Out :=
  match s.dev.station.rraQ with
  | [] => .next s
  | q :: rest =>
    match q.todo with
    | [] => .next s
    | (a, v, kind) :: todo =>
      let write := kind == 1
      if q.failed ∧ s.dev.on (F.STATION_SES_CTRL_STOP_ON_ERR q.ses) then
        liftDev (itemDone q rest (a, v, kind, 6) todo) s
      else if ¬ s.dev.sesAllows q.ses a write then
        liftDev (fun d => itemDone q rest (a, v, kind, 2) todo (d.latch 58)) s
      else if ¬ s.dev.canIssue 11 then .next s
      else
        let finish (t : State) : State :=
          let r := t.dev.resp
          { t with dev := itemDone q rest (a, if write then v else r.data, kind, r.code.code) todo t.dev }
        match (if write then busWrite 11 a 4 v errs s else .next { s with dev := busRead 11 a 4 errs s.mem s.dev }) with
        | .next t => .next (finish t)
        | o => o

end Sys2Proof.Machine
end

