-- ==== Sys2Proof/Machine/Boot.lean ====
section
/-!
DEFINITION. Sys2Proof/Machine/Boot.lean: the stages of the boot ROM (R378, R379), the choice of the flash bank (R396,
R397) and the network boot (R380).
-/
namespace Sys2Proof.Machine

/-- Replaces what the boot logic holds. -/
def Dev.setRst (d : Dev) (f : RstState → RstState) : Dev := { d with rst := f d.rst }

/-- The boot ROM is at a stage; POSITION shows it (R378). -/
def toStage (n : Nat) (d : Dev) : Dev := (d.wr F.SVCPORT_BOOT_STAGE n).wr (F.PG_PROG_POSITION .SVCPORT) n

/-- A stage fails: the boot stops there with an error (R379). -/
def bootStop (err : Nat) (d : Dev) : Dev :=
  ((d.wr F.SVCPORT_BOOT_ERR err).progEnd .SVCPORT).setRst fun r => { r with booting := false }

/-- The boot source is flash. -/
def Dev.fromFlash (d : Dev) : Bool := d.rd F.RST_STRAP_EFF_SRC == 0 || d.rd F.RST_STRAP_EFF_SRC == 3

/-! ## The bank directory (R396) -/

/-- GEN of a directory. -/
def dirGen (l : List (BitVec 8)) : Nat := leAt l 4 4

/-- The entries of a directory: KIND, OFFSET, LEN. -/
def dirEntries (l : List (BitVec 8)) : List (Nat × Nat × Nat) :=
  (List.range (leAt l 8 4)).map fun i => (leAt l (0x0C + 16 * i) 2, leAt l (0x10 + 16 * i) 4, leAt l (0x14 + 16 * i) 4)

/-- The length in bytes of a bank, as `XSPI.BANKA` and `BANKB` give it; 0 where they are not set. (DEDUCED, log 138.) -/
def Dev.bankLen (d : Dev) (b : Nat) : Nat :=
  (if b = 0 then d.rd F.XSPI_BANKA_SIZE else d.rd F.XSPI_BANKB_SIZE) * 65536

/-- Whether a bank is readable: MAGIC, COUNT and CRC check, and it holds one entry each of PROT_FW, SVC_FW and
SAFETY_PROFILE, all within the bank (R396). (DEDUCED, log 138.) -/
def Dev.readable (d : Dev) (b : Nat) (l : List (BitVec 8)) : Bool :=
  l.take 4 == [0x46, 0x4C, 0x44, 0x31] && decide (1 ≤ leAt l 8 4 ∧ leAt l 8 4 ≤ 8) &&
  crc32c (l.take 0x8C) == leAt l 0x8C 4 &&
  ([1, 2, 3].all fun k => ((dirEntries l).filter fun e => e.1 == k).length == 1) &&
  (dirEntries l).all fun e => e.2.1 % 64 == 0 && (d.bankLen b == 0 || decide (e.2.1 + e.2.2 ≤ d.bankLen b))

/-- STATE of a bank: what the boot ROM programmed in this boot, else what the directory reads.
(DESIGN CHOICE, log 143.) -/
def Dev.bankState (d : Dev) (b : Nat) (l : List (BitVec 8)) : Nat := mget (leAt l 0x90 4) d.rst.bankProg b

/-- The boot ROM programs STATE of a bank. (DESIGN CHOICE, log 143.) -/
def programState (b v : Nat) (d : Dev) : Dev := d.setRst fun r => { r with bankProg := mset r.bankProg b v }

/-- STATE WRITTEN, TRIAL, GOOD and BAD. -/
def stWritten : Nat := 0xFFFF0000
/-- TRIAL. -/
def stTrial : Nat := 0xFF000000
/-- GOOD. -/
def stGood : Nat := 0x0F000000

/-- The bank that stage 4 takes: of the readable banks in WRITTEN or GOOD the one of highest GEN, A winning a tie. -/
def Dev.chooseBank (d : Dev) (a b : List (BitVec 8)) : Option Nat :=
  let cand (i : Nat) (l : List (BitVec 8)) : Bool :=
    d.readable i l && (d.bankState i l == stWritten || d.bankState i l == stGood)
  match cand 0 a, cand 1 b with
  | true, true => some (if dirGen a < dirGen b then 1 else 0)
  | true, false => some 0
  | false, true => some 1
  | false, false => none

/-- The choice of the flash bank at stage 4, from the directories that the two banks read (R397).
(DESIGN CHOICE, log 140.) -/
def bankChoice (a b : List (BitVec 8)) (d : Dev) : Dev :=
  let bad (i : Nat) (l : List (BitVec 8)) (d : Dev) : Dev :=
    d.when (d.readable i l && d.bankState i l == stTrial) (programState i 0)
  let d := bad 1 b (bad 0 a d)
  match d.chooseBank a b with
  | some i =>
    let l := if i = 0 then a else b
    let d := d.when (d.bankState i l == stWritten) (programState i stTrial)
    toStage 5 (d.setRst fun r => { r with bank := i, dir := l })
  | none =>
    if d.rd F.RST_STRAP_EFF_SRC = 3 then d.wr F.RST_STRAP_EFF_SRC 1
    else bootStop (if d.rst.bankErr = 0 then 1 else d.rst.bankErr) d

/-- An image fails its verification with a code: the bank becomes BAD and stage 4 is repeated, or the boot stops
(R391, R397). (DEDUCED, log 139.) -/
def imageFails (code : Nat) (d : Dev) : Dev :=
  let d := d.when (code == 3 || code == 5 || code == 6 || code == 8) fun d => d.latch 59
  let err := if code = 4 then 3 else 2
  if d.fromFlash then toStage 4 ((programState d.rst.bank 0 d).setRst fun r => { r with bankErr := err })
  else bootStop err d

/-- An image of a kind is judged (R388): the code, 1 where it is of another kind or not of the length that the bank's
directory gives. (DESIGN CHOICE, log 137.) -/
def Dev.bootCode (d : Dev) (kind : Nat) (l : List (BitVec 8)) : Nat :=
  let listed := !d.fromFlash || (dirEntries d.rst.dir).any fun e => e.1 == kind && e.2.2 == l.length
  if leAt l 6 2 ≠ kind ∨ ¬ listed then 1 else imageCode d (fun o n => (l.drop o).take n) l.length

/-- The measurement of a verified image is recorded under its kind (R401). (DEDUCED, log 145.) -/
def measure (h : Header) (d : Dev) : Dev :=
  let k := h.kind - 1
  let d := d.wr (F.KEYS_MEAS_VER_VAL k) h.version
  let d := d.wr (F.KEYS_MEAS_INFO_VAL k) (2 ^ 31 + h.rbval)
  let dig := Config.sha3_256 h.bytes
  d.each (List.range 8) fun i d => d.wr (F.KEYS_MEAS_DIG_VAL k i) (hashWord dig i)

/-- Firmware is put at LOAD: memory words are written whole. -/
def loadCode (a : Nat) (data : List (BitVec 8)) (d : Dev) : Dev × List MemEff :=
  (watchWrite a data.length (clearErrors (wordsOf a data.length) d), writeEffs a data)

/-- Stage 2: ROM patches that check are loaded into the patch unit (R393), and the device identity is derived (R399). -/
def bootOtp (d : Dev) : Dev :=
  let d := d.each (List.range 16) fun k d =>
    let s := d.patchSlot k
    if ¬ s.used ∨ s.killed then d
    else if s.crcOk then
      ((d.wr F.KEYS_PATCH_STAT_APPLIED (setBitAt (d.rd F.KEYS_PATCH_STAT_APPLIED) k)).setSec fun x =>
        { x with unit := x.unit ++ [(s.addr, s.words)] })
    else d.wr F.KEYS_PATCH_STAT_BAD (setBitAt (d.rd F.KEYS_PATCH_STAT_BAD) k)
  let dig := Config.sha3_256 Config.identityPublicKey
  d.each (List.range 8) fun i d => d.wr (F.KEYS_DIK_HASH_D i) (hashWord dig i)

/-- The cooling wait is over: a sample completed after the release is below 150.0 degC (R296). (DEDUCED, log 142.) -/
def Dev.cooled (d : Dev) : Bool := d.therm.judged && !d.on F.THERM_STAT_COOLING

/-- Stage 8 (R378): the service cores run, BOOTED is written, and the protection firmware starts. A boot from another
source leaves BOOTED a value that the manual does not state. (DESIGN CHOICE, log 140.) -/
def bootEnd (d : Dev) : Dev :=
  let d := if d.fromFlash then d.wr F.XSPI_BANKSEL_BOOTED d.rst.bank
    else (d.wr F.XSPI_BANKSEL_BOOTED (d.free % 2)).taken
  let d := (toStage 8 (d.wr F.RST_RELEASE_SVC 1)).progEnd .SVCPORT
  let d := d.setSec fun s => { s with protPc := d.rst.protEntry, svcPc := d.rd F.RST_SVC_ENTRY_ADDR }
  d.setRst fun r => { r with booting := false, bootDone := true }

/-- The end of stages 5, 6 and 7: the image that the stage read is verified and used. (DEDUCED, log 139, 145.) -/
def imageStage (stage : Nat) (l : List (BitVec 8)) (d : Dev) : Dev × List MemEff :=
  let h : Header := ⟨l.take 128⟩
  let pay := (l.drop h.payoff).take h.plen
  let kind := if stage = 5 then 3 else if stage = 6 then 1 else 2
  let code := d.bootCode kind l
  if code ≠ 0 then (imageFails code d, [])
  else if stage = 5 then
    let d := applyProfile pay d
    if profileOk pay then (toStage 6 (measure h d), []) else (imageFails 1 d, [])
  else if stage = 6 then
    if safetyBase ≤ h.load ∧ h.load + h.plen ≤ safetyBase + 0x80000 then
      loadCode h.load pay (toStage 7 ((measure h d).setRst fun r => { r with protEntry := h.arg }))
    else (imageFails 1 d, [])
  else if sramBase ≤ h.load ∧ h.load + h.plen ≤ sramBase + 0x1800000 then
    loadCode h.load pay (bootEnd ((measure h d).wr F.RST_SVC_ENTRY_ADDR h.arg))
  else (imageFails 1 d, [])

/-- Whether a stage may fail with an error that comes from outside: 4 flash time-out, 5 cooling.
(DESIGN CHOICE, log 141.) -/
def Dev.mayFail (d : Dev) (stage err : Nat) : Bool :=
  (err == 4 && decide (4 ≤ stage ∧ stage ≤ 7) && d.fromFlash) || (err == 5 && stage == 3)

/-- The end of a stage that is met. (DEDUCED, log 142.) -/
def stageEnd (stage : Nat) (a b image : List (BitVec 8)) (d : Dev) : Dev × List MemEff :=
  match stage with
  | 0 =>
    (d.when d.clk.pllS.released fun d =>
      toStage (if bitAt (d.rd F.RST_CAUSE_KINDS) 0 then 1 else 2) (d.wr F.PROT_STAT_RUNNING 1), [])
  | 1 => (d.when d.rst.safeReady (toStage 2), [])
  | 2 => let d := bootOtp d; (toStage 3 (d.wr F.RST_CAUSE_COOLED (b2n (!d.cooled))), [])
  | 3 => (d.when d.cooled (toStage 4), [])
  | 4 => (if d.fromFlash then bankChoice a b d else d.when d.rst.go (toStage 5), [])
  | 7 => if d.memory.sramOk then imageStage 7 image d else (d, [])
  | n => imageStage n image d

/-- BOOT_STAGE_END (R378, R379): the stage's end condition is met, or with `err` 4 or 5 the stage fails. For stage 4
from flash, `dirA` and `dirB` are the directories that the banks read; for stages 5 to 7, `image` is what the boot ROM
read from the boot source. (DESIGN CHOICE, log 137, 141.) -/
def execBootStageEnd (err : Fin 6) (dirA dirB image : List (BitVec 8)) : State → Out := liftMem fun _ d =>
  let stage := d.rd F.SVCPORT_BOOT_STAGE
  if ¬ d.rst.booting ∨ d.rst.hold ≠ 0 ∨ 7 < stage then (d, [])
  else if err.val = 0 then stageEnd stage dirA dirB image d
  else (d.when (d.mayFail stage err) (bootStop err), [])

/-! ## Network boot (R380) -/

/-- The payload of a network boot frame that this device accepts; none where the frame is not one. -/
def Dev.netBoot (d : Dev) (l : List (BitVec 8)) : Option (List (BitVec 8)) :=
  let p := l.drop 14
  if d.rst.booting ∧ d.rst.hold = 0 ∧ d.rd F.SVCPORT_BOOT_STAGE = 4 ∧ d.rd F.RST_STRAP_EFF_SRC = 2 ∧
      beAt l 0 6 = 2 ^ 48 - 1 ∧ beAt l 12 2 = 0x88B5 ∧ beAt p 0 1 = 1 ∧ beAt p 2 8 = d.sec.otp.uid.toNat ∧
      20 + beAt p 14 2 ≤ p.length ∧ crc32c (p.take (16 + beAt p 14 2)) = beAt p (16 + beAt p 14 2) 4 then some p
  else none

/-- BOOT_LOAD (R380): a LOAD frame, from its destination MAC to the last byte before its FCS, writes staging RAM. -/
def execBootLoad (port : Fin 2) (bytes : List (BitVec 8)) : State → Out := liftMem fun _ d =>
  match d.netBoot bytes with
  | none => (d, [])
  | some p =>
    let off := beAt p 10 4
    let n := beAt p 14 2
    if port.val < 2 ∧ beAt p 1 1 = 3 ∧ off % 8 = 0 ∧ 8 ≤ n ∧ n ≤ 1024 ∧ n % 8 = 0 ∧ off + n ≤ 0x10000 ∧ d.rst.stgReady then
      loadCode (stagingBase + off) ((p.drop 16).take n) d
    else (d, [])

/-- The REPORT that answers a GO. Its LEN holds a CRC that has more bits than the field, so LEN is a free value.
(DESIGN CHOICE, log 144.) -/
def Dev.netReport (d : Dev) (port : Nat) (go : List (BitVec 8)) : List (BitVec 8) :=
  let body := [0x01, 0x05] ++ beBytes 8 d.sec.otp.uid.toNat ++ (go.drop 24).take 4 ++ beBytes 2 (d.free % 2 ^ 16)
  (go.drop 6).take 6 ++ beBytes 6 (d.portMac port) ++ [0x88, 0xB5] ++ body ++ beBytes 4 (crc32c body)

/-- BOOT_GO (R380): a GO frame ends stage 4's wait, and the device answers on the port of arrival.
(DESIGN CHOICE, log 144.) -/
def execBootGo (port : Fin 2) (bytes : List (BitVec 8)) : State → Out := liftDev fun d =>
  match d.netBoot bytes with
  | none => d
  | some p =>
    if beAt p 1 1 = 4 ∧ beAt p 14 2 = 0 then
      sendBytes port false (d.netReport port bytes) (d.taken.setRst fun r => { r with go := true })
    else d

end Sys2Proof.Machine
end

