-- ==== Sys2Proof/Machine/Cuts.lean ====
section
/-!
DEFINITION. Sys2Proof/Machine/Cuts.lean: the telemetry table and the cut (R136 to R138), with what a cut starts:
misses of the dead-time adaptation (R170) and runs of the loop engines (R222).
-/
namespace Sys2Proof.Machine

/-- The address of a position's slot (R136). -/
def slotAddr (k : Nat) : Nat := telemBase + 128 * k

/-- The bytes of a slot that a record fills (R136, R137): FRESH 1, STALE 0, STALE_RUN 0. -/
def slotBytes (arrive port : Nat) (r : TelemRec) : List (BitVec 8) :=
  leBytes 4 (r.tseq.toNat + 2 ^ 16 + port * 2 ^ 18) ++ leBytes 4 r.nstat.toNat ++ leBytes 4 r.sampleNs.toNat ++
    leBytes 4 arrive ++ (List.range 28).flatMap fun i => leBytes 4 (r.words.getD i 0).toNat

/-- The first word of a slot that goes stale (R137). -/
def staleWord (w : Nat) : Nat := putBits (putBits (putBits w 16 1 0) 17 1 1) 24 8 (satAdd (bitsOf w 24 8) 1 255)

/-- A position that a cut marks stale: CONFIGURED to BYPASSED, or FAILED (R137, R432). (DEDUCED, log 33.) -/
def Dev.staleAtCut (d : Dev) (k : Nat) : Bool := decide (3 ≤ d.spokeSt k) && decide (d.spokeSt k ≤ 7)

/-- The effect of a cut on one position's slot. (DEDUCED, log 33.) -/
def cutSlot (mem : List Host.Cell) (n : Nat) (d : Dev) (pos : Nat) : List MemEff :=
  let k := 8 * n + pos
  match (d.rim n).back.find? fun b => b.1 == pos with
  | some b => [.bytes (slotAddr k) (slotBytes b.2.1 b.2.2.1 b.2.2.2)]
  | none => if d.staleAtCut k then [.bytes (slotAddr k) (leBytes 4 (staleWord (readWord d mem (slotAddr k))))] else []

/-- The sampling instant whose cut is the next of a rim. (DEDUCED, log 33.) -/
def Dev.nextCut (d : Dev) (n : Nat) : Option Nat := (d.rim n).samples.head?

/-- TELEMETRY_CUT (R137): `CUT_DLY` ns after a sampling instant every slot of the rim is cut in one tick. -/
def execTelemetryCut (n : Fin 32) : State → Out := liftMem fun mem d =>
  match d.nextCut n with
  | none => (d, [])
  | some s =>
    if ¬ d.rimOn n then (d, [])
    else
      let d := d.jumpToTb (s + max 500 (d.rd (F.RIM_TCFG_CUT_DLY n)))
      let effs := (List.range 8).flatMap (cutSlot mem n d)
      let stale := (List.range 8).any fun pos =>
        d.staleAtCut (8 * n + pos) && !(d.rim n).back.any fun b => b.1 == pos
      let d := d.when stale fun d => d.wr (F.RIM_EVT_STALE n) 1
      let d := d.wr (F.RIM_EVT_CUT n) 1
      let x := d.rim n
      let d := d.setRim n { x with back := [], samples := x.samples.tail }
      let d := d.each (legsOf n) cutLeg
      (d.each ((List.range 8).filter fun e => d.loopSrc e == 1 && d.rd (F.LOOP_CTRL_CUTRIM e) == n.val &&
        d.takesStart e) fun e d => d.setEng e { d.eng e with startDue := true }, effs)

end Sys2Proof.Machine
end

