-- ==== Sys2Proof/Machine/DmaMove.lean ====
section
/-!
DEFINITION. Sys2Proof/Machine/DmaMove.lean: what the DMA engine itself does: the fetch of a descriptor, the beats of its
bursts, the CRC and the write-back (R310 to R312, R315 to R319).
-/
namespace Sys2Proof.Machine

/-- The bus master of a channel (R38). -/
def chanMaster (h : Nat) : Nat := 16 + h

/-- The channel stops and reports only in `CHh_STAT`, with `EVT.ERR` set (R318). (DEDUCED, log 93.) -/
def chanStop (h code : Nat) (d : Dev) : Dev := dmaEvents h 2 (haltChan h code d)

/-! ## The descriptor -/

/-- A descriptor from its 32 bytes (R310). -/
def Desc.ofBytes (l : List (BitVec 8)) : Desc :=
  let w (i : Nat) : Nat := ofLeBytes ((l.drop (4 * i)).take 4)
  { src := w 0, dst := w 1, count := w 2, dctrl := w 3, next := w 4, seed := w 5 }

/-- Whether a descriptor keeps the rules of the table of R310. -/
def Desc.ok (x : Desc) : Bool :=
  x.src % 4 == 0 && x.dst % 4 == 0 && decide (4 ≤ x.count ∧ x.count < 2 ^ 24) && x.count % 4 == 0 &&
  decide (x.dctrl < 2 ^ 10) && x.next % 32 == 0

/-- The CRC algorithm of a descriptor, 0 for none. -/
def Desc.alg (x : Desc) : Nat := bitsOf x.dctrl 2 2

/-- Whether a descriptor may lie at an address: aligned to 32 bytes, in shared SRAM or staging RAM (R310). -/
def descPlace (a : Nat) : Bool :=
  a % 32 == 0 && (match MemRange.at a with
    | some .sram | some .staging => true
    | _ => false)

/-- The internal state with which a descriptor's CRC starts: SEED, or what the chain's last descriptor left, which is
a free value where there was none (R312). (DESIGN CHOICE, log 89.) -/
def crcStart (h : Nat) (x : Desc) (d : Dev) : Dev :=
  let c := d.chan h
  if x.alg = 0 then d
  else if bitAt x.dctrl 4 then
    match c.crc with
    | some _ => d
    | none => (d.setChan h { c with crc := some (d.free % 2 ^ 32) }).taken
  else d.setChan h { c with crc := some x.seed }

/-- A descriptor that breaks no rule has been fetched: it waits for a trigger, or moves its data (R315, R316). -/
def descStart (h : Nat) (x : Desc) (d : Dev) : Dev :=
  let d := crcStart h x d
  if ¬ bitAt x.dctrl 5 then beginMove h d
  else if d.on (F.DMA_CH_STAT_TRGPEND h) then beginMove h (d.wr (F.DMA_CH_STAT_TRGPEND h) 0)
  else d.wr (F.DMA_CH_STAT_STATE h) 2

/-- A descriptor has been read from an address. -/
def descFetched (h a : Nat) (x : Desc) (d : Dev) : Dev :=
  let cnt := x.count % 2 ^ 24
  let d := d.wr (F.DMA_CH_STAT_HOPS h) (d.rd (F.DMA_CH_STAT_HOPS h) + 1)
  let d := (d.wr (F.DMA_CH_CUR_ADDR h) a).wr (F.DMA_CH_CNT_CNT h) cnt
  let d := d.setChan h { d.chan h with desc := some x, bursts := [], toIssue := 0, err := 0, errCnt := 0 }
  if ¬ x.ok then toWriteback h (d.setChan h { d.chan h with err := 8, errCnt := cnt })
  else if (d.chan h).abort then toWriteback h d
  else descStart h x d

/-- Descriptors that a START may fetch (R317). -/
def Dev.hopLimit (d : Dev) (h : Nat) : Nat :=
  let l := d.rd (F.DMA_CH_HOPLIM_LIMIT h)
  if l = 0 then 4096 else l

/-- DMA_FETCH (R315, R317): the channel's fetch completes; `errs` are bit errors that it finds. (DEDUCED, log 93.) -/
def execDmaFetch (h : Fin 32) (errs : List EccErr) (s : State) : Out :=
  let d := s.dev
  let a := (d.chan h).at_
  if d.chState h ≠ 1 ∨ ¬ d.dmaClocked ∨ ¬ d.canIssue (chanMaster h) then .next s
  else if d.rd (F.DMA_CH_STAT_HOPS h) = d.hopLimit h then liftDev (fun d => (chanStop h 7 d).latch 54) s
  else if ¬ descPlace a then liftDev (chanStop h 8) s
  else
    let r := busRead (chanMaster h) a 32 errs s.mem d
    match r.resp.code with
    | .okay => .next { s with dev := descFetched h a (Desc.ofBytes (leBytes 32 r.resp.data)) r }
    | e => .next { s with dev := chanStop h e.code r }

/-! ## Beats (R311) -/

/-- Whether a side may use a beat of `n` bytes at an address with `left` bytes of the burst to go: 32-bit accesses
where the address does not increment, else aligned beats of up to 32 bytes. (DESIGN CHOICE, log 90.) -/
def beatOk (inc : Bool) (a n left : Nat) : Bool :=
  if inc then [4, 8, 16, 32].contains n && a % n == 0 && decide (n ≤ left) else n == 4 && decide (4 ≤ left)

/-- The first burst that `p` chooses, replaced. -/
def updBurst (p : Burst → Bool) (f : Burst → Option Burst) : List Burst → List Burst
  | [] => []
  | b :: t => if p b then (f b).toList ++ t else b :: updBurst p f t

/-- Whether a burst has bytes to read. -/
def Burst.reading (b : Burst) : Bool := decide (b.data.length < b.len)

/-- Whether a burst has bytes read and not yet written. -/
def Burst.writing (b : Burst) : Bool := decide (b.written < b.data.length)

/-- The write-back is due once no burst is in flight and none is to come (R315, R318, R319). -/
def moveOver (h : Nat) (d : Dev) : Dev :=
  let c := d.chan h
  d.when (d.chState h == 3 && c.bursts.isEmpty && (c.toIssue == 0 || c.err != 0 || c.abort)) (toWriteback h)

/-- An error response to a beat: the first decides CODE; bursts in flight complete their reads, and data read and not
yet written are discarded (R318). (DEDUCED, log 91.) -/
def beatError (h code : Nat) (d : Dev) : Dev :=
  let c := d.chan h
  let c := if c.err = 0 then { c with err := code, errCnt := d.rd (F.DMA_CH_CNT_CNT h) } else c
  moveOver h (d.setChan h { c with bursts := c.bursts.filter Burst.reading })

/-- The data of a read beat are accepted: `CHh_CNT` falls by them and the CRC runs over them (R311, R312).
(DEDUCED, log 91.) -/
def beatRead (h : Nat) (x : Desc) (data : List (BitVec 8)) (d : Dev) : Dev :=
  let d := d.wr (F.DMA_CH_CNT_CNT h) (d.rd (F.DMA_CH_CNT_CNT h) - data.length)
  let c := d.chan h
  let take (b : Burst) : Option Burst :=
    let b' := { b with data := b.data ++ data }
    if c.err ≠ 0 ∧ ¬ b'.reading then none else some b'
  moveOver h (d.setChan h { c with
    bursts := updBurst Burst.reading take c.bursts
    crc := if x.alg = 0 then c.crc else c.crc.map fun k => crcBytes x.alg k data })

/-- DMA_READ_BEAT (R311): the channel's oldest burst with bytes to read reads a beat of `n` bytes.
(DESIGN CHOICE, log 90.) -/
def execDmaReadBeat (h : Fin 32) (n : Nat) (errs : List EccErr) (s : State) : Out :=
  let d := s.dev
  let c := d.chan h
  match c.desc, c.bursts.find? Burst.reading with
  | some x, some b =>
    let inc := bitAt x.dctrl 0
    let a := if inc then b.src + b.data.length else b.src
    if d.chState h ≠ 3 ∨ ¬ d.dmaClocked ∨ ¬ d.canIssue (chanMaster h) ∨ ¬ beatOk inc a n (b.len - b.data.length) then
      .next s
    else
      let r := busRead (chanMaster h) a n errs s.mem d
      match r.resp.code with
      | .okay => .next { s with dev := beatRead h x (leBytes n r.resp.data) r }
      | e =>
        let k := r.chan h
        let r := r.setChan h { k with bursts := updBurst Burst.reading (fun _ => none) k.bursts }
        .next { s with dev := beatError h e.code r }
  | _, _ => .next s

/-- A write beat was answered OKAY. -/
def beatWritten (h n : Nat) (d : Dev) : Dev :=
  let c := d.chan h
  let put (b : Burst) : Option Burst :=
    let b' := { b with written := b.written + n }
    if b'.written = b'.len then none else some b'
  moveOver h (d.setChan h { c with bursts := updBurst Burst.writing put c.bursts })

/-- DMA_WRITE_RESPONSE (R311, R318): the response to a write beat of `n` bytes of the channel's oldest burst with data
to write arrives. (DESIGN CHOICE, log 90.) -/
def execDmaWriteResponse (h : Fin 32) (n : Nat) (errs : List EccErr) (s : State) : Out :=
  let d := s.dev
  let c := d.chan h
  match c.desc, c.bursts.find? Burst.writing with
  | some x, some b =>
    let inc := bitAt x.dctrl 1
    let a := if inc then b.dst + b.written else b.dst
    if d.chState h ≠ 3 ∨ c.err ≠ 0 ∨ ¬ d.dmaClocked ∨ ¬ d.canIssue (chanMaster h) ∨
        ¬ beatOk inc a n (b.data.length - b.written) then .next s
    else
      match busWrite (chanMaster h) a n (ofLeBytes ((b.data.drop b.written).take n)) errs s with
      | .next t =>
        match t.dev.resp.code with
        | .okay => liftDev (beatWritten h n) t
        | e => liftDev (beatError h e.code) t
      | o => o
  | _, _ => .next s

/-! ## The end of a descriptor (R318) -/

/-- STATUS as it is written back, without its CODE in `CHh_STAT`: the word, the code and the event bits.
(DEDUCED, log 91, 92.) -/
def Dev.descEnd (d : Dev) (h : Nat) (x : Desc) : Nat × Nat × Nat :=
  let c := d.chan h
  let cnt := d.rd (F.DMA_CH_CNT_CNT h)
  if c.err ≠ 0 then
    if c.errCnt = 0 ∧ c.err ≠ 8 then (2 ^ 31 + 2 ^ 30 + 2 ^ 29 + c.err * 2 ^ 24, c.err, 3)
    else (2 ^ 30 + c.err * 2 ^ 24 + c.errCnt, c.err, 2)
  else if c.abort then (6 * 2 ^ 24 + cnt, 6, 4)
  else (2 ^ 31 + b2n (x.alg != 0) * 2 ^ 28, 0, b2n (bitAt x.dctrl 6) + 4 * b2n c.lateAbort)

/-- The CRC word of a write-back. -/
def Dev.descCrc (d : Dev) (h : Nat) (x : Desc) : Nat :=
  if x.alg = 0 then 0 else crcFinal x.alg ((d.chan h).crc.getD 0)

/-- What follows the write-back: the events, source 54, and the next descriptor or the end of the chain. -/
def descNext (h : Nat) (x : Desc) (code evs : Nat) (d : Dev) : Dev :=
  let c := d.chan h
  let d := d.when (c.err != 0) fun d => d.latch 54
  if c.err ≠ 0 ∨ c.abort ∨ c.lateAbort then dmaEvents h evs (haltChan h code d)
  else if x.next = 0 then dmaEvents h (evs + 8) (haltChan h 0 d)
  else
    let d := (d.wr (F.DMA_CH_STAT_CODE h) 0).wr (F.DMA_CH_STAT_STATE h) 1
    dmaEvents h evs (d.setChan h { c with at_ := x.next, desc := none, bursts := [], toIssue := 0 })

/-- DMA_WRITEBACK (R315, R318): STATUS and CRC are written as one 64-bit write. (DEDUCED, log 93.) -/
def execDmaWriteback (h : Fin 32) (errs : List EccErr) (s : State) : Out :=
  let d := s.dev
  match (d.chan h).desc with
  | none => .next s
  | some x =>
    if d.chState h ≠ 4 ∨ ¬ d.dmaClocked ∨ ¬ d.canIssue (chanMaster h) then .next s
    else
      let e := d.descEnd h x
      match busWrite (chanMaster h) (d.rd (F.DMA_CH_CUR_ADDR h) + 0x18) 8 (e.1 + d.descCrc h x * 2 ^ 32) errs s with
      | .next t =>
        match t.dev.resp.code with
        | .okay => liftDev (descNext h x e.2.1 e.2.2) t
        | r => liftDev (chanStop h r.code) t
      | o => o

/-! ## Accesses without a response (R41, R42) -/

/-- What an error response to an outstanding access ends at the master that made it (R42): the operation of the secure-boot
or attestation engine, the item of a remote-access request, or the descriptor of a DMA channel. -/
def masterError (m addr : Nat) (write : Bool) (c : RespCode) (d : Dev) : Dev :=
  if m = 5 then d.when d.sec.vRun.isSome (endVerify 7)
  else if m = 6 then
    d.when d.sec.aRun.isSome fun d =>
      (((d.wr F.KEYS_A_STAT_BUSY 0).wr F.KEYS_A_STAT_RESULT 3).progEnd (.KEYS 2)).setSec fun s => { s with aRun := none }
  else if m = 11 then
    match d.station.rraQ with
    | q :: rest =>
      match q.todo with
      | (a, v, kind) :: todo => d.when (a == addr && (kind == 1) == write) (itemDone q rest (a, v, kind, c.code) todo)
      | [] => d
    | [] => d
  else if 16 ≤ m ∧ m < 48 then
    let h := m - 16
    let k := d.chan h
    match d.chState h with
    | 1 | 4 => chanStop h c.code d
    | 3 => beatError h c.code (d.setChan h { k with
        bursts := updBurst (if write then Burst.writing else Burst.reading) (fun _ => none) k.bursts })
    | _ => d
  else d

/-- BUS_TIMEOUT (R41): an access that no earlier cause of R41 answers has had no response for 4,096 BUSCLK cycles. -/
def execBusTimeout (m addr : Nat) (write : Bool) : State → Out := liftDev fun d =>
  let fail (c : RespCode) (d : Dev) : Dev := masterError m addr write c (busError m addr write false c d)
  match targetAt addr with
  | none => fail .decode d
  | some t =>
    if !d.canIssue m then d
    else if !d.allowed m t write then fail .violation d
    else if d.gated t write then fail .gated d
    else fail .timeout (d.jumpTo (d.now + d.busNs 4096))

/-- GATE_FORCED (R76): a drain still open after 1,024 BUSCLK cycles is closed by force. -/
def execGateForced (b : Fin 21) : State → Out := liftDev fun d => d.when (bitAt d.clk.draining b) (forceGate b)

end Sys2Proof.Machine
end

