-- ==== Sys2Proof/Machine/SvcPort.lean ====
section
/-!
DEFINITION. Sys2Proof/Machine/SvcPort.lean: the transactions of the service port (R374 to R376) and the staging RAM's
clear and change of clock (R377).
-/
namespace Sys2Proof.Machine

/-- The status byte (R376). -/
def Dev.svcStatus (d : Dev) : Nat :=
  b2n (d.rd F.CLK_ROOTSTAT_CUR != 7) * 128 + b2n d.rst.bootDone * 64 + b2n d.rst.stgReady * 32 +
  b2n (decide (1 ≤ d.rst.hold ∧ d.rst.hold ≤ 4)) * 16 + b2n d.rst.svcErr * 8 + d.rst.svcCode % 8

/-- SVC_SDO gives bytes after the status byte of byte 0 (R374). -/
def sdoGives (status : Nat) (l : List (BitVec 8)) (d : Dev) : Dev :=
  { d with rst := { d.rst with sdo := BitVec.ofNat 8 status :: l } }

/-- A 32-bit word on the port, most significant byte first (R374). -/
def sdoWord (w : Nat) : List (BitVec 8) := (leBytes 4 w).reverse

/-- SVC_SCK cycles of a transaction: until staging RAM has passed to SAFECLK, its clear advances by one word in each,
and ends after 8,192 (R377). (DEDUCED, log 146.) -/
def sckAdvance (bytes : Nat) : List Host.Cell → Dev → Dev × List MemEff := fun _ d =>
  if d.rst.stagingSafe ∨ d.rst.stgReady then (d, [])
  else
    let n := d.rst.sckClear + 8 * bytes
    if n < 8192 then ({ d with rst := { d.rst with sckClear := n } }, [])
    else
      let words := (List.range 8192).map fun i => stagingBase + 8 * i
      (clearErrors words { d with rst := { d.rst with sckClear := 8192, stgReady := true } },
        [.clear stagingBase (stagingBase + 0x10000)])

/-- A transaction of a number of bytes on the port, while the device is powered. (DEDUCED, log 146.) -/
def transaction (bytes : Nat) (f : State → Out) (s : State) : Out :=
  if ¬ s.dev.rst.vinUp then .next s
  else match f s with
    | .next t => liftMem (sckAdvance bytes) t
    | o => o

/-- The code of the port's latest access (R376). -/
def noteCode (d : Dev) : Dev := { d with rst := { d.rst with svcCode := d.resp.code.code } }

/-- SVC_STATUS (R375): the status byte is given `n` times more, and ERR clears. -/
def execSvcStatus (n : Nat) : State → Out := transaction (n + 1) <| liftDev fun d =>
  let b := d.svcStatus
  let d := sdoGives b (List.replicate n (BitVec.ofNat 8 b)) d
  { d with rst := { d.rst with svcErr := false } }

/-- SVC_ID (R375). -/
def execSvcId : State → Out := transaction 17 <| liftDev fun d =>
  sdoGives d.svcStatus
    ([Reg.SVCPORT_ID0, .SVCPORT_ID1, .SVCPORT_ID2, .SVCPORT_ID3].flatMap fun r => sdoWord (d.word r)) d

/-- Words read upwards from an address, each as one 32-bit access; one that fails reads 0 (R375). -/
def svcReads (errs : List EccErr) (mem : List Host.Cell) : Nat → Nat → Dev → List (BitVec 8) × Dev
  | 0, _, d => ([], d)
  | n + 1, a, d =>
    let d := noteCode (busRead 12 a 4 errs mem d)
    let r := svcReads errs mem n (a + 4) d
    (sdoWord d.resp.data ++ r.1, r.2)

/-- SVC_READ (R375): `n` words from `addr` upwards; `errs` are bit errors that the reads find. -/
def execSvcRead (addr : Word) (n : Nat) (errs : List EccErr) : State → Out := transaction (6 + 4 * n) fun s =>
  let b := s.dev.svcStatus
  let r := svcReads errs s.mem n addr.toNat s.dev
  .next { s with dev := sdoGives b r.1 r.2 }

/-- Writes made one after the other: address, bytes, value. -/
def svcWrites (errs : List EccErr) : List (Nat × Nat × Nat) → State → Out
  | [], s => .next s
  | (a, n, v) :: rest, s =>
    match busWrite 12 a n v errs s with
    | .next t => svcWrites errs rest { t with dev := noteCode t.dev }
    | o => o

/-- The 64-bit units that the bridge combines words to, the one at the lower address first. -/
def svcPairs (a : Nat) : List Word → List (Nat × Nat × Nat)
  | x :: y :: t => (a, 8, x.toNat + y.toNat * 2 ^ 32) :: svcPairs (a + 8) t
  | _ => []

/-- The words as 32-bit accesses. -/
def svcSingles (a : Nat) : List Word → List (Nat × Nat × Nat)
  | x :: t => (a, 4, x.toNat) :: svcSingles (a + 4) t
  | [] => []

/-- Whether an address lies in staging RAM. -/
def inStaging (a : Nat) : Bool := MemRange.at a == some .staging

/-- The accesses of a WRITE outside staging RAM: where it runs into staging RAM, it is refused there. -/
def svcOutside (errs : List EccErr) : List (Nat × Nat × Nat) → State → Out
  | [], s => .next s
  | (a, n, v) :: rest, s =>
    if inStaging a then svcOutside errs rest { s with dev := busError 12 a true true .decode s.dev }
    else match svcWrites errs [(a, n, v)] s with
      | .next t => svcOutside errs rest t
      | o => o

/-- SVC_WRITE (R375): words are written from `addr` upwards, in aligned 64-bit units within staging RAM. -/
def execSvcWrite (addr : Word) (words : List Word) (errs : List EccErr) : State → Out :=
  transaction (5 + 4 * words.length) fun s =>
    let a := addr.toNat
    let s := { s with dev := sdoGives s.dev.svcStatus [] s.dev }
    if ¬ inStaging a then svcOutside errs (svcSingles a words) s
    else if a % 8 = 0 ∧ words.length % 2 = 0 then svcWrites errs (svcPairs a words) s
    else .next { s with dev := busError 12 a true true .decode s.dev }

/-- SVC_RESET (R375): with the key, a host reset begins when SVC_CS_N rises (R368). -/
def execSvcReset (key1 key2 ovr : BitVec 8) : State → Out := transaction 4 <| liftDev fun d =>
  let d := sdoGives d.svcStatus [] d
  let o := if bitAt ovr.toNat 7 then some (ovr.toNat % 4) else none
  d.when (key1 == 0xD1 && key2 == 0xCE) (hostReset 3 o)

/-- STAGING_HANDOVER (R377): SVC_CS_N rises with SAFECLK running, and staging RAM passes to SAFECLK. -/
def execStagingHandover : State → Out := liftDev fun d =>
  d.when (d.rst.vinUp && d.clk.pllS.released && !d.rst.stagingSafe) fun d =>
    { d with rst := { d.rst with stagingSafe := true } }

end Sys2Proof.Machine
end

