-- ==== Sys2Proof/Machine/Dispatch.lean ====
section
/-!
DEFINITION. Sys2Proof/Machine/Dispatch.lean: one arm per command, each one direct call of its meaning.
-/
namespace Sys2Proof.Machine

def exec (i : Instr) (s : State) : Host.Outcome State Fault Refusal :=
  match i with
  | .registerWrite m addr n data errs => Sys2Proof.Machine.execRegisterWrite m addr n data errs s
  | .pgKeyWrite m p v => Sys2Proof.Machine.execPgKeyWrite m p v s
  | .unlockTimeout p => Sys2Proof.Machine.execUnlockTimeout p s
  | .expertEnClear m p v => Sys2Proof.Machine.execExpertEnClear m p v s
  | .softReset m p v => Sys2Proof.Machine.execSoftReset m p v s
  | .blockResetDrained p forced => Sys2Proof.Machine.execBlockResetDrained p forced s
  | .pgErrforceWrite m p v => Sys2Proof.Machine.execPgErrforceWrite m p v s
  | .pgLockWrite m p v => Sys2Proof.Machine.execPgLockWrite m p v s
  | .busTimeout m addr write => Sys2Proof.Machine.execBusTimeout m addr write s
  | .berrRelease m => Sys2Proof.Machine.execBerrRelease m s
  | .interruptClaim m j => Sys2Proof.Machine.execInterruptClaim m j s
  | .interruptComplete m j v => Sys2Proof.Machine.execInterruptComplete m j v s
  | .softwareInterrupt m v => Sys2Proof.Machine.execSoftwareInterrupt m v s
  | .routeWrite m src v => Sys2Proof.Machine.execRouteWrite m src v s
  | .candidateLock idx => Sys2Proof.Machine.execCandidateLock idx s
  | .candidatePresent idx => Sys2Proof.Machine.execCandidatePresent idx s
  | .candidateLoss idx => Sys2Proof.Machine.execCandidateLoss idx s
  | .rootSrcWrite m v => Sys2Proof.Machine.execRootSrcWrite m v s
  | .pllLock pll => Sys2Proof.Machine.execPllLock pll s
  | .pllReady pll => Sys2Proof.Machine.execPllReady pll s
  | .releaseEdge pll => Sys2Proof.Machine.execReleaseEdge pll s
  | .pllStartTimeout pll => Sys2Proof.Machine.execPllStartTimeout pll s
  | .pllmRestart m => Sys2Proof.Machine.execPllmRestart m s
  | .pllsRestart m => Sys2Proof.Machine.execPllsRestart m s
  | .outCfgWrite m n v => Sys2Proof.Machine.execOutCfgWrite m n v s
  | .frequencyGateEnd idx count err => Sys2Proof.Machine.execFrequencyGateEnd idx count err s
  | .lockLoss pll => Sys2Proof.Machine.execLockLoss pll s
  | .relockFail pll => Sys2Proof.Machine.execRelockFail pll s
  | .doStep m v => Sys2Proof.Machine.execDoStep m v s
  | .domselWrite m v => Sys2Proof.Machine.execDomselWrite m v s
  | .domselResume f => Sys2Proof.Machine.execDomselResume f s
  | .swForced f => Sys2Proof.Machine.execSwForced f s
  | .gateRequest m v => Sys2Proof.Machine.execGateRequest m v s
  | .gateClose b => Sys2Proof.Machine.execGateClose b s
  | .gateForced b => Sys2Proof.Machine.execGateForced b s
  | .fmonStart m v => Sys2Proof.Machine.execFmonStart m v s
  | .fmonDone count => Sys2Proof.Machine.execFmonDone count s
  | .timeSnapshot m => Sys2Proof.Machine.execTimeSnapshot m s
  | .addendWrite m v => Sys2Proof.Machine.execAddendWrite m v s
  | .adjNsWrite m v => Sys2Proof.Machine.execAdjNsWrite m v s
  | .stepAbs m => Sys2Proof.Machine.execStepAbs m s
  | .stepRel m => Sys2Proof.Machine.execStepRel m s
  | .periodWrite m v => Sys2Proof.Machine.execPeriodWrite m v s
  | .alarmFire n => Sys2Proof.Machine.execAlarmFire n s
  | .alarmPulseEnd n => Sys2Proof.Machine.execAlarmPulseEnd n s
  | .wdEnable m v => Sys2Proof.Machine.execWdEnable m v s
  | .wdKick m v => Sys2Proof.Machine.execWdKick m v s
  | .timeRecordLate n => Sys2Proof.Machine.execTimeRecordLate n s
  | .tsqPop m port => Sys2Proof.Machine.execTsqPop m port s
  | .rimEnable m n v => Sys2Proof.Machine.execRimEnable m n v s
  | .rimDisable m n v => Sys2Proof.Machine.execRimDisable m n v s
  | .rimRxlockChange n lock => Sys2Proof.Machine.execRimRxlockChange n lock s
  | .linkDown n => Sys2Proof.Machine.execLinkDown n s
  | .rimFrameTransmit n => Sys2Proof.Machine.execRimFrameTransmit n s
  | .upFrame n b bs t4 => Sys2Proof.Machine.execUpFrame n b bs t4 s
  | .hello n claim r => Sys2Proof.Machine.execHello n claim r s
  | .echoRsp n pos r t4 => Sys2Proof.Machine.execEchoRsp n pos r t4 s
  | .cfgAck n pos r => Sys2Proof.Machine.execCfgAck n pos r s
  | .fwAck n pos r => Sys2Proof.Machine.execFwAck n pos r s
  | .telem n pos port r => Sys2Proof.Machine.execTelem n pos port r s
  | .tdelay n pos claim es => Sys2Proof.Machine.execTdelay n pos claim es s
  | .fault n pos r => Sys2Proof.Machine.execFault n pos r s
  | .discover m n v => Sys2Proof.Machine.execDiscover m n v s
  | .discoveryWindowEnd n => Sys2Proof.Machine.execDiscoveryWindowEnd n s
  | .discoveryLockTimeout n => Sys2Proof.Machine.execDiscoveryLockTimeout n s
  | .discoveryEnd n => Sys2Proof.Machine.execDiscoveryEnd n s
  | .autoRescan n => Sys2Proof.Machine.execAutoRescan n s
  | .cfgRetry k => Sys2Proof.Machine.execCfgRetry k s
  | .echoTrack k => Sys2Proof.Machine.execEchoTrack k s
  | .syncTimeout k => Sys2Proof.Machine.execSyncTimeout k s
  | .spokeLost k => Sys2Proof.Machine.execSpokeLost k s
  | .fwHelloTimeout k => Sys2Proof.Machine.execFwHelloTimeout k s
  | .spokeAdmit m k v => Sys2Proof.Machine.execSpokeAdmit m k v s
  | .spokeBypass m k v => Sys2Proof.Machine.execSpokeBypass m k v s
  | .spokeUnbypass m k v => Sys2Proof.Machine.execSpokeUnbypass m k v s
  | .spokeRescan m k v => Sys2Proof.Machine.execSpokeRescan m k v s
  | .spokeCfgWrite m k idx v => Sys2Proof.Machine.execSpokeCfgWrite m k idx v s
  | .interlockCfgSend k => Sys2Proof.Machine.execInterlockCfgSend k s
  | .telemetryCut n => Sys2Proof.Machine.execTelemetryCut n s
  | .fwStart m n v => Sys2Proof.Machine.execFwStart m n v s
  | .fwDataSend n => Sys2Proof.Machine.execFwDataSend n s
  | .fwActivate m n v => Sys2Proof.Machine.execFwActivate m n v s
  | .fwAbort m n v => Sys2Proof.Machine.execFwAbort m n v s
  | .carrierArm m c v => Sys2Proof.Machine.execCarrierArm m c v s
  | .carrierDisable m c v => Sys2Proof.Machine.execCarrierDisable m c v s
  | .carrierStart c => Sys2Proof.Machine.execCarrierStart c s
  | .carrierStop c => Sys2Proof.Machine.execCarrierStop c s
  | .commit c => Sys2Proof.Machine.execCommit c s
  | .leadWrite m v => Sys2Proof.Machine.execLeadWrite m v s
  | .xferRequest m c v => Sys2Proof.Machine.execXferRequest m c v s
  | .legCtrlWrite m l v => Sys2Proof.Machine.execLegCtrlWrite m l v s
  | .adaptEnable m l v => Sys2Proof.Machine.execAdaptEnable m l v s
  | .blockStart n => Sys2Proof.Machine.execBlockStart n s
  | .blockEnd n => Sys2Proof.Machine.execBlockEnd n s
  | .lateinfoRelease m => Sys2Proof.Machine.execLateinfoRelease m s
  | .refSrcWrite m v => Sys2Proof.Machine.execRefSrcWrite m v s
  | .selPush m c v => Sys2Proof.Machine.execSelPush m c v s
  | .queueFlush m c v => Sys2Proof.Machine.execQueueFlush m c v s
  | .conversionBoundary c => Sys2Proof.Machine.execConversionBoundary c s
  | .resultWrite c v vref => Sys2Proof.Machine.execResultWrite c v vref s
  | .adcTrigger c => Sys2Proof.Machine.execAdcTrigger c s
  | .adcSwtrig m c v => Sys2Proof.Machine.execAdcSwtrig m c v s
  | .injRequest m c v => Sys2Proof.Machine.execInjRequest m c v s
  | .injResult c v vref => Sys2Proof.Machine.execInjResult c v vref s
  | .fifoPop m c => Sys2Proof.Machine.execFifoPop m c s
  | .pairTimeout c => Sys2Proof.Machine.execPairTimeout c s
  | .dacWrite m p v => Sys2Proof.Machine.execDacWrite m p v s
  | .diagCfgWrite m p v => Sys2Proof.Machine.execDiagCfgWrite m p v s
  | .calStart m c v => Sys2Proof.Machine.execCalStart m c v s
  | .calBegin c => Sys2Proof.Machine.execCalBegin c s
  | .calDone c ok gain offset => Sys2Proof.Machine.execCalDone c ok gain offset s
  | .injectionDetector g active => Sys2Proof.Machine.execInjectionDetector g active s
  | .loopStart e => Sys2Proof.Machine.execLoopStart e s
  | .loopSwstart m e v => Sys2Proof.Machine.execLoopSwstart m e v s
  | .cascadeAdmit e errs => Sys2Proof.Machine.execCascadeAdmit e errs s
  | .waitSatisfied e => Sys2Proof.Machine.execWaitSatisfied e s
  | .sectionIssue e errs => Sys2Proof.Machine.execSectionIssue e errs s
  | .cascadeComplete e => Sys2Proof.Machine.execCascadeComplete e s
  | .outputLand e => Sys2Proof.Machine.execOutputLand e s
  | .loopDeadline e => Sys2Proof.Machine.execLoopDeadline e s
  | .swapRequest m v => Sys2Proof.Machine.execSwapRequest m v s
  | .grpCfgWrite m g v => Sys2Proof.Machine.execGrpCfgWrite m g v s
  | .traceArm m e v => Sys2Proof.Machine.execTraceArm m e v s
  | .traceStop m e v => Sys2Proof.Machine.execTraceStop m e v s
  | .traceForce m e v => Sys2Proof.Machine.execTraceForce m e v s
  | .traceRecord e => Sys2Proof.Machine.execTraceRecord e s
  | .traceCfgWrite m e w v => Sys2Proof.Machine.execTraceCfgWrite m e w v s
  | .runmaxClear m e => Sys2Proof.Machine.execRunmaxClear m e s
  | .naninfoRelease m e => Sys2Proof.Machine.execNaninfoRelease m e s
  | .claimLearn m v => Sys2Proof.Machine.execClaimLearn m v s
  | .hbSend lane off => Sys2Proof.Machine.execHbSend lane off s
  | .hbReceive lane hb t2 => Sys2Proof.Machine.execHbReceive lane hb t2 s
  | .rimSilent n => Sys2Proof.Machine.execRimSilent n s
  | .peerFrame n b bs sof tp => Sys2Proof.Machine.execPeerFrame n b bs sof tp s
  | .adtRecord l dir adt fb => Sys2Proof.Machine.execAdtRecord l dir adt fb s
  | .swapRecord mask => Sys2Proof.Machine.execSwapRecord mask s
  | .resign m v => Sys2Proof.Machine.execResign m v s
  | .mirrorListLoad m v => Sys2Proof.Machine.execMirrorListLoad m v s
  | .mdata off data => Sys2Proof.Machine.execMdata off data s
  | .mend epoch ns sec ebytes crc => Sys2Proof.Machine.execMend epoch ns sec ebytes crc s
  | .sourceLatch n => Sys2Proof.Machine.execSourceLatch n s
  | .fcRelease m => Sys2Proof.Machine.execFcRelease m s
  | .fcUnblock m => Sys2Proof.Machine.execFcUnblock m s
  | .swfault m => Sys2Proof.Machine.execSwfault m s
  | .forceWrite m hi v => Sys2Proof.Machine.execForceWrite m hi v s
  | .tforceWrite m hi v => Sys2Proof.Machine.execTforceWrite m hi v s
  | .scoreClear m hi v => Sys2Proof.Machine.execScoreClear m hi v s
  | .classWrite m n v => Sys2Proof.Machine.execClassWrite m n v s
  | .firstRelease m => Sys2Proof.Machine.execFirstRelease m s
  | .tripWrite m v => Sys2Proof.Machine.execTripWrite m v s
  | .tripMinExpire n => Sys2Proof.Machine.execTripMinExpire n s
  | .tripCfgWrite m v => Sys2Proof.Machine.execTripCfgWrite m v s
  | .blockCommand m v => Sys2Proof.Machine.execBlockCommand m v s
  | .aliveKick m v => Sys2Proof.Machine.execAliveKick m v s
  | .svcHang core => Sys2Proof.Machine.execSvcHang core s
  | .svcCacheError core l2 => Sys2Proof.Machine.execSvcCacheError core l2 s
  | .thermSample temps => Sys2Proof.Machine.execThermSample temps s
  | .throttleWrite m v => Sys2Proof.Machine.execThrottleWrite m v s
  | .throttleReq m v => Sys2Proof.Machine.execThrottleReq m v s
  | .sramClearDone safe => Sys2Proof.Machine.execSramClearDone safe s
  | .scrubStep err => Sys2Proof.Machine.execScrubStep err s
  | .safetyScrubStep err => Sys2Proof.Machine.execSafetyScrubStep err s
  | .eccRelease m => Sys2Proof.Machine.execEccRelease m s
  | .xspiRead m v data => Sys2Proof.Machine.execXspiRead m v data s
  | .xspiProg m v => Sys2Proof.Machine.execXspiProg m v s
  | .xspiErase m v => Sys2Proof.Machine.execXspiErase m v s
  | .xspiRegRd m v data => Sys2Proof.Machine.execXspiRegRd m v data s
  | .xspiRegWr m v => Sys2Proof.Machine.execXspiRegWr m v s
  | .xspiDataPop m => Sys2Proof.Machine.execXspiDataPop m s
  | .xspiDataPush m v => Sys2Proof.Machine.execXspiDataPush m v s
  | .dmaStart m h v => Sys2Proof.Machine.execDmaStart m h v s
  | .dmaFetch h errs => Sys2Proof.Machine.execDmaFetch h errs s
  | .dmaSwtrig m h v => Sys2Proof.Machine.execDmaSwtrig m h v s
  | .dmaReadBeat h n errs => Sys2Proof.Machine.execDmaReadBeat h n errs s
  | .dmaWriteResponse h n errs => Sys2Proof.Machine.execDmaWriteResponse h n errs s
  | .dmaWriteback h errs => Sys2Proof.Machine.execDmaWriteback h errs s
  | .dmaAbort m h v => Sys2Proof.Machine.execDmaAbort m h v s
  | .stationFrameRx port bytes fcsOk ago => Sys2Proof.Machine.execStationFrameRx port bytes fcsOk ago s
  | .svTimeout sub => Sys2Proof.Machine.execSvTimeout sub s
  | .gooseTimeout sub => Sys2Proof.Machine.execGooseTimeout sub s
  | .rraItem errs => Sys2Proof.Machine.execRraItem errs s
  | .rraSessionEnable m j v => Sys2Proof.Machine.execRraSessionEnable m j v s
  | .rxDescPop m port => Sys2Proof.Machine.execRxDescPop m port s
  | .rxDataRead m port => Sys2Proof.Machine.execRxDataRead m port s
  | .txDescWrite m port v => Sys2Proof.Machine.execTxDescWrite m port v s
  | .txDataPush m port v => Sys2Proof.Machine.execTxDataPush m port v s
  | .stationTx port ago => Sys2Proof.Machine.execStationTx port ago s
  | .hsrForward port ago => Sys2Proof.Machine.execHsrForward port ago s
  | .stationLinkLoss port => Sys2Proof.Machine.execStationLinkLoss port s
  | .goosePubEnable m u v => Sys2Proof.Machine.execGoosePubEnable m u v s
  | .goosePubDisable m u v => Sys2Proof.Machine.execGoosePubDisable m u v s
  | .gooseStateChange m u v => Sys2Proof.Machine.execGooseStateChange m u v s
  | .gooseRetransmit u => Sys2Proof.Machine.execGooseRetransmit u s
  | .vinMeasure mv => Sys2Proof.Machine.execVinMeasure mv s
  | .vminClear m v => Sys2Proof.Machine.execVminClear m v s
  | .ivrFault r => Sys2Proof.Machine.execIvrFault r s
  | .domWrite m v => Sys2Proof.Machine.execDomWrite m v s
  | .domSwitchDone dom forced => Sys2Proof.Machine.execDomSwitchDone dom forced s
  | .reqRun m v => Sys2Proof.Machine.execReqRun m v s
  | .reqShed m v => Sys2Proof.Machine.execReqShed m v s
  | .reqStandby m v => Sys2Proof.Machine.execReqStandby m v s
  | .reqHibernate m v => Sys2Proof.Machine.execReqHibernate m v s
  | .powerOnReset bootsrc tandemId => Sys2Proof.Machine.execPowerOnReset bootsrc tandemId s
  | .resetHost m v => Sys2Proof.Machine.execResetHost m v s
  | .resetSafety m v => Sys2Proof.Machine.execResetSafety m v s
  | .resetService m v => Sys2Proof.Machine.execResetService m v s
  | .svcStatus n => Sys2Proof.Machine.execSvcStatus n s
  | .svcRead addr n errs => Sys2Proof.Machine.execSvcRead addr n errs s
  | .svcWrite addr words errs => Sys2Proof.Machine.execSvcWrite addr words errs s
  | .svcReset key1 key2 ovr => Sys2Proof.Machine.execSvcReset key1 key2 ovr s
  | .bootStageEnd err dirA dirB image => Sys2Proof.Machine.execBootStageEnd err dirA dirB image s
  | .svcportGo m v => Sys2Proof.Machine.execSvcportGo m v s
  | .bootLoad port bytes => Sys2Proof.Machine.execBootLoad port bytes s
  | .bootGo port bytes => Sys2Proof.Machine.execBootGo port bytes s
  | .otpRbAdvance m v => Sys2Proof.Machine.execOtpRbAdvance m v s
  | .otpOwner m v => Sys2Proof.Machine.execOtpOwner m v s
  | .otpPatch m v => Sys2Proof.Machine.execOtpPatch m v s
  | .otpBitBurn ok => Sys2Proof.Machine.execOtpBitBurn ok s
  | .vStart m => Sys2Proof.Machine.execVStart m s
  | .vDone bus => Sys2Proof.Machine.execVDone bus s
  | .vCommit m => Sys2Proof.Machine.execVCommit m s
  | .vProfile m => Sys2Proof.Machine.execVProfile m s
  | .vAbort m => Sys2Proof.Machine.execVAbort m s
  | .vClear m => Sys2Proof.Machine.execVClear m s
  | .protSwap m => Sys2Proof.Machine.execProtSwap m s
  | .attestStart m => Sys2Proof.Machine.execAttestStart m s
  | .attestPubkey m => Sys2Proof.Machine.execAttestPubkey m s
  | .updSet m v => Sys2Proof.Machine.execUpdSet m v s
  | .busRead m addr n errs => Sys2Proof.Machine.execBusRead m addr n errs s
  | .stationLinkChange port lock aneg => Sys2Proof.Machine.execStationLinkChange port lock aneg s
  | .tandemLaneLockChange lane lock => Sys2Proof.Machine.execTandemLaneLockChange lane lock s
  | .ivrFaultEnd r => Sys2Proof.Machine.execIvrFaultEnd r s
  | .gpioInputChange pin level pulse => Sys2Proof.Machine.execGpioInputChange pin level pulse s
  | .missingEdge => Sys2Proof.Machine.execMissingEdge s
  | .slewEnd => Sys2Proof.Machine.execSlewEnd s
  | .fmonNogate => Sys2Proof.Machine.execFmonNogate s
  | .distBoundary => Sys2Proof.Machine.execDistBoundary s
  | .stepLanding => Sys2Proof.Machine.execStepLanding s
  | .periodChange => Sys2Proof.Machine.execPeriodChange s
  | .wdExpire => Sys2Proof.Machine.execWdExpire s
  | .rimCycle => Sys2Proof.Machine.execRimCycle s
  | .generate => Sys2Proof.Machine.execGenerate s
  | .triggerFire => Sys2Proof.Machine.execTriggerFire s
  | .refSettled => Sys2Proof.Machine.execRefSettled s
  | .learnEnd => Sys2Proof.Machine.execLearnEnd s
  | .hbSilent => Sys2Proof.Machine.execHbSilent s
  | .takeover => Sys2Proof.Machine.execTakeover s
  | .takeoverComplete => Sys2Proof.Machine.execTakeoverComplete s
  | .relinquish => Sys2Proof.Machine.execRelinquish s
  | .resignFail => Sys2Proof.Machine.execResignFail s
  | .mirrorCapture => Sys2Proof.Machine.execMirrorCapture s
  | .mirrorStreamEnd => Sys2Proof.Machine.execMirrorStreamEnd s
  | .mirrorApply => Sys2Proof.Machine.execMirrorApply s
  | .mirrorApplyEnd => Sys2Proof.Machine.execMirrorApplyEnd s
  | .faultRecovery => Sys2Proof.Machine.execFaultRecovery s
  | .lockstepMiscompare => Sys2Proof.Machine.execLockstepMiscompare s
  | .aliveToggle => Sys2Proof.Machine.execAliveToggle s
  | .kickExpire => Sys2Proof.Machine.execKickExpire s
  | .shedRequestEnd => Sys2Proof.Machine.execShedRequestEnd s
  | .thermJudge => Sys2Proof.Machine.execThermJudge s
  | .shutdownHibernate => Sys2Proof.Machine.execShutdownHibernate s
  | .eccWriteback => Sys2Proof.Machine.execEccWriteback s
  | .xspiCmdDone => Sys2Proof.Machine.execXspiCmdDone s
  | .xspiPollTimeout => Sys2Proof.Machine.execXspiPollTimeout s
  | .dmaBurst => Sys2Proof.Machine.execDmaBurst s
  | .dmaWindowEnd => Sys2Proof.Machine.execDmaWindowEnd s
  | .svAsdu => Sys2Proof.Machine.execSvAsdu s
  | .gooseMessage => Sys2Proof.Machine.execGooseMessage s
  | .rraRequest => Sys2Proof.Machine.execRraRequest s
  | .rraResponse => Sys2Proof.Machine.execRraResponse s
  | .redSupervision => Sys2Proof.Machine.execRedSupervision s
  | .vinWarn => Sys2Proof.Machine.execVinWarn s
  | .vinWarnHeld => Sys2Proof.Machine.execVinWarnHeld s
  | .vinWarnEnd => Sys2Proof.Machine.execVinWarnEnd s
  | .vinResetLevel => Sys2Proof.Machine.execVinResetLevel s
  | .vddaLow => Sys2Proof.Machine.execVddaLow s
  | .vddaRecover => Sys2Proof.Machine.execVddaRecover s
  | .vddaRecoveryEnd => Sys2Proof.Machine.execVddaRecoveryEnd s
  | .powerDomainSwitch => Sys2Proof.Machine.execPowerDomainSwitch s
  | .powerTransitionDone => Sys2Proof.Machine.execPowerTransitionDone s
  | .pinReset => Sys2Proof.Machine.execPinReset s
  | .resetRelease => Sys2Proof.Machine.execResetRelease s
  | .svcId => Sys2Proof.Machine.execSvcId s
  | .stagingHandover => Sys2Proof.Machine.execStagingHandover s
  | .attestDone => Sys2Proof.Machine.execAttestDone s
  | .tfLost => Sys2Proof.Machine.execTfLost s
  | .resetNRise => Sys2Proof.Machine.execResetNRise s

end Sys2Proof.Machine
end

