-- ==== Sys2Proof/Machine/Step.lean ====
section
/-!
DEFINITION. Sys2Proof/Machine/Step.lean: one step takes the command at the front of the queue. On an empty queue the
block idles: one tick of 1 ns passes (R11, R83).
-/
namespace Sys2Proof.Machine

/-- The state after a tick of 1 ns in which nothing is commanded. (DESIGN CHOICE, log 1.) -/
def State.tick (s : State) : State := { s with dev := s.dev.jumpTo (s.dev.now + 1) }

/-- One step: the front command acts on the state with the queue's rest; an empty queue lets a tick pass.
(DESIGN CHOICE, log 1.) -/
def step (s : State) : Host.Outcome State Fault Refusal :=
  match s.pending with
  | [] => .next s.tick
  | c :: rest => exec c { s with pending := rest }

/-- The state with the command that a word spells at the front of its queue; unchanged where it spells none.
(DESIGN CHOICE, log 5.) -/
def State.withFetchWord (s : State) (nbits w : Nat) : State :=
  match Sys2Proof.decodeTableWord nbits w with
  | none => s
  | some c => { s with pending := c :: s.pending }

end Sys2Proof.Machine
end

