-- ==== Sys2Proof/WellFormed.lean ====
section
/-!
DEFINITION. Sys2Proof/WellFormed.lean: what a well-formed command is: a bus master that exists (R38), a page that exists
(R24, R25), the bit or code by which a row of the table differs from a plain write of the same register, and records of
the length their layout gives (R122, R292).
-/
namespace Sys2Proof

open Machine

/-- The bus masters that exist (R38). -/
def validMaster (m : Nat) : Bool := decide (m ≤ 12) || (decide (16 ≤ m) && decide (m ≤ 47))

/-- Whether a page exists (R24, R25). -/
def pageExists (p : Page) : Bool := Page.atAddr p.base == some p

/-- Bit errors are stored in aligned 64-bit words (R300). -/
def errsWf (errs : List EccErr) : Bool := errs.all fun e => e.word % 8 == 0

/-- Whether a command is well formed. -/
def Instr.wf : Instr → Bool
  | .registerWrite m _ _ _ errs => validMaster m && errsWf errs
  | .pgKeyWrite m p _ => validMaster m && pageExists p
  | .unlockTimeout p => pageExists p
  | .expertEnClear m p v => validMaster m && (pageExists p && bitAt v.toNat (F.PG_CTRL_EXPERT_EN p).lo)
  | .softReset m p v => validMaster m && (pageExists p && bitAt v.toNat (F.PG_CTRL_SOFT_RESET p).lo)
  | .blockResetDrained p _ => pageExists p
  | .pgErrforceWrite m p _ => validMaster m && pageExists p
  | .pgLockWrite m p _ => validMaster m && pageExists p
  | .busTimeout m _ _ => validMaster m
  | .berrRelease m => validMaster m
  | .interruptClaim m _ => validMaster m
  | .interruptComplete m _ _ => validMaster m
  | .softwareInterrupt m _ => validMaster m
  | .routeWrite m _ _ => validMaster m
  | .candidateLock _ => true
  | .candidatePresent _ => true
  | .candidateLoss _ => true
  | .rootSrcWrite m _ => validMaster m
  | .pllLock _ => true
  | .pllReady _ => true
  | .releaseEdge _ => true
  | .pllStartTimeout _ => true
  | .pllmRestart m => validMaster m
  | .pllsRestart m => validMaster m
  | .outCfgWrite m _ _ => validMaster m
  | .frequencyGateEnd _ _ _ => true
  | .lockLoss _ => true
  | .relockFail _ => true
  | .doStep m v => validMaster m && bitAt v.toNat F.CLK_PHASE_POLICY_DO_STEP.lo
  | .domselWrite m _ => validMaster m
  | .domselResume _ => true
  | .swForced _ => true
  | .gateRequest m _ => validMaster m
  | .gateClose _ => true
  | .gateForced _ => true
  | .fmonStart m v => validMaster m && bitAt v.toNat F.CLK_FMON_CFG_START.lo
  | .fmonDone _ => true
  | .timeSnapshot m => validMaster m
  | .addendWrite m _ => validMaster m
  | .adjNsWrite m _ => validMaster m
  | .stepAbs m => validMaster m
  | .stepRel m => validMaster m
  | .periodWrite m _ => validMaster m
  | .alarmFire _ => true
  | .alarmPulseEnd _ => true
  | .wdEnable m _ => validMaster m
  | .wdKick m _ => validMaster m
  | .timeRecordLate _ => true
  | .tsqPop m _ => validMaster m
  | .rimEnable m n v => validMaster m && bitAt v.toNat (F.PG_CTRL_ENABLE (.RIM n)).lo
  | .rimDisable m n v => validMaster m && !bitAt v.toNat (F.PG_CTRL_ENABLE (.RIM n)).lo
  | .rimRxlockChange _ _ => true
  | .linkDown _ => true
  | .rimFrameTransmit _ => true
  | .upFrame _ _ _ _ => true
  | .hello _ _ _ => true
  | .echoRsp _ _ _ _ => true
  | .cfgAck _ _ _ => true
  | .fwAck _ _ _ => true
  | .telem _ _ _ r => (r.words.length == 28)
  | .tdelay _ _ _ _ => true
  | .fault _ _ _ => true
  | .discover m n v => validMaster m && bitAt v.toNat (F.RIM_CTRL_DISCOVER n).lo
  | .discoveryWindowEnd _ => true
  | .discoveryLockTimeout _ => true
  | .discoveryEnd _ => true
  | .autoRescan _ => true
  | .cfgRetry _ => true
  | .echoTrack _ => true
  | .syncTimeout _ => true
  | .spokeLost _ => true
  | .fwHelloTimeout _ => true
  | .spokeAdmit m k v => validMaster m && bitAt v.toNat (F.SPOKE_CTRL_ADMIT k).lo
  | .spokeBypass m k v => validMaster m && bitAt v.toNat (F.SPOKE_CTRL_BYPASS k).lo
  | .spokeUnbypass m k v => validMaster m && bitAt v.toNat (F.SPOKE_CTRL_UNBYPASS k).lo
  | .spokeRescan m k v => validMaster m && bitAt v.toNat (F.SPOKE_CTRL_RESCAN k).lo
  | .spokeCfgWrite m _ _ _ => validMaster m
  | .interlockCfgSend _ => true
  | .telemetryCut _ => true
  | .fwStart m n v => validMaster m && bitAt v.toNat (F.RIM_FW_CTRL_START n).lo
  | .fwDataSend _ => true
  | .fwActivate m n v => validMaster m && bitAt v.toNat (F.RIM_FW_CTRL_ACTIVATE n).lo
  | .fwAbort m n v => validMaster m && bitAt v.toNat (F.RIM_FW_CTRL_ABORT n).lo
  | .carrierArm m c v => validMaster m && bitAt v.toNat (F.EDGE_CAR_CTRL_EN c).lo
  | .carrierDisable m c v => validMaster m && !bitAt v.toNat (F.EDGE_CAR_CTRL_EN c).lo
  | .carrierStart _ => true
  | .carrierStop _ => true
  | .commit _ => true
  | .leadWrite m _ => validMaster m
  | .xferRequest m _ _ => validMaster m
  | .legCtrlWrite m _ _ => validMaster m
  | .adaptEnable m _ _ => validMaster m
  | .blockStart _ => true
  | .blockEnd _ => true
  | .lateinfoRelease m => validMaster m
  | .refSrcWrite m _ => validMaster m
  | .selPush m _ _ => validMaster m
  | .queueFlush m c v => validMaster m && bitAt v.toNat (F.ADC_CTRL_FLUSH c).lo
  | .conversionBoundary _ => true
  | .resultWrite _ _ _ => true
  | .adcTrigger _ => true
  | .adcSwtrig m c v => validMaster m && bitAt v.toNat (F.ADC_CTRL_SWTRIG c).lo
  | .injRequest m _ _ => validMaster m
  | .injResult _ _ _ => true
  | .fifoPop m _ => validMaster m
  | .pairTimeout _ => true
  | .dacWrite m _ _ => validMaster m
  | .diagCfgWrite m _ _ => validMaster m
  | .calStart m c v => validMaster m && bitAt v.toNat (F.ADC_CAL_START c).lo
  | .calBegin _ => true
  | .calDone _ _ _ _ => true
  | .injectionDetector _ _ => true
  | .loopStart _ => true
  | .loopSwstart m e v => validMaster m && bitAt v.toNat (F.LOOP_CTRL_SWSTART e).lo
  | .cascadeAdmit _ errs => errsWf errs
  | .waitSatisfied _ => true
  | .sectionIssue _ errs => errsWf errs
  | .cascadeComplete _ => true
  | .outputLand _ => true
  | .loopDeadline _ => true
  | .swapRequest m _ => validMaster m
  | .grpCfgWrite m _ _ => validMaster m
  | .traceArm m e v => validMaster m && bitAt v.toNat (F.LOOP_TRACE_CTRL_ARM e).lo
  | .traceStop m e v => validMaster m && bitAt v.toNat (F.LOOP_TRACE_CTRL_STOP e).lo
  | .traceForce m e v => validMaster m && bitAt v.toNat (F.LOOP_TRACE_CTRL_FORCE e).lo
  | .traceRecord _ => true
  | .traceCfgWrite m _ _ _ => validMaster m
  | .runmaxClear m _ => validMaster m
  | .naninfoRelease m _ => validMaster m
  | .claimLearn m v => validMaster m && bitAt v.toNat F.SAFE_CLAIM_CTRL_LEARN.lo
  | .hbSend _ _ => true
  | .hbReceive _ _ _ => true
  | .rimSilent _ => true
  | .peerFrame _ _ _ _ _ => true
  | .adtRecord _ _ _ _ => true
  | .swapRecord _ => true
  | .resign m v => validMaster m && bitAt v.toNat F.SAFE_CLAIM_CTRL_RESIGN.lo
  | .mirrorListLoad m v => validMaster m && bitAt v.toNat F.TANDEM_MCTRL_LOAD.lo
  | .mdata _ _ => true
  | .mend _ _ _ _ _ => true
  | .sourceLatch _ => true
  | .fcRelease m => validMaster m
  | .fcUnblock m => validMaster m
  | .swfault m => validMaster m
  | .forceWrite m _ _ => validMaster m
  | .tforceWrite m _ _ => validMaster m
  | .scoreClear m _ _ => validMaster m
  | .classWrite m _ _ => validMaster m
  | .firstRelease m => validMaster m
  | .tripWrite m _ => validMaster m
  | .tripMinExpire _ => true
  | .tripCfgWrite m _ => validMaster m
  | .blockCommand m _ => validMaster m
  | .aliveKick m _ => validMaster m
  | .svcHang _ => true
  | .svcCacheError _ _ => true
  | .thermSample temps => (temps.length == 24)
  | .throttleWrite m _ => validMaster m
  | .throttleReq m _ => validMaster m
  | .sramClearDone _ => true
  | .scrubStep _ => true
  | .safetyScrubStep _ => true
  | .eccRelease m => validMaster m
  | .xspiRead m v _ => validMaster m && (bitsOf v.toNat F.XSPI_CMD_KIND.lo F.XSPI_CMD_KIND.w == 0)
  | .xspiProg m v => validMaster m && (bitsOf v.toNat F.XSPI_CMD_KIND.lo F.XSPI_CMD_KIND.w == 1)
  | .xspiErase m v => validMaster m && (bitsOf v.toNat F.XSPI_CMD_KIND.lo F.XSPI_CMD_KIND.w == 2)
  | .xspiRegRd m v _ => validMaster m && (bitsOf v.toNat F.XSPI_CMD_KIND.lo F.XSPI_CMD_KIND.w == 3)
  | .xspiRegWr m v => validMaster m && (bitsOf v.toNat F.XSPI_CMD_KIND.lo F.XSPI_CMD_KIND.w == 4)
  | .xspiDataPop m => validMaster m
  | .xspiDataPush m _ => validMaster m
  | .dmaStart m h v => validMaster m && bitAt v.toNat (F.DMA_CH_CTRL_START h).lo
  | .dmaFetch _ errs => errsWf errs
  | .dmaSwtrig m h v => validMaster m && bitAt v.toNat (F.DMA_CH_CTRL_SWTRIG h).lo
  | .dmaReadBeat _ _ errs => errsWf errs
  | .dmaWriteResponse _ _ errs => errsWf errs
  | .dmaWriteback _ errs => errsWf errs
  | .dmaAbort m h v => validMaster m && bitAt v.toNat (F.DMA_CH_CTRL_ABORT h).lo
  | .stationFrameRx _ _ _ _ => true
  | .svTimeout _ => true
  | .gooseTimeout _ => true
  | .rraItem errs => errsWf errs
  | .rraSessionEnable m j v => validMaster m && bitAt v.toNat (F.STATION_SES_CTRL_EN j).lo
  | .rxDescPop m _ => validMaster m
  | .rxDataRead m _ => validMaster m
  | .txDescWrite m _ _ => validMaster m
  | .txDataPush m _ _ => validMaster m
  | .stationTx _ _ => true
  | .hsrForward _ _ => true
  | .stationLinkLoss _ => true
  | .goosePubEnable m u v => validMaster m && bitAt v.toNat (F.STATION_PUB_CTRL_EN u).lo
  | .goosePubDisable m u v => validMaster m && !bitAt v.toNat (F.STATION_PUB_CTRL_EN u).lo
  | .gooseStateChange m _ _ => validMaster m
  | .gooseRetransmit _ => true
  | .vinMeasure _ => true
  | .vminClear m v => validMaster m && bitAt v.toNat F.PWR_VMIN_CLR.lo
  | .ivrFault _ => true
  | .domWrite m _ => validMaster m
  | .domSwitchDone _ _ => true
  | .reqRun m v => validMaster m && (bitsOf v.toNat F.PWR_STATE_REQ.lo F.PWR_STATE_REQ.w == 0)
  | .reqShed m v => validMaster m && (bitsOf v.toNat F.PWR_STATE_REQ.lo F.PWR_STATE_REQ.w == 1)
  | .reqStandby m v => validMaster m && (bitsOf v.toNat F.PWR_STATE_REQ.lo F.PWR_STATE_REQ.w == 2)
  | .reqHibernate m v => validMaster m && (bitsOf v.toNat F.PWR_STATE_REQ.lo F.PWR_STATE_REQ.w == 3)
  | .powerOnReset _ _ => true
  | .resetHost m v => validMaster m && (bitsOf v.toNat F.RST_REQ_KIND.lo F.RST_REQ_KIND.w == 1)
  | .resetSafety m v => validMaster m && (bitsOf v.toNat F.RST_REQ_KIND.lo F.RST_REQ_KIND.w == 2)
  | .resetService m v => validMaster m && (bitsOf v.toNat F.RST_REQ_KIND.lo F.RST_REQ_KIND.w == 3)
  | .svcStatus _ => true
  | .svcRead _ _ errs => errsWf errs
  | .svcWrite _ _ errs => errsWf errs
  | .svcReset _ _ _ => true
  | .bootStageEnd _ _ _ _ => true
  | .svcportGo m _ => validMaster m
  | .bootLoad _ _ => true
  | .bootGo _ _ => true
  | .otpRbAdvance m v => validMaster m && (bitsOf v.toNat F.KEYS_OTP_CTRL_OP.lo F.KEYS_OTP_CTRL_OP.w == 1)
  | .otpOwner m v => validMaster m && (bitsOf v.toNat F.KEYS_OTP_CTRL_OP.lo F.KEYS_OTP_CTRL_OP.w == 2)
  | .otpPatch m v => validMaster m && (bitsOf v.toNat F.KEYS_OTP_CTRL_OP.lo F.KEYS_OTP_CTRL_OP.w == 3)
  | .otpBitBurn _ => true
  | .vStart m => validMaster m
  | .vDone _ => true
  | .vCommit m => validMaster m
  | .vProfile m => validMaster m
  | .vAbort m => validMaster m
  | .vClear m => validMaster m
  | .protSwap m => validMaster m
  | .attestStart m => validMaster m
  | .attestPubkey m => validMaster m
  | .updSet m _ => validMaster m
  | .busRead m _ _ errs => validMaster m && errsWf errs
  | .stationLinkChange _ _ _ => true
  | .tandemLaneLockChange _ _ => true
  | .ivrFaultEnd _ => true
  | .gpioInputChange _ _ _ => true
  | .missingEdge => true
  | .slewEnd => true
  | .fmonNogate => true
  | .distBoundary => true
  | .stepLanding => true
  | .periodChange => true
  | .wdExpire => true
  | .rimCycle => true
  | .generate => true
  | .triggerFire => true
  | .refSettled => true
  | .learnEnd => true
  | .hbSilent => true
  | .takeover => true
  | .takeoverComplete => true
  | .relinquish => true
  | .resignFail => true
  | .mirrorCapture => true
  | .mirrorStreamEnd => true
  | .mirrorApply => true
  | .mirrorApplyEnd => true
  | .faultRecovery => true
  | .lockstepMiscompare => true
  | .aliveToggle => true
  | .kickExpire => true
  | .shedRequestEnd => true
  | .thermJudge => true
  | .shutdownHibernate => true
  | .eccWriteback => true
  | .xspiCmdDone => true
  | .xspiPollTimeout => true
  | .dmaBurst => true
  | .dmaWindowEnd => true
  | .svAsdu => true
  | .gooseMessage => true
  | .rraRequest => true
  | .rraResponse => true
  | .redSupervision => true
  | .vinWarn => true
  | .vinWarnHeld => true
  | .vinWarnEnd => true
  | .vinResetLevel => true
  | .vddaLow => true
  | .vddaRecover => true
  | .vddaRecoveryEnd => true
  | .powerDomainSwitch => true
  | .powerTransitionDone => true
  | .pinReset => true
  | .resetRelease => true
  | .svcId => true
  | .stagingHandover => true
  | .attestDone => true
  | .tfLost => true
  | .resetNRise => true

/-- The bus master that a command names, where it is a bus access. -/
def Instr.master? : Instr → Option Nat
  | .registerWrite m _ _ _ _ => some m
  | .pgKeyWrite m _ _ => some m
  | .unlockTimeout _ => none
  | .expertEnClear m _ _ => some m
  | .softReset m _ _ => some m
  | .blockResetDrained _ _ => none
  | .pgErrforceWrite m _ _ => some m
  | .pgLockWrite m _ _ => some m
  | .busTimeout m _ _ => some m
  | .berrRelease m => some m
  | .interruptClaim m _ => some m
  | .interruptComplete m _ _ => some m
  | .softwareInterrupt m _ => some m
  | .routeWrite m _ _ => some m
  | .candidateLock _ => none
  | .candidatePresent _ => none
  | .candidateLoss _ => none
  | .rootSrcWrite m _ => some m
  | .pllLock _ => none
  | .pllReady _ => none
  | .releaseEdge _ => none
  | .pllStartTimeout _ => none
  | .pllmRestart m => some m
  | .pllsRestart m => some m
  | .outCfgWrite m _ _ => some m
  | .frequencyGateEnd _ _ _ => none
  | .lockLoss _ => none
  | .relockFail _ => none
  | .doStep m _ => some m
  | .domselWrite m _ => some m
  | .domselResume _ => none
  | .swForced _ => none
  | .gateRequest m _ => some m
  | .gateClose _ => none
  | .gateForced _ => none
  | .fmonStart m _ => some m
  | .fmonDone _ => none
  | .timeSnapshot m => some m
  | .addendWrite m _ => some m
  | .adjNsWrite m _ => some m
  | .stepAbs m => some m
  | .stepRel m => some m
  | .periodWrite m _ => some m
  | .alarmFire _ => none
  | .alarmPulseEnd _ => none
  | .wdEnable m _ => some m
  | .wdKick m _ => some m
  | .timeRecordLate _ => none
  | .tsqPop m _ => some m
  | .rimEnable m _ _ => some m
  | .rimDisable m _ _ => some m
  | .rimRxlockChange _ _ => none
  | .linkDown _ => none
  | .rimFrameTransmit _ => none
  | .upFrame _ _ _ _ => none
  | .hello _ _ _ => none
  | .echoRsp _ _ _ _ => none
  | .cfgAck _ _ _ => none
  | .fwAck _ _ _ => none
  | .telem _ _ _ _ => none
  | .tdelay _ _ _ _ => none
  | .fault _ _ _ => none
  | .discover m _ _ => some m
  | .discoveryWindowEnd _ => none
  | .discoveryLockTimeout _ => none
  | .discoveryEnd _ => none
  | .autoRescan _ => none
  | .cfgRetry _ => none
  | .echoTrack _ => none
  | .syncTimeout _ => none
  | .spokeLost _ => none
  | .fwHelloTimeout _ => none
  | .spokeAdmit m _ _ => some m
  | .spokeBypass m _ _ => some m
  | .spokeUnbypass m _ _ => some m
  | .spokeRescan m _ _ => some m
  | .spokeCfgWrite m _ _ _ => some m
  | .interlockCfgSend _ => none
  | .telemetryCut _ => none
  | .fwStart m _ _ => some m
  | .fwDataSend _ => none
  | .fwActivate m _ _ => some m
  | .fwAbort m _ _ => some m
  | .carrierArm m _ _ => some m
  | .carrierDisable m _ _ => some m
  | .carrierStart _ => none
  | .carrierStop _ => none
  | .commit _ => none
  | .leadWrite m _ => some m
  | .xferRequest m _ _ => some m
  | .legCtrlWrite m _ _ => some m
  | .adaptEnable m _ _ => some m
  | .blockStart _ => none
  | .blockEnd _ => none
  | .lateinfoRelease m => some m
  | .refSrcWrite m _ => some m
  | .selPush m _ _ => some m
  | .queueFlush m _ _ => some m
  | .conversionBoundary _ => none
  | .resultWrite _ _ _ => none
  | .adcTrigger _ => none
  | .adcSwtrig m _ _ => some m
  | .injRequest m _ _ => some m
  | .injResult _ _ _ => none
  | .fifoPop m _ => some m
  | .pairTimeout _ => none
  | .dacWrite m _ _ => some m
  | .diagCfgWrite m _ _ => some m
  | .calStart m _ _ => some m
  | .calBegin _ => none
  | .calDone _ _ _ _ => none
  | .injectionDetector _ _ => none
  | .loopStart _ => none
  | .loopSwstart m _ _ => some m
  | .cascadeAdmit _ _ => none
  | .waitSatisfied _ => none
  | .sectionIssue _ _ => none
  | .cascadeComplete _ => none
  | .outputLand _ => none
  | .loopDeadline _ => none
  | .swapRequest m _ => some m
  | .grpCfgWrite m _ _ => some m
  | .traceArm m _ _ => some m
  | .traceStop m _ _ => some m
  | .traceForce m _ _ => some m
  | .traceRecord _ => none
  | .traceCfgWrite m _ _ _ => some m
  | .runmaxClear m _ => some m
  | .naninfoRelease m _ => some m
  | .claimLearn m _ => some m
  | .hbSend _ _ => none
  | .hbReceive _ _ _ => none
  | .rimSilent _ => none
  | .peerFrame _ _ _ _ _ => none
  | .adtRecord _ _ _ _ => none
  | .swapRecord _ => none
  | .resign m _ => some m
  | .mirrorListLoad m _ => some m
  | .mdata _ _ => none
  | .mend _ _ _ _ _ => none
  | .sourceLatch _ => none
  | .fcRelease m => some m
  | .fcUnblock m => some m
  | .swfault m => some m
  | .forceWrite m _ _ => some m
  | .tforceWrite m _ _ => some m
  | .scoreClear m _ _ => some m
  | .classWrite m _ _ => some m
  | .firstRelease m => some m
  | .tripWrite m _ => some m
  | .tripMinExpire _ => none
  | .tripCfgWrite m _ => some m
  | .blockCommand m _ => some m
  | .aliveKick m _ => some m
  | .svcHang _ => none
  | .svcCacheError _ _ => none
  | .thermSample _ => none
  | .throttleWrite m _ => some m
  | .throttleReq m _ => some m
  | .sramClearDone _ => none
  | .scrubStep _ => none
  | .safetyScrubStep _ => none
  | .eccRelease m => some m
  | .xspiRead m _ _ => some m
  | .xspiProg m _ => some m
  | .xspiErase m _ => some m
  | .xspiRegRd m _ _ => some m
  | .xspiRegWr m _ => some m
  | .xspiDataPop m => some m
  | .xspiDataPush m _ => some m
  | .dmaStart m _ _ => some m
  | .dmaFetch _ _ => none
  | .dmaSwtrig m _ _ => some m
  | .dmaReadBeat _ _ _ => none
  | .dmaWriteResponse _ _ _ => none
  | .dmaWriteback _ _ => none
  | .dmaAbort m _ _ => some m
  | .stationFrameRx _ _ _ _ => none
  | .svTimeout _ => none
  | .gooseTimeout _ => none
  | .rraItem _ => none
  | .rraSessionEnable m _ _ => some m
  | .rxDescPop m _ => some m
  | .rxDataRead m _ => some m
  | .txDescWrite m _ _ => some m
  | .txDataPush m _ _ => some m
  | .stationTx _ _ => none
  | .hsrForward _ _ => none
  | .stationLinkLoss _ => none
  | .goosePubEnable m _ _ => some m
  | .goosePubDisable m _ _ => some m
  | .gooseStateChange m _ _ => some m
  | .gooseRetransmit _ => none
  | .vinMeasure _ => none
  | .vminClear m _ => some m
  | .ivrFault _ => none
  | .domWrite m _ => some m
  | .domSwitchDone _ _ => none
  | .reqRun m _ => some m
  | .reqShed m _ => some m
  | .reqStandby m _ => some m
  | .reqHibernate m _ => some m
  | .powerOnReset _ _ => none
  | .resetHost m _ => some m
  | .resetSafety m _ => some m
  | .resetService m _ => some m
  | .svcStatus _ => none
  | .svcRead _ _ _ => none
  | .svcWrite _ _ _ => none
  | .svcReset _ _ _ => none
  | .bootStageEnd _ _ _ _ => none
  | .svcportGo m _ => some m
  | .bootLoad _ _ => none
  | .bootGo _ _ => none
  | .otpRbAdvance m _ => some m
  | .otpOwner m _ => some m
  | .otpPatch m _ => some m
  | .otpBitBurn _ => none
  | .vStart m => some m
  | .vDone _ => none
  | .vCommit m => some m
  | .vProfile m => some m
  | .vAbort m => some m
  | .vClear m => some m
  | .protSwap m => some m
  | .attestStart m => some m
  | .attestPubkey m => some m
  | .updSet m _ => some m
  | .busRead m _ _ _ => some m
  | .stationLinkChange _ _ _ => none
  | .tandemLaneLockChange _ _ => none
  | .ivrFaultEnd _ => none
  | .gpioInputChange _ _ _ => none
  | .missingEdge => none
  | .slewEnd => none
  | .fmonNogate => none
  | .distBoundary => none
  | .stepLanding => none
  | .periodChange => none
  | .wdExpire => none
  | .rimCycle => none
  | .generate => none
  | .triggerFire => none
  | .refSettled => none
  | .learnEnd => none
  | .hbSilent => none
  | .takeover => none
  | .takeoverComplete => none
  | .relinquish => none
  | .resignFail => none
  | .mirrorCapture => none
  | .mirrorStreamEnd => none
  | .mirrorApply => none
  | .mirrorApplyEnd => none
  | .faultRecovery => none
  | .lockstepMiscompare => none
  | .aliveToggle => none
  | .kickExpire => none
  | .shedRequestEnd => none
  | .thermJudge => none
  | .shutdownHibernate => none
  | .eccWriteback => none
  | .xspiCmdDone => none
  | .xspiPollTimeout => none
  | .dmaBurst => none
  | .dmaWindowEnd => none
  | .svAsdu => none
  | .gooseMessage => none
  | .rraRequest => none
  | .rraResponse => none
  | .redSupervision => none
  | .vinWarn => none
  | .vinWarnHeld => none
  | .vinWarnEnd => none
  | .vinResetLevel => none
  | .vddaLow => none
  | .vddaRecover => none
  | .vddaRecoveryEnd => none
  | .powerDomainSwitch => none
  | .powerTransitionDone => none
  | .pinReset => none
  | .resetRelease => none
  | .svcId => none
  | .stagingHandover => none
  | .attestDone => none
  | .tfLost => none
  | .resetNRise => none

end Sys2Proof
end

