-- ==== Sys2Proof/Safety.lean ====
section
/-!
DEFINITION. Sys2Proof/Safety.lean: the terms in which statements about the device are made: a command that answers a
next state, a register access that the device accepts (R4, R39 to R41), what a command leaves unchanged, and the
invariant of the memories.
-/
namespace Sys2Proof.Machine

/-- A command answers a next state, of which `q` holds. -/
def Answers (c : Instr) (s : State) (q : State → Prop) : Prop := ∃ t, exec c s = .next t ∧ q t

/-- No event has set a W1C bit of a register, and neither a master nor a loop engine has written it, at the present
instant: the coincidences of R5, R29 and R216 do not arise. -/
abbrev Dev.uncontested (d : Dev) (r : Reg) : Prop :=
  d.setNow r = 0 ∧ (∀ e ∈ d.thisTick.writes, e.1 ≠ r) ∧ ∀ f ∈ d.thisTick.landed, f.reg ≠ r

/-- A master's write of a register receives OKAY: the master can issue it, its response is OKAY (R41), it meets no other
write or event of its register at its instant (R5, R29), and it leaves the clock ratios of R72 where it bears on them. -/
structure Accepted (eff : Effect) (m : Nat) (r : Reg) (v : Nat) (d : Dev) : Prop where
  issues : d.canIssue m = true
  okay   : d.regCode m r true v = .okay
  alone  : d.uncontested r
  ratios : r.setsRatio = true → (d.busWriteWith eff m r v).ratiosHold = true

/-- A master's write of a register goes ahead: it receives OKAY, and LOCK_BASIC does not freeze all that it could act on
(R36). -/
structure Accepts (eff : Effect) (m : Nat) (r : Reg) (v : Nat) (d : Dev) : Prop extends Accepted eff m r v d where
  free   : d.lockedOut r = false

/-- Neither a distribution boundary nor a period change falls on the present tick and is yet to be taken (R87, R90). -/
abbrev Dev.offBoundary (d : Dev) : Prop :=
  d.time.running = true → d.time.anchorPs ≤ 1000 * d.now →
    d.tns < d.time.nextB ∧ (d.time.pend = true → d.tns < d.periodDue)

/-- The pages whose block reset touches no registers but their own, and leaves each field there at its reset value, as it
was, or live (R31). -/
def Page.resetsAlone : Page → Bool
  | .SYS _ | .CLK | .PWR | .RST | .TANDEM _ | .RIM _ | .SPOKE _ | .IR _ | .XSPI | .SVCPORT | .SAFE | .PROT => true
  | .TIME q => q != 0
  | .KEYS q => q == 1 || q == 2
  | _ => false

/-- A master's read of a register goes ahead: the master can issue it and its response is OKAY (R41). -/
structure Reads (m : Nat) (r : Reg) (d : Dev) : Prop where
  issues : d.canIssue m = true
  okay   : d.regCode m r false 0 = .okay

/-- A register whose writes do what its access codes say and nothing else (R4). -/
def Reg.isPlain (r : Reg) : Prop :=
  (∀ mem, regEffect mem r = plainEffect r) ∧ ∀ m v d, regEffs m r v d = []

/-- Every register outside `l` reads as before. -/
def SameRegs (d e : Dev) (l : List Reg) : Prop := ∀ r, r ∉ l → e.regs.get r = d.regs.get r

/-- The registers that the latching of a Scoreboard source may change (R273, R276, R277, R279, R282, R286). -/
def latchRegs : List Reg :=
  [.FC_SCORE_LO, .FC_SCORE_HI, .FC_FIRST, .FC_FIRST_NS, .FC_HELD_LO, .FC_HELD_HI, .FC_STATE, .PWR_STATE, .PWR_EVT,
    .SAFE_TRIP, .SAFE_TRIP_STAT, .SAFE_CLAIM_CTRL]

/-- Every register outside `l`, and outside those that the latching of source `n` may change, reads as before. -/
def SameRegsBut (d e : Dev) (n : Nat) (l : List Reg) : Prop := SameRegs d e (.FC_CLASS n :: latchRegs ++ l)

/-- Every register outside the pages of `l` reads as before. -/
def SamePages (d e : Dev) (l : List Page) : Prop := ∀ r, r.page ∉ l → e.regs.get r = d.regs.get r

/-- A frame that carries claim `c` neither demotes the unit nor stands against its claim (R143, R260). -/
abbrev Dev.claimQuiet (d : Dev) (c : Nat) : Prop :=
  (d.claim = 0 ∨ c ≤ d.claim) ∧ ((d.role ≠ 2 ∧ d.role ≠ 4) ∨ max d.seen c ≤ d.claim)

/-- No write of a register has gone ahead at the present instant. -/
abbrev Dev.unwritten (d : Dev) (r : Reg) : Prop := ∀ e ∈ d.thisTick.writes, e.1 ≠ r

/-- Two pages of one block. -/
def Page.sameBlock : Page → Page → Bool
  | .SYS _, .SYS _ | .TIME _, .TIME _ | .STATION _, .STATION _ | .TANDEM _, .TANDEM _ | .RIM _, .RIM _
  | .SPOKE _, .SPOKE _ | .EDGE _, .EDGE _ | .ADC _, .ADC _ | .LOOP _, .LOOP _ | .DMA _, .DMA _ | .IR _, .IR _
  | .KEYS _, .KEYS _ => true
  | p, q => p == q

/-- Every register outside the blocks of the pages of `l` reads as before. -/
def SameOutside (d e : Dev) (l : List Page) : Prop :=
  ∀ r, (l.any fun p => p.sameBlock r.page) = false → e.regs.get r = d.regs.get r

/-- The registers that show the state of position `k` and what its rim derives from it (R131, R133, R433). -/
def posRegs (k : Nat) : List Reg :=
  [.SPOKE_STATE k, .RIM_EVT (rimOf k), .RIM_STAT (rimOf k), .RIM_LATENCY (rimOf k), .PG_STAT (.RIM (rimOf k)),
    .PG_PROG (.RIM (rimOf k))]

/-- Source `n` stands in the Scoreboard (R273). -/
def Dev.scored (d : Dev) (n : Nat) : Prop := bitAt d.score n = true

/-- An access of `n` bytes at `a` lies in shared SRAM, aligned as R28 asks, which answers it without an error (R24, R41,
R301). -/
structure Dev.sramOpen (d : Dev) (a n : Nat) : Prop where
  range : MemRange.at a = some .sram
  shape : memShape a n = true
  up    : d.memGated .sram = false
  clean : d.touchesBad a n = false

/-- The memories are in canonical form. -/
abbrev State.memWf (s : State) : Prop := Memory.wf s.mem

/-- A write of `n` bytes at `a` by a master reaches a memory range and goes ahead (R28, R39 to R41, R301, R302): a write
of 64 bits or more needs no reading, a narrower one meets no uncorrectable error. -/
structure Dev.memOpen (d : Dev) (m a n : Nat) (r : MemRange) : Prop where
  issues : d.canIssue m = true
  range  : MemRange.at a = some r
  shape  : memShape a n = true
  okay   : d.memCode m r true = .okay
  clean  : n < 8 → d.touchesBad a n = false

end Sys2Proof.Machine

namespace Sys2Proof

/-- The commands that write memory, or that empty it; every other command leaves every byte as it is. -/
def Instr.stores : Instr → Bool
  | .registerWrite .. | .rraItem .. | .svcWrite .. | .svcRead .. | .svcStatus .. | .svcId | .svcReset .. | .powerOnReset ..
  | .vinResetLevel | .bootStageEnd .. | .bootLoad .. | .domSwitchDone .. | .sramClearDone .. | .dmaWriteResponse ..
  | .dmaWriteback .. | .mdata .. | .mirrorApplyEnd .. | .telemetryCut .. | .cascadeComplete .. | .traceRecord ..
  | .attestStart .. | .attestDone .. | .attestPubkey .. => true
  | _ => false

end Sys2Proof
end

