-- ==== Sys2Proof/Certificates/Slice0/Obligations.lean ====
section
/-!
DEFINITION. Sys2Proof/Certificates/Slice0/Obligations.lean: the statements for the provers, one per family of commands
and kind of state, and those about every step.
-/

open Sys2Proof Sys2Proof.Machine

/-- O1. The queue is first in, first out: with a command at its front, a step is that command's effect on the state
with the queue's rest. -/
def Obligations.StepRunsTheFrontCommand : Prop :=
  ∀ (s : State) (c : Instr) (rest : List Instr), s.pending = c :: rest → step s = exec c { s with pending := rest }

/-- O2. On an empty queue one tick of 1 ns passes and nothing else happens but the counting of the timebase; that the
idle block ticks is the model's choice (log entry 1). -/
def Obligations.EmptyQueueLetsATickPass : Prop :=
  ∀ s : State, s.pending = [] → ∃ t, step s = .next t ∧ t.dev.now = s.dev.now + 1 ∧ t.mem = s.mem ∧ t.pending = [] ∧
    t.dev.regs = s.dev.regs ∧ t.dev.resp = s.dev.resp

/-- O3. After power-on every field of every register of the pages that exist holds the reset value that its table
gives, no memory byte is listed, no command waits, and the device is held in its power-on reset. Where this rests on
the model's choices: log entries 2, 3 and 4. -/
def Obligations.ResetHoldsTheTablesValues : Prop :=
  (∀ (r : Reg) (f : Field), pageExists r.page = true → f ∈ r.fields →
    State.reset.dev.rd ⟨r, f.lo, f.hi + 1 - f.lo⟩ = f.reset) ∧
  State.reset.mem = [] ∧ State.reset.pending = [] ∧ State.reset.dev.rst.hold = 1 ∧ State.reset.dev.now = 0

/-- O4. Every byte that is listed in memory is listed once, in rising order, and none is listed that reads as an
unlisted one does: every step keeps this canonical form of the memories. Where this rests on the model's choices: log
entry 11. -/
def Obligations.EveryStepKeepsTheMemoryForm : Prop :=
  ∀ s t : State, s.memWf → step s = .next t → t.memWf

/-- O5. The memories after power-on have the canonical form. Where this rests on the model's choices: log entry 11. -/
def Obligations.ResetMemoryHasTheForm : Prop := State.reset.memWf

/-- O6. No command touches the queue of those that wait behind it. -/
def Obligations.NoCommandTouchesTheQueue : Prop :=
  ∀ (c : Instr) (s t : State), exec c s = .next t → t.pending = s.pending

/-- O7. The address map gives every address at most one register, and a register stands at the address its table gives
(R24 to R27). -/
def Obligations.EveryRegisterStandsAtItsAddress : Prop :=
  ∀ (a : Nat) (r : Reg), a % 4 = 0 → targetAt a = some (.reg r) → r.addr = a ∧ Page.atAddr a = some r.page

/-- O8. Access codes (R4, R5, R29, R36): a register without effects of its own takes a written word field by field. RW
and W1S fields take or gain the written bits, W1C fields lose them, RO fields keep theirs; SRW fields take the word
from the safety partition alone. Nothing but the register, and `PG_ERR` of its page, changes. A W1C bit that an event
has set at the instant of the write stays 1; a safety-partition master's write of a field comes before that of another
master at its instant, which decides; and where LOCK_BASIC freezes all that a write could act on, it acts on nothing.
Where this rests on the model's choices: log entry 8. -/
def Obligations.AccessCodesOfAPlainWrite : Prop :=
  (∀ (m : Nat) (r : Reg) (v : Word) (s : State) (f : Field), validMaster m = true → targetAt r.addr = some (.reg r) →
    r.addr % 4 = 0 → r.isPlain →
    Accepts (plainEffect r) m r v.toNat s.dev → f ∈ r.fields →
    Answers (.registerWrite m r.addr 4 v.toNat []) s fun t =>
      t.dev.resp = { master := m, code := .okay, data := 0 } ∧ SameRegs s.dev t.dev [r, .PG_ERR r.page] ∧
      t.mem = s.mem ∧
      let old := s.dev.rd ⟨r, f.lo, f.hi + 1 - f.lo⟩
      let new := f.of v.toNat
      t.dev.rd ⟨r, f.lo, f.hi + 1 - f.lo⟩ =
        match f.acc with
        | .RW => if s.dev.frozen r f then old else new
        | .RWE => if s.dev.on (F.PG_CTRL_EXPERT_EN r.page) && !s.dev.frozen r f then new else old
        | .SRW => if isSafe m then new else old
        | .W1C => old - (old &&& new)
        | .W1S => old ||| new
        | _ => old) ∧
  (∀ (m : Nat) (r : Reg) (v : Word) (s : State) (i : Nat), s.dev.canIssue m = true → targetAt r.addr = some (.reg r) →
    r.addr % 4 = 0 → r.isPlain → r.setsRatio = false → s.dev.regCode m r true v.toNat = .okay →
      bitAt (s.dev.setNow r) i = true →
    bitAt r.w1cMask i = true → bitAt (s.dev.word r) i = true →
    Answers (.registerWrite m r.addr 4 v.toNat []) s fun t => bitAt (t.dev.word r) i = true) ∧
  (∀ (m : Nat) (r : Reg) (v : Word) (s : State) (f : Field) (e : Reg × Nat × Nat), s.dev.canIssue m = true →
    targetAt r.addr = some (.reg r) → r.addr % 4 = 0 → r.isPlain → r.setsRatio = false →
      s.dev.regCode m r true v.toNat = .okay →
    f ∈ r.fields → f.acc = .RW ∨ f.acc = .RWE → isSafe m = true → e ∈ s.dev.thisTick.writes → e.1 = r →
    isSafe e.2.1 = false → s.dev.takes e.2.1 r f = true →
    Answers (.registerWrite m r.addr 4 v.toNat []) s fun t =>
      t.dev.rd ⟨r, f.lo, f.hi + 1 - f.lo⟩ = s.dev.rd ⟨r, f.lo, f.hi + 1 - f.lo⟩) ∧
  (∀ (m : Nat) (r : Reg) (v : Word) (s : State), targetAt r.addr = some (.reg r) → r.addr % 4 = 0 →
    Accepted (regEffect s.mem r) m r v.toNat s.dev → s.dev.lockedOut r = true →
    Answers (.registerWrite m r.addr 4 v.toNat []) s fun t =>
      SameRegs s.dev t.dev [.PG_ERR r.page] ∧
      t.dev = { s.dev with
        resp := { master := m, code := .okay, data := 0 }, regs := t.dev.regs, tick := t.dev.tick })

/-- O9. The order of the error causes of an access (R41): DECODE before VIOLATION before GATED; with any of them the
access, a write or a read, has no effect on its register, reads 0, and DECODE and VIOLATION latch source 58. Where
this rests on the model's choices: log entries 7, 15 and 16. -/
def Obligations.ErrorResponsesInOrder : Prop :=
  (∀ (m : Nat) (r : Reg) (v : Word) (s : State), s.dev.canIssue m = true → targetAt r.addr = some (.reg r) →
    r.addr % 4 = 0 → (r.setsRatio = true → s.dev.ratiosHold = true) → s.dev.allowed m (.reg r) true = false →
    Answers (.registerWrite m r.addr 4 v.toNat []) s fun t =>
      t.dev.resp = { master := m, code := .violation, data := 0 } ∧ t.dev.scored 58 ∧ t.mem = s.mem ∧
      (mclass m ≠ some .E → mclass m ≠ some .M → SameRegsBut s.dev t.dev 58 [.SYS_BERR_ADDR, .SYS_BERR_INFO])) ∧
  (∀ (m : Nat) (r : Reg) (v : Word) (s : State), s.dev.canIssue m = true → targetAt r.addr = some (.reg r) →
    r.addr % 4 = 0 → (r.setsRatio = true → s.dev.ratiosHold = true) → s.dev.allowed m (.reg r) true = true →
    s.dev.writeViolates m r v.toNat = false → s.dev.gated (.reg r) true = true →
    Answers (.registerWrite m r.addr 4 v.toNat []) s fun t =>
      t.dev.resp = { master := m, code := .gated, data := 0 } ∧ t.mem = s.mem ∧
      (mclass m ≠ some .E → mclass m ≠ some .M → SameRegs s.dev t.dev [.SYS_BERR_ADDR, .SYS_BERR_INFO])) ∧
  (∀ (m a n v : Nat) (s : State), s.dev.canIssue m = true → targetAt a = none →
    Answers (.registerWrite m a n v []) s fun t =>
      t.dev.resp = { master := m, code := .decode, data := 0 } ∧ t.dev.scored 58 ∧ t.mem = s.mem ∧
      (mclass m ≠ some .E → mclass m ≠ some .M → SameRegsBut s.dev t.dev 58 [.SYS_BERR_ADDR, .SYS_BERR_INFO])) ∧
  (∀ (m : Nat) (r : Reg) (s : State), s.dev.canIssue m = true → targetAt r.addr = some (.reg r) → r.addr % 4 = 0 →
    s.dev.regCode m r false 0 ≠ .okay →
    Answers (.busRead m r.addr 4 []) s fun t =>
      t.dev.resp = { master := m, code := s.dev.regCode m r false 0, data := 0 } ∧ t.mem = s.mem ∧
      (s.dev.allowed m (.reg r) false = false → s.dev.regCode m r false 0 = .violation ∧ t.dev.scored 58) ∧
      (s.dev.allowed m (.reg r) false = true → s.dev.regCode m r false 0 = .gated) ∧
      (mclass m ≠ some .E → mclass m ≠ some .M → SameRegsBut s.dev t.dev 58 [.SYS_BERR_ADDR, .SYS_BERR_INFO])) ∧
  (∀ (m a n : Nat) (s : State), s.dev.canIssue m = true → targetAt a = none →
    Answers (.busRead m a n []) s fun t =>
      t.dev.resp = { master := m, code := .decode, data := 0 } ∧ t.dev.scored 58 ∧ t.mem = s.mem ∧
      (mclass m ≠ some .E → mclass m ≠ some .M → SameRegsBut s.dev t.dev 58 [.SYS_BERR_ADDR, .SYS_BERR_INFO]))

/-- O10. The unlock sequence (R33, R34): the first write of 0x5EED opens it; the second, by the same master, of the
page's `PG_ID` within 256 BUSCLK cycles sets `EXPERT_EN`, while `LOCK_EXPERT` is 0; any other second write, and the
end of the window, fail it: in that cycle `KEY_FAIL` is set, the sequence is closed and `EXPERT_EN` is unchanged. A
write that comes after the end of the window finds the sequence failed. Another value with no sequence open is
ignored. -/
def Obligations.UnlockSequence : Prop :=
  (∀ (m : Nat) (p : Page) (v : Word) (s : State), Accepts (keyWrite p) m (.PG_KEY p) v.toNat s.dev →
    s.dev.unlockOf p = none → v.toNat = 0x5EED →
    Answers (.pgKeyWrite m p v) s fun t =>
      t.dev.unlockOf p = some ⟨m, s.dev.now⟩ ∧ SameRegs s.dev t.dev [.PG_ERR p] ∧
      t.dev.rd (F.PG_ERR_KEY_FAIL p) = s.dev.rd (F.PG_ERR_KEY_FAIL p)) ∧
  (∀ (m : Nat) (p : Page) (v : Word) (s : State) (u : Unlock), Accepts (keyWrite p) m (.PG_KEY p) v.toNat s.dev →
    s.dev.unlockOf p = some u → u.master = m → v.toNat = s.dev.word (.PG_ID p) →
    s.dev.on (F.PG_LOCK_LOCK_EXPERT p) = false → s.dev.now ≤ s.dev.unlockEnd u →
    Answers (.pgKeyWrite m p v) s fun t =>
      t.dev.unlockOf p = none ∧ t.dev.rd (F.PG_CTRL_EXPERT_EN p) = 1 ∧
      SameRegs s.dev t.dev [.PG_ERR p, .PG_CTRL p] ∧ t.dev.rd (F.PG_CTRL_ENABLE p) = s.dev.rd (F.PG_CTRL_ENABLE p)) ∧
  (∀ (m : Nat) (p : Page) (v : Word) (s : State) (u : Unlock), Accepts (keyWrite p) m (.PG_KEY p) v.toNat s.dev →
    s.dev.unlockOf p = some u → s.dev.now ≤ s.dev.unlockEnd u →
    (u.master ≠ m ∨ v.toNat ≠ s.dev.word (.PG_ID p) ∨ s.dev.on (F.PG_LOCK_LOCK_EXPERT p) = true) →
    Answers (.pgKeyWrite m p v) s fun t =>
      t.dev.unlockOf p = none ∧ t.dev.rd (F.PG_ERR_KEY_FAIL p) = 1 ∧ SameRegs s.dev t.dev [.PG_ERR p] ∧
      t.dev.rd (F.PG_CTRL_EXPERT_EN p) = s.dev.rd (F.PG_CTRL_EXPERT_EN p)) ∧
  (∀ (p : Page) (s : State) (u : Unlock), s.dev.unlockOf p = some u →
    Answers (.unlockTimeout p) s fun t =>
      t.dev.unlockOf p = none ∧ t.dev.rd (F.PG_ERR_KEY_FAIL p) = 1 ∧ SameRegs s.dev t.dev [.PG_ERR p] ∧
      t.dev.rd (F.PG_CTRL_EXPERT_EN p) = s.dev.rd (F.PG_CTRL_EXPERT_EN p) ∧
      t.dev.now = max s.dev.now (s.dev.unlockEnd u)) ∧
  (∀ (m : Nat) (p : Page) (v : Word) (s : State) (u : Unlock), Accepts (keyWrite p) m (.PG_KEY p) v.toNat s.dev →
    s.dev.unlockOf p = some u → s.dev.unlockEnd u < s.dev.now →
    Answers (.pgKeyWrite m p v) s fun t =>
      t.dev.rd (F.PG_ERR_KEY_FAIL p) = 1 ∧ SameRegs s.dev t.dev [.PG_ERR p] ∧
      t.dev.unlockOf p = if v.toNat = 0x5EED then some ⟨m, s.dev.now⟩ else none) ∧
  (∀ (m : Nat) (p : Page) (v : Word) (s : State), Accepts (keyWrite p) m (.PG_KEY p) v.toNat s.dev →
    s.dev.unlockOf p = none → v.toNat ≠ 0x5EED →
    Answers (.pgKeyWrite m p v) s fun t =>
      t.dev.unlockOf p = none ∧ t.dev.rd (F.PG_ERR_KEY_FAIL p) = s.dev.rd (F.PG_ERR_KEY_FAIL p) ∧
      SameRegs s.dev t.dev [.PG_ERR p])

/-- O11. The header of a page (R31, R32, R35, R36): a 1 to EXPERT_EN clears it. A 1 to SOFT_RESET starts a block
reset, during which the page answers GATED, unless LOCK_CTRL freezes it, which sets LOCKED, or another reset holds the
device. The end of the drain, or its forced end, clears SOFT_RESET and closes an unlock sequence; in the pages whose
reset reaches no others, every field that B does not keep and that shows no running hardware takes its reset value,
the others stay, and so do all registers elsewhere. A 1 to `PG_ERRFORCE` sets the same bit of `PG_ERR`; lock bits are
set by a 1, and LOCK_EXPERT clears EXPERT_EN with it. Where this rests on the model's choices: log entries 9, 57, 94,
127 to 130 and 166. -/
def Obligations.PageHeaderCommands : Prop :=
  (∀ (m : Nat) (p : Page) (v : Word) (s : State), (Instr.expertEnClear m p v).wf = true →
    Accepts (pgCtrlWrite p) m (.PG_CTRL p) v.toNat s.dev →
    Answers (.expertEnClear m p v) s fun t =>
      t.dev.rd (F.PG_CTRL_EXPERT_EN p) = 0 ∧
      (bitAt v.toNat 1 = false → bitAt (s.dev.merged m (.PG_CTRL p) v.toNat) 0 = s.dev.enabled p →
        t.dev.enabled p = s.dev.enabled p ∧ SameRegs s.dev t.dev [.PG_CTRL p, .PG_ERR p])) ∧
  (∀ (m : Nat) (p : Page) (v : Word) (s : State), (Instr.softReset m p v).wf = true →
    Accepts (pgCtrlWrite p) m (.PG_CTRL p) v.toNat s.dev → s.dev.on (F.PG_LOCK_LOCK_CTRL p) = false →
    s.dev.rst.hold = 0 → s.dev.blockResets.contains p = false →
    Answers (.softReset m p v) s fun t =>
      t.dev.blockResets = p :: s.dev.blockResets ∧ t.dev.rd (F.PG_CTRL_SOFT_RESET p) = 1 ∧
        t.dev.pageGated p false = true ∧
      (bitAt (s.dev.merged m (.PG_CTRL p) v.toNat) 0 = s.dev.enabled p → (∀ q, p ≠ .DMA q) →
        SameRegs s.dev t.dev [.PG_CTRL p, .PG_ERR p])) ∧
  (∀ (m : Nat) (p : Page) (v : Word) (s : State), (Instr.softReset m p v).wf = true →
    Accepts (pgCtrlWrite p) m (.PG_CTRL p) v.toNat s.dev →
    s.dev.on (F.PG_LOCK_LOCK_CTRL p) = true ∨ s.dev.rst.hold ≠ 0 →
    Answers (.softReset m p v) s fun t =>
      t.dev.blockResets = s.dev.blockResets ∧
      (s.dev.on (F.PG_LOCK_LOCK_CTRL p) = true → t.dev.rd (F.PG_ERR_LOCKED p) = 1)) ∧
  (∀ (p : Page) (forced : Bool) (s : State), s.dev.blockResets.contains p = true →
    forced = true ∨ s.dev.drained p = true → s.dev.againOne (.PG_CTRL p) 1 = false →
    Answers (.blockResetDrained p forced) s fun t =>
      t.dev.blockResets.contains p = false ∧ t.dev.rd (F.PG_CTRL_SOFT_RESET p) = 0 ∧ t.dev.unlockOf p = none ∧
      (forced = true → p ≠ .CLK → t.dev.bit (F.PG_ERR_BLK .CLK) 2 = true) ∧
      (p.resetsAlone = true → ∀ r, r.page = p → ∀ f ∈ r.fields, f.kept.contains .B = false →
        ⟨r, f.lo, f.hi + 1 - f.lo⟩ ∉ s.dev.liveFields p ++ s.dev.blockFields p →
        t.dev.rd ⟨r, f.lo, f.hi + 1 - f.lo⟩ = f.reset)) ∧
  (∀ (p : Page) (s : State), s.dev.blockResets.contains p = true → s.dev.drained p = true →
    s.dev.againOne (.PG_CTRL p) 1 = false → s.dev.time.stepCmd = 0 → p.resetsAlone = true →
    Answers (.blockResetDrained p false) s fun t =>
      (∀ r, r.page ≠ p → t.dev.regs.get r = s.dev.regs.get r) ∧
      ∀ r, r.page = p → ∀ f ∈ r.fields,
        f.kept.contains .B = true ∨ ⟨r, f.lo, f.hi + 1 - f.lo⟩ ∈ s.dev.liveFields p ++ s.dev.blockFields p →
        t.dev.rd ⟨r, f.lo, f.hi + 1 - f.lo⟩ = s.dev.rd ⟨r, f.lo, f.hi + 1 - f.lo⟩) ∧
  (∀ (m : Nat) (p : Page) (v : Word) (s : State), Accepts (errForceWrite p) m (.PG_ERRFORCE p) v.toNat s.dev →
    Answers (.pgErrforceWrite m p v) s fun t =>
      SameRegs s.dev t.dev [.PG_ERR p] ∧
      ∀ f ∈ (Reg.PG_ERR p).fields, f.of (t.dev.word (.PG_ERR p)) = f.of (s.dev.word (.PG_ERR p)) ||| f.of v.toNat) ∧
  (∀ (m : Nat) (p : Page) (v : Word) (s : State), Accepts (lockWrite p) m (.PG_LOCK p) v.toNat s.dev →
    Answers (.pgLockWrite m p v) s fun t =>
      SameRegs s.dev t.dev [.PG_LOCK p, .PG_CTRL p, .PG_ERR p] ∧
      (∀ f ∈ (Reg.PG_LOCK p).fields, f.of (t.dev.word (.PG_LOCK p)) = f.of (s.dev.word (.PG_LOCK p)) ||| f.of v.toNat) ∧
      (bitAt v.toNat 0 = true → t.dev.rd (F.PG_CTRL_EXPERT_EN p) = 0) ∧
      (bitAt v.toNat 0 = false → t.dev.rd (F.PG_CTRL_EXPERT_EN p) = s.dev.rd (F.PG_CTRL_EXPERT_EN p)) ∧
      t.dev.enabled p = s.dev.enabled p)

/-- O12. Bus errors and reads (R41 to R43): an access that no earlier cause answers and that its target never answers
receives TIMEOUT after 4,096 BUSCLK cycles and latches source 57; with it a DMA channel that fetches or writes back
stops with CODE 4, and the response of remote access carries code 4. A write of 1 to `SYS.BERR_INFO.VALID` releases
the capture and clears COUNT; an error of the same instant is captured. An accepted read answers OKAY with the
register's word, and changes nothing where the register's read has no effect. Where this rests on the model's choices:
log entries 8, 9 and 16. -/
def Obligations.BusErrorsAndReads : Prop :=
  (∀ (m a : Nat) (w : Bool) (s : State) (x : Target), targetAt a = some x → s.dev.canIssue m = true →
    s.dev.allowed m x w = true → s.dev.gated x w = false →
    Answers (.busTimeout m a w) s fun t =>
      t.dev.resp = { master := m, code := .timeout, data := 0 } ∧ t.dev.scored 57 ∧
      t.dev.now = s.dev.now + s.dev.busNs 4096 ∧ t.mem = s.mem ∧
      (m ≤ 4 ∨ m = 7 ∨ m = 12 → SameRegsBut s.dev t.dev 57 [.SYS_BERR_ADDR, .SYS_BERR_INFO])) ∧
  (∀ (h : Fin 32) (a : Nat) (w : Bool) (s : State) (x : Target), targetAt a = some x →
    s.dev.canIssue (chanMaster h) = true → s.dev.allowed (chanMaster h) x w = true → s.dev.gated x w = false →
    s.dev.chState h = 1 ∨ s.dev.chState h = 4 →
    Answers (.busTimeout (chanMaster h) a w) s fun t =>
      t.dev.rd (F.DMA_CH_STAT_CODE h) = 4 ∧ t.dev.on (F.DMA_CH_STAT_RUN h) = false ∧
        t.dev.on (F.DMA_CH_EVT_ERR h) = true) ∧
  (∀ (q : RraReq) (rest : List RraReq) (a v kind : Nat) (todo : List (Nat × Nat × Nat)) (s : State) (x : Target),
    targetAt a = some x → s.dev.canIssue 11 = true → s.dev.allowed 11 x (kind == 1) = true →
    s.dev.gated x (kind == 1) = false → s.dev.station.rraQ = q :: rest → q.todo = (a, v, kind) :: todo →
    Answers (.busTimeout 11 a (kind == 1)) s fun t =>
      t.dev.station.rraQ = { q with todo, done := q.done ++ [(a, v, kind, 4)], failed := true } :: rest) ∧
  (∀ (m : Nat) (s : State), Accepts (captureWrite .SYS_BERR_INFO (some F.SYS_BERR_INFO_COUNT)) m .SYS_BERR_INFO (2 ^ 31) s.dev →
    (∀ e ∈ s.dev.captures, e.1 = .SYS_BERR_INFO → e.2.1 ≠ s.dev.now) →
    Answers (.berrRelease m) s fun t =>
      t.dev.rd F.SYS_BERR_INFO_VALID = 0 ∧ t.dev.rd F.SYS_BERR_INFO_COUNT = 0 ∧
      SameRegs s.dev t.dev [.SYS_BERR_INFO, .PG_ERR (.SYS 0)]) ∧
  (∀ (m : Nat) (l : List (Reg × Nat)) (s : State), s.dev.canIssue m = true →
    s.dev.regCode m .SYS_BERR_INFO true (2 ^ 31) = .okay →
    (s.dev.captures.find? fun e => e.1 == .SYS_BERR_INFO && e.2.1 == s.dev.now) = some (.SYS_BERR_INFO, s.dev.now, l) →
    Answers (.berrRelease m) s fun t =>
      ∀ a i, l = [(.SYS_BERR_ADDR, a), (.SYS_BERR_INFO, i)] →
        t.dev.word .SYS_BERR_ADDR = a % 2 ^ 32 ∧ t.dev.word .SYS_BERR_INFO = i % 2 ^ 32) ∧
  (∀ (m a : Nat) (r : Reg) (s : State), targetAt a = some (.reg r) → a % 4 = 0 → Reads m r s.dev →
    regRead m r s.dev = (s.dev.liveWord m r, s.dev) →
    Answers (.busRead m a 4 []) s fun t =>
      t = { s with dev := { s.dev with resp := { master := m, code := .okay, data := s.dev.liveWord m r } } })

/-- O13. The interrupt router (R44 to R48): a claim answers with the best pending source of its target, makes it
ACTIVE and clears its PEND, unless a pulse of that source comes at the same instant, or answers 0x100; a completion of
a source that the target has claimed ends ACTIVE, and any other sets BAD_COMPLETE; a 1 to `IR.SWI` makes the software
interrupt pending; a route write sets target and priority; a GPIO change of a pulse pin makes its source pending.
Where this rests on the model's choices: log entries 12 and 160. -/
def Obligations.InterruptRouter : Prop :=
  (∀ (m : Nat) (j : Fin 9) (s : State), Reads m (.IR_TGT_CLAIM j) s.dev → s.dev.irBest j < 256 →
    Answers (.interruptClaim m j) s fun t =>
      t.dev.resp = { master := m, code := .okay, data := s.dev.irBest j } ∧
      t.dev.rd (F.IR_SRC_ROUTE_ACTIVE (s.dev.irBest j)) = 1 ∧
      t.dev.rd (F.IR_SRC_ROUTE_PEND (s.dev.irBest j)) = b2n (s.dev.thisTick.pulses.contains (s.dev.irBest j)) ∧
      SameRegs s.dev t.dev [.IR_SRC_ROUTE (s.dev.irBest j)]) ∧
  (∀ (m : Nat) (j : Fin 9) (s : State), Reads m (.IR_TGT_CLAIM j) s.dev → s.dev.irBest j = 0x100 →
    Answers (.interruptClaim m j) s fun t => t.dev.resp.data = 0x100 ∧ t.dev.regs = s.dev.regs) ∧
  (∀ (m : Nat) (j : Fin 9) (v : Word) (s : State), Accepts (claimWrite j) m (.IR_TGT_CLAIM j) v.toNat s.dev →
    (j.val = 8 → isSafe m = true) → bitsOf v.toNat 0 9 < 256 →
    s.dev.on (F.IR_SRC_ROUTE_ACTIVE (bitsOf v.toNat 0 9)) = true →
    mget (s.dev.rd (F.IR_SRC_ROUTE_TARGET (bitsOf v.toNat 0 9))) s.dev.irOwner (bitsOf v.toNat 0 9) = j →
    Answers (.interruptComplete m j v) s fun t =>
      t.dev.rd (F.IR_SRC_ROUTE_ACTIVE (bitsOf v.toNat 0 9)) = 0 ∧
      SameRegs s.dev t.dev [.IR_SRC_ROUTE (bitsOf v.toNat 0 9), .PG_ERR (Reg.IR_TGT_CLAIM j).page]) ∧
  (∀ (m : Nat) (j : Fin 9) (v : Word) (s : State), Accepts (claimWrite j) m (.IR_TGT_CLAIM j) v.toNat s.dev →
    (j.val = 8 → isSafe m = true) →
    (256 ≤ bitsOf v.toNat 0 9 ∨ s.dev.on (F.IR_SRC_ROUTE_ACTIVE (bitsOf v.toNat 0 9)) = false ∨
      mget (s.dev.rd (F.IR_SRC_ROUTE_TARGET (bitsOf v.toNat 0 9))) s.dev.irOwner (bitsOf v.toNat 0 9) ≠ j) →
    Answers (.interruptComplete m j v) s fun t =>
      t.dev.bit (F.PG_ERR_BLK (.IR 0)) 0 = true ∧
      SameRegs s.dev t.dev [.PG_ERR (.IR 0), .PG_ERR (Reg.IR_TGT_CLAIM j).page]) ∧
  (∀ (m : Nat) (v : Word) (i : Nat) (s : State), Accepts swiWrite m .IR_SWI v.toNat s.dev → i < 5 →
    bitAt v.toNat i = true →
    Answers (.softwareInterrupt m v) s fun t =>
      t.dev.rd (F.IR_SRC_ROUTE_PEND (136 + i)) = 1 ∧
      SameRegs s.dev t.dev ([.PG_ERR (Reg.IR_SWI).page] ++ (List.range 5).map fun i => .IR_SRC_ROUTE (136 + i))) ∧
  (∀ (m : Nat) (n : Fin 256) (v : Word) (s : State), Accepts (plainEffect (.IR_SRC_ROUTE n)) m (.IR_SRC_ROUTE n) v.toNat s.dev →
    s.dev.on (F.PG_LOCK_LOCK_BASIC (Reg.IR_SRC_ROUTE n).page) = false →
    Answers (.routeWrite m n v) s fun t =>
      t.dev.rd (F.IR_SRC_ROUTE_TARGET n) = bitsOf v.toNat (F.IR_SRC_ROUTE_TARGET n).lo (F.IR_SRC_ROUTE_TARGET n).w ∧
      t.dev.rd (F.IR_SRC_ROUTE_PRIO n) = bitsOf v.toNat (F.IR_SRC_ROUTE_PRIO n).lo (F.IR_SRC_ROUTE_PRIO n).w ∧
      SameRegs s.dev t.dev [.IR_SRC_ROUTE n, .PG_ERR (Reg.IR_SRC_ROUTE n).page]) ∧
  (∀ (pin : Fin 32) (level pulse : Bool) (s : State), bitAt s.dev.gpio pin ≠ level →
    Answers (.gpioInputChange pin level pulse) s fun t =>
      bitAt t.dev.gpio pin = level ∧ t.dev.on (F.IR_SRC_ROUTE_LEVEL (151 + pin)) = !pulse ∧
      (pulse = true → s.dev.domUp domMEM = true → t.dev.on (F.IR_SRC_ROUTE_PEND (151 + pin)) = true) ∧
      SameRegs s.dev t.dev [.IR_SRC_ROUTE (151 + pin)])

/-- O14. Root candidates (R52 to R54): a candidate whose receiver locks begins to count; when the count completes it
is present, and the power-on hunt takes it as the root and starts both loops, REFIN only at divider 1, and of several
that become present at one instant the lowest; its loss makes it absent. A write of a present candidate to
`CLK.ROOT.SRC` takes both loops into Freewheel with cause 4, one that is not present is refused, and one of the
candidate in use or of no candidate changes nothing; a change of `REFDIV` while REFIN is in use is refused. Where this
rests on the model's choices: log entries 7 and 17. -/
def Obligations.RootCandidates : Prop :=
  (∀ (i : Fin 5) (s : State), bitAt s.dev.clk.candLock i = false →
    Answers (.candidateLock i) s fun t =>
      bitAt t.dev.clk.candLock i = true ∧ mget 0 t.dev.clk.candAt i = s.dev.now ∧ t.dev.regs = s.dev.regs) ∧
  (∀ (i : Fin 5) (s : State), bitAt s.dev.clk.candLock i = true → s.dev.bit F.CLK_ROOTSTAT_PRESENT i = false →
    Answers (.candidatePresent i) s fun t =>
      t.dev.bit F.CLK_ROOTSTAT_PRESENT i = true ∧
      t.dev.now = max s.dev.now (mget 0 s.dev.clk.candAt i + refNs s.dev.qualCycles) ∧
      (s.dev.on F.CLK_ROOTSTAT_HUNT = true ∨ (s.dev.clk.huntAt = some t.dev.now ∧ i.val < s.dev.rd F.CLK_ROOTSTAT_CUR) →
        (i.val ≠ 4 ∨ s.dev.code F.CLK_ROOT_REFDIV [0, 1, 2] = 0) →
        t.dev.rd F.CLK_ROOTSTAT_CUR = i ∧ t.dev.on F.CLK_ROOTSTAT_HUNT = false ∧
          t.dev.clk.pllM.started = true ∧ t.dev.clk.pllS.started = true) ∧
      (s.dev.on F.CLK_ROOTSTAT_HUNT = false → s.dev.clk.huntAt ≠ some t.dev.now →
        t.dev.rd F.CLK_ROOTSTAT_CUR = s.dev.rd F.CLK_ROOTSTAT_CUR) ∧
      SameRegs s.dev t.dev [.CLK_ROOTSTAT, .CLK_EVT, .CLK_PLLM_STAT, .CLK_PLLS_STAT, .CLK_PHASE_ERR, .CLK_PHASE_OFS]) ∧
  (∀ (i : Fin 5) (s : State),
    Answers (.candidateLoss i) s fun t =>
      t.dev.bit F.CLK_ROOTSTAT_PRESENT i = false ∧ bitAt t.dev.clk.candLock i = false ∧
      SameRegs s.dev t.dev [.CLK_ROOTSTAT]) ∧
  (∀ (m : Nat) (v : Word) (s : State), Accepts rootWrite m .CLK_ROOT v.toNat s.dev →
    s.dev.on (F.PG_LOCK_LOCK_BASIC .CLK) = false → bitsOf v.toNat 0 3 ≤ 4 →
    bitsOf v.toNat 0 3 ≠ s.dev.rd F.CLK_ROOTSTAT_CUR → s.dev.bit F.CLK_ROOTSTAT_PRESENT (bitsOf v.toNat 0 3) = true →
    Answers (.rootSrcWrite m v) s fun t =>
      t.dev.rd F.CLK_ROOT_SRC = bitsOf v.toNat 0 3 ∧ t.dev.clk.qualify = 2 ^ bitsOf v.toNat 0 3 ∧
      (s.dev.clk.pllM.started = true → t.dev.on F.CLK_PLLM_STAT_FREEWHEEL = true ∧ t.dev.rd F.CLK_ROOTSTAT_CAUSE = 4) ∧
      (s.dev.clk.pllS.started = true → t.dev.on F.CLK_PLLS_STAT_FREEWHEEL = true) ∧
      SameRegs s.dev t.dev [.CLK_ROOTSTAT, .CLK_PLLM_STAT, .CLK_PLLS_STAT, .CLK_EVT, .CLK_PHASE_ERR,
        .CLK_PHASE_OFS, .CLK_ROOT, .PG_ERR .CLK]) ∧
  (∀ (m : Nat) (v : Word) (s : State), Accepts rootWrite m .CLK_ROOT v.toNat s.dev →
    s.dev.on (F.PG_LOCK_LOCK_BASIC .CLK) = false → bitsOf v.toNat 0 3 ≤ 4 →
    bitsOf v.toNat 0 3 ≠ s.dev.rd F.CLK_ROOTSTAT_CUR → s.dev.bit F.CLK_ROOTSTAT_PRESENT (bitsOf v.toNat 0 3) = false →
    Answers (.rootSrcWrite m v) s fun t =>
      t.dev.rd F.CLK_ROOT_SRC = s.dev.rd F.CLK_ROOT_SRC ∧ t.dev.bit (F.PG_ERR_BLK .CLK) 0 = true ∧
      SameRegs s.dev t.dev [.CLK_ROOT, .PG_ERR .CLK]) ∧
  (∀ (m : Nat) (v : Word) (s : State), Accepts rootWrite m .CLK_ROOT v.toNat s.dev →
    bitsOf v.toNat 0 3 = s.dev.rd F.CLK_ROOTSTAT_CUR ∨ 4 < bitsOf v.toNat 0 3 →
    s.dev.on (F.PG_LOCK_LOCK_BASIC .CLK) = false →
    Answers (.rootSrcWrite m v) s fun t =>
      t.dev.rd F.CLK_ROOT_SRC = s.dev.rd F.CLK_ROOT_SRC ∧ t.dev.clk = s.dev.clk ∧
      SameRegs s.dev t.dev [.CLK_ROOT, .PG_ERR .CLK]) ∧
  (∀ (m : Nat) (v : Word) (s : State), Accepts rootWrite m .CLK_ROOT v.toNat s.dev →
    s.dev.on (F.PG_LOCK_LOCK_BASIC .CLK) = false → s.dev.rd F.CLK_ROOTSTAT_CUR = 4 →
    bitsOf v.toNat F.CLK_ROOT_REFDIV.lo F.CLK_ROOT_REFDIV.w ≠ s.dev.rd F.CLK_ROOT_REFDIV →
    Answers (.rootSrcWrite m v) s fun t =>
      t.dev.rd F.CLK_ROOT_REFDIV = s.dev.rd F.CLK_ROOT_REFDIV ∧ t.dev.bit (F.PG_ERR_BLK .CLK) 0 = true)

/-- O15. The loops (R57, R58, R61, R62, R80): LOCK, READY and the release at E0 follow one another at their times; a
start that outlasts 1 ms latches source 37 or 38; a restart that the rules allow takes LOCK and READY away, and that
of PLL-M stops TIMECLK until its own release; any other is refused. Where this rests on the model's choices: log
entries 8, 9 and 19. -/
def Obligations.LoopsStartAndRestart : Prop :=
  (∀ (l : Fin 2) (s : State), (s.dev.clk.pll l).started = true → s.dev.on (fLock l) = false →
    (s.dev.on (fFree l) = false ∨ (s.dev.clk.pll l).closed = true ∨
      (l = 1 ∧ s.dev.on F.CLK_PLLS_CFG_RESTART = true ∧ s.dev.rootRuns = true)) →
    Answers (.pllLock l) s fun t =>
      t.dev.on (fLock l) = true ∧ t.dev.on (fFree l) = false ∧ (t.dev.clk.pll l).lockAt = s.dev.now ∧
      SameRegs s.dev t.dev [.CLK_PLLM_STAT, .CLK_PLLS_STAT, .CLK_EVT, .CLK_ROOTSTAT]) ∧
  (∀ (l : Fin 2) (s : State), s.dev.on (fLock l) = true → s.dev.on (fReady l) = false →
    Answers (.pllReady l) s fun t =>
      t.dev.on (fReady l) = true ∧ t.dev.now = max s.dev.now ((s.dev.clk.pll l).lockAt + refNs 8192) ∧
      SameRegs s.dev t.dev [.CLK_PLLM_STAT, .CLK_PLLS_STAT, .CLK_EVT, .CLK_PHASE_ERR, .CLK_PHASE_OFS, .TIME_CLKSTEP,
        .TIME_STAT, .PG_ERR .CLK]) ∧
  (∀ (l : Fin 2) (s : State), s.dev.on (fReady l) = true → (s.dev.clk.pll l).released = false →
    Answers (.releaseEdge l) s fun t =>
      (t.dev.clk.pll l).released = true ∧ t.dev.now = max s.dev.now ((s.dev.clk.pll l).readyAt + refNs 256) ∧
      (l = 0 → t.dev.on F.CLK_PLLM_STAT_DETERM = true ∧ t.dev.on F.CLK_PLLM_CFG_RESTART = false ∧
        t.dev.time.e0Ps = 1000 * t.dev.now ∧ (s.dev.on (F.CLK_OUT_CFG_EN 3) = true → t.dev.time.running = true)) ∧
      (l = 1 → t.dev.on F.CLK_PLLS_CFG_RESTART = false ∧
        (s.dev.on F.CLK_PLLS_CFG_RESTART = true → s.dev.outRuns 3 = false ∨ s.dev.outRuns 5 = false →
          t.dev.bit (F.PG_ERR_BLK .CLK) 1 = true)) ∧
      SameRegs s.dev t.dev [.CLK_PLLM_CFG, .CLK_PLLM_STAT, .CLK_PLLS_CFG, .CLK_EVT, .PG_STAT (.SYS 1),
        .PG_PROG (.SYS 1),
        .PG_ERR .CLK]) ∧
  (∀ (l : Fin 2) (s : State), (s.dev.clk.pll l).started = true → (s.dev.clk.pll l).released = false →
    (s.dev.clk.pll l).late = false → s.dev.on (fReady l) = false →
    Answers (.pllStartTimeout l) s fun t =>
      t.dev.scored (37 + l) ∧ t.dev.now = max s.dev.now ((s.dev.clk.pll l).startAt + 1000000) ∧
      SameRegsBut s.dev t.dev (37 + l) []) ∧
  (∀ (m : Nat) (s : State), Accepts pllmCfgWrite m .CLK_PLLM_CFG 1 s.dev → s.dev.cellsBlocked = true →
    s.dev.anyDomsel 0 = false →
    Answers (.pllmRestart m) s fun t =>
      t.dev.on F.CLK_PLLM_CFG_RESTART = true ∧ t.dev.on F.CLK_PLLM_STAT_LOCK = false ∧
      t.dev.on F.CLK_PLLM_STAT_READY = false ∧ t.dev.on F.CLK_PLLM_STAT_DETERM = false ∧
      t.dev.clk.pllM = { started := true, startAt := s.dev.now } ∧ t.dev.time.running = false ∧
      SameRegs s.dev t.dev [.CLK_PLLM_CFG, .CLK_PLLM_STAT, .CLK_PHASE_ERR, .CLK_PHASE_OFS, .PG_ERR .CLK]) ∧
  (∀ (m : Nat) (s : State), Accepts pllmCfgWrite m .CLK_PLLM_CFG 1 s.dev →
    (s.dev.cellsBlocked = false ∨ s.dev.anyDomsel 0 = true) →
    Answers (.pllmRestart m) s fun t =>
      t.dev.bit (F.PG_ERR_BLK .CLK) 0 = true ∧ t.dev.clk = s.dev.clk ∧ SameRegs s.dev t.dev [.PG_ERR .CLK]) ∧
  (∀ (m : Nat) (s : State), Accepts pllsCfgWrite m .CLK_PLLS_CFG 1 s.dev → isSafe m = true →
    s.dev.on F.CLK_PLLM_STAT_READY = true → s.dev.on F.CLK_PLLM_STAT_FREEWHEEL = false →
    s.dev.on (F.CLK_OUT_CFG_EN 3) = true → s.dev.on (F.CLK_OUT_CFG_EN 5) = true →
    s.dev.rd (F.CLK_OUT_CFG_DIV 5) = 25 → s.dev.anyDomsel 1 = false →
    Answers (.pllsRestart m) s fun t =>
      t.dev.on F.CLK_PLLS_CFG_RESTART = true ∧ t.dev.on F.CLK_PLLS_STAT_LOCK = false ∧
      t.dev.on F.CLK_PLLS_STAT_READY = false ∧ t.dev.clk.pllS = { started := true, startAt := s.dev.now } ∧
      SameRegs s.dev t.dev [.CLK_PLLS_CFG, .CLK_PLLS_STAT, .PG_ERR .CLK]) ∧
  (∀ (m : Nat) (s : State), Accepts pllsCfgWrite m .CLK_PLLS_CFG 1 s.dev → isSafe m = true →
    s.dev.on F.CLK_PLLM_STAT_READY = false ∨ s.dev.on F.CLK_PLLM_STAT_FREEWHEEL = true ∨
      s.dev.on (F.CLK_OUT_CFG_EN 3) = false ∨ s.dev.on (F.CLK_OUT_CFG_EN 5) = false ∨
      s.dev.rd (F.CLK_OUT_CFG_DIV 5) ≠ 25 ∨ s.dev.anyDomsel 1 = true →
    Answers (.pllsRestart m) s fun t =>
      t.dev.bit (F.PG_ERR_BLK .CLK) 0 = true ∧ t.dev.clk = s.dev.clk ∧ SameRegs s.dev t.dev [.PG_ERR .CLK])

/-- O16. Freewheel (R55, R63 to R66, R80): a missing edge or a failing gate of the root takes PLL-M into it with cause
1 or 2 and latches source 39; a loss of LOCK takes its loop into it with cause 3 and latches the loop's source; a
passing gate of a qualified candidate that is present closes PLL-M on it; a closed loop that does not lock within 1 ms
opens again and latches its source, and the root is the one in use before; the exit of PLL-M counts, and a failover
with it; the end of a slew sets DETERM. A step on demand moves the outputs by the phase error present, while PLL-M is
READY and the cells are blocked, and is refused otherwise. Where this rests on the model's choices: log entries 17,
18, 19 and 164. -/
def Obligations.FreewheelEntersAndLeaves : Prop :=
  (∀ (s : State), s.dev.rd F.CLK_ROOTSTAT_CUR ≠ 7 → s.dev.clk.pllM.started = true →
    s.dev.on F.CLK_PLLM_STAT_FREEWHEEL = false →
    Answers .missingEdge s fun t =>
      t.dev.on F.CLK_PLLM_STAT_FREEWHEEL = true ∧ t.dev.rd F.CLK_ROOTSTAT_CAUSE = 1 ∧ t.dev.scored 39 ∧
      t.dev.on F.CLK_PLLM_STAT_LOCK = false ∧ t.dev.on F.CLK_PLLM_STAT_DETERM = false ∧
      SameRegsBut s.dev t.dev 39 [.CLK_ROOTSTAT, .CLK_PLLM_STAT, .CLK_PLLS_STAT, .CLK_EVT, .CLK_PHASE_ERR,
        .CLK_PHASE_OFS]) ∧
  (∀ (i : Fin 5) (count : Nat) (err : Int) (s : State), s.dev.on F.CLK_PLLS_CFG_RESTART = false →
    s.dev.rd F.CLK_ROOTSTAT_CUR = i → (count < 156235 ∨ 156265 < count) → s.dev.clk.pllM.started = true →
    s.dev.on F.CLK_PLLM_STAT_FREEWHEEL = false →
    Answers (.frequencyGateEnd i count err) s fun t =>
      t.dev.on F.CLK_PLLM_STAT_FREEWHEEL = true ∧ t.dev.rd F.CLK_ROOTSTAT_CAUSE = 2 ∧ t.dev.scored 39 ∧
      SameRegsBut s.dev t.dev 39 [.CLK_ROOTSTAT, .CLK_PLLM_STAT, .CLK_PLLS_STAT, .CLK_EVT, .CLK_PHASE_ERR,
        .CLK_PHASE_OFS]) ∧
  (∀ (i : Fin 5) (count : Nat) (err : Int) (s : State), s.dev.on F.CLK_PLLS_CFG_RESTART = false →
    156235 ≤ count → count ≤ 156265 → s.dev.on F.CLK_PLLM_STAT_FREEWHEEL = true → s.dev.clk.pllM.closed = false →
    bitAt s.dev.clk.qualify i = true → s.dev.bit F.CLK_ROOTSTAT_PRESENT i = true →
    Answers (.frequencyGateEnd i count err) s fun t =>
      t.dev.clk.pllM.closed = true ∧ t.dev.rd F.CLK_ROOTSTAT_CUR = i ∧ t.dev.clk.pllM.closedAt = t.dev.now ∧
      t.dev.rdInt F.CLK_PHASE_ERR_MEAS = signedOf F.CLK_PHASE_ERR_MEAS.w (unsignedOf F.CLK_PHASE_ERR_MEAS.w (measured err)) ∧
      SameRegs s.dev t.dev [.CLK_ROOTSTAT, .CLK_EVT, .CLK_PHASE_ERR, .CLK_PHASE_OFS, .CLK_PLLM_STAT]) ∧
  (∀ (l : Fin 2) (s : State), (s.dev.clk.pll l).started = true → s.dev.on (fLock l) = true →
    s.dev.on (fFree l) = false →
    (s.dev.clk.pll l).gateOk = true →
    Answers (.lockLoss l) s fun t =>
      t.dev.on (fFree l) = true ∧ t.dev.on (fLock l) = false ∧ t.dev.scored (37 + l) ∧
      (l = 0 → t.dev.rd F.CLK_ROOTSTAT_CAUSE = 3) ∧
      SameRegsBut s.dev t.dev (37 + l) [.CLK_ROOTSTAT, .CLK_PLLM_STAT, .CLK_PLLS_STAT, .CLK_EVT, .CLK_PHASE_ERR,
        .CLK_PHASE_OFS]) ∧
  (∀ (l : Fin 2) (s : State), s.dev.on (fFree l) = true → (s.dev.clk.pll l).closed = true → s.dev.on (fLock l) = false →
    Answers (.relockFail l) s fun t =>
      (t.dev.clk.pll l).closed = false ∧ t.dev.scored (37 + l) ∧
      t.dev.now = max s.dev.now ((s.dev.clk.pll l).closedAt + 1000000) ∧
      (l = 0 → ∀ c e, s.dev.clk.closing = some (c, e) → c < 8 → t.dev.rd F.CLK_ROOTSTAT_CUR = c) ∧
      SameRegsBut s.dev t.dev (37 + l) [.CLK_PLLM_STAT, .CLK_PHASE_ERR, .CLK_PHASE_OFS, .CLK_ROOTSTAT, .CLK_EVT]) ∧
  (∀ (s : State), s.dev.clk.pllM.started = true → s.dev.on F.CLK_PLLM_STAT_LOCK = false →
    s.dev.on F.CLK_PLLM_STAT_FREEWHEEL = true → s.dev.clk.pllM.closed = true →
    Answers (.pllLock 0) s fun t =>
      t.dev.on F.CLK_EVT_FW_EXIT_M = true ∧
      t.dev.rd F.CLK_PLLM_STAT_RELOCKS =
        satAdd (s.dev.rd F.CLK_PLLM_STAT_RELOCKS) 1 (2 ^ F.CLK_PLLM_STAT_RELOCKS.w - 1) ∧
      t.dev.rd F.CLK_ROOTSTAT_FO_COUNT =
        if s.dev.clk.failover = true ∧ s.dev.rd F.CLK_ROOTSTAT_CUR ≠ s.dev.clk.lost then
          satAdd (s.dev.rd F.CLK_ROOTSTAT_FO_COUNT) 1 (2 ^ F.CLK_ROOTSTAT_FO_COUNT.w - 1)
        else s.dev.rd F.CLK_ROOTSTAT_FO_COUNT) ∧
  (∀ (s : State), s.dev.on F.CLK_PLLM_STAT_SLEWING = true →
    Answers .slewEnd s fun t =>
      t.dev.on F.CLK_PLLM_STAT_SLEWING = false ∧ t.dev.on F.CLK_PLLM_STAT_DETERM = true ∧
      t.dev.rd F.CLK_PHASE_ERR_REMAIN = 0 ∧ t.dev.now = max s.dev.now s.dev.clk.slewEnd ∧
        SameRegs s.dev t.dev [.CLK_PLLM_STAT, .CLK_PHASE_ERR, .CLK_EVT]) ∧
  (∀ (m : Nat) (v : Word) (s : State), (Instr.doStep m v).wf = true →
    Accepts phasePolicyWrite m .CLK_PHASE_POLICY v.toNat s.dev → s.dev.on F.CLK_PLLM_STAT_READY = true →
    s.dev.cellsBlocked = true →
    Answers (.doStep m v) s fun t =>
      t.dev.on F.CLK_PLLM_STAT_DETERM = true ∧ t.dev.on F.TIME_STAT_CLK_STEPPED = true ∧ t.dev.time.reload = true ∧
      t.dev.time.e0Ps = s.dev.time.e0Ps + stepLength s.dev.presentErr ∧
      t.dev.rd F.TIME_CLKSTEP_D = stepLength s.dev.presentErr % 2 ^ F.TIME_CLKSTEP_D.w ∧
      SameRegs s.dev t.dev [.CLK_PHASE_POLICY, .CLK_PLLM_STAT, .CLK_EVT, .CLK_PHASE_ERR, .CLK_PHASE_OFS, .TIME_CLKSTEP,
        .TIME_STAT, .PG_ERR .CLK]) ∧
  (∀ (m : Nat) (v : Word) (s : State), (Instr.doStep m v).wf = true →
    Accepts phasePolicyWrite m .CLK_PHASE_POLICY v.toNat s.dev →
    (s.dev.on F.CLK_PLLM_STAT_READY = false ∨ s.dev.cellsBlocked = false) →
    Answers (.doStep m v) s fun t =>
      t.dev.bit (F.PG_ERR_BLK .CLK) 3 = true ∧ t.dev.time = s.dev.time ∧
      SameRegs s.dev t.dev [.CLK_PHASE_POLICY, .PG_ERR .CLK])

/-- O17. Outputs, multiplexers, gates and the frequency monitor (R60, R74 to R78): an output is set while it is
disabled, and disabled while it is not in use; other writes, and a divider below 4, are refused. A multiplexer
switches to a ready source, and is forced where a clock has stopped. A gate request drains and closes, by force after
1,024 BUSCLK cycles, and reopens. A measurement ends with its count, 0 for a stopped input, or, where the gate input
gives no edge, with NOGATE. Where this rests on the model's choices: log entries 8, 9 and 165. -/
def Obligations.ClockSwitchesGatesAndMonitor : Prop :=
  (∀ (m : Nat) (n : Fin 8) (v : Word) (s : State), Accepts (outCfgWrite n) m (.CLK_OUT_CFG n) v.toNat s.dev →
    s.dev.on (F.PG_LOCK_LOCK_BASIC .CLK) = false → s.dev.on (F.CLK_OUT_CFG_EN n) = false → 4 ≤ bitsOf v.toNat 0 8 →
    Answers (.outCfgWrite m n v) s fun t =>
      t.dev.rd (F.CLK_OUT_CFG_DIV n) = bitsOf v.toNat 0 8 ∧ t.dev.rd (F.CLK_OUT_CFG_DELAY n) = bitsOf v.toNat 8 8 ∧
      t.dev.on (F.CLK_OUT_CFG_EN n) = bitAt v.toNat 16 ∧ SameRegs s.dev t.dev [.CLK_OUT_CFG n, .PG_ERR .CLK]) ∧
  (∀ (m : Nat) (n : Fin 8) (v : Word) (s : State), Accepts (outCfgWrite n) m (.CLK_OUT_CFG n) v.toNat s.dev →
    s.dev.on (F.PG_LOCK_LOCK_BASIC .CLK) = false → bitsOf v.toNat 0 8 < 4 →
    Answers (.outCfgWrite m n v) s fun t =>
      t.dev.bit (F.PG_ERR_BLK .CLK) 4 = true ∧ SameRegs s.dev t.dev [.PG_ERR .CLK]) ∧
  (∀ (m : Nat) (n : Fin 8) (v : Word) (s : State), Accepts (outCfgWrite n) m (.CLK_OUT_CFG n) v.toNat s.dev →
    s.dev.on (F.PG_LOCK_LOCK_BASIC .CLK) = false → s.dev.on (F.CLK_OUT_CFG_EN n) = true → 4 ≤ bitsOf v.toNat 0 8 →
    bitsOf v.toNat 0 16 = bitsOf (s.dev.word (.CLK_OUT_CFG n)) 0 16 → bitAt v.toNat 16 = false →
      s.dev.outInUse n = false →
    Answers (.outCfgWrite m n v) s fun t =>
      t.dev.on (F.CLK_OUT_CFG_EN n) = false ∧ (n = 3 → t.dev.time.running = false) ∧
      SameRegs s.dev t.dev [.CLK_OUT_CFG n, .PG_ERR .CLK]) ∧
  (∀ (m : Nat) (n : Fin 8) (v : Word) (s : State), Accepts (outCfgWrite n) m (.CLK_OUT_CFG n) v.toNat s.dev →
    s.dev.on (F.PG_LOCK_LOCK_BASIC .CLK) = false → s.dev.on (F.CLK_OUT_CFG_EN n) = true →
    bitsOf v.toNat 0 16 ≠ bitsOf (s.dev.word (.CLK_OUT_CFG n)) 0 16 ∨ (bitAt v.toNat 16 = false ∧
      s.dev.outInUse n = true) →
    Answers (.outCfgWrite m n v) s fun t =>
      t.dev.bit (F.PG_ERR_BLK .CLK) 4 = true ∧ SameRegs s.dev t.dev [.PG_ERR .CLK]) ∧
  (∀ (m : Nat) (v : Word) (s : State) (f : Fin 6), Accepts domselWrite m .CLK_DOMSEL v.toNat s.dev →
    let w := s.dev.merged m .CLK_DOMSEL v.toNat
    domselOf w 2 = 3 ∨ (domselOf w f ≠ domselOf (s.dev.word .CLK_DOMSEL) f ∧
      (s.dev.srcReady f (domselOf w f) = false ∨ s.dev.bit F.CLK_DOMSEL_BUSY f = true)) →
    Answers (.domselWrite m v) s fun t =>
      t.dev.bit (F.PG_ERR_BLK .CLK) 0 = true ∧ SameRegs s.dev t.dev [.PG_ERR .CLK]) ∧
  (∀ (m : Nat) (v : Word) (s : State), Accepts domselWrite m .CLK_DOMSEL v.toNat s.dev →
    let w := s.dev.merged m .CLK_DOMSEL v.toNat
    (∀ f < 6, domselOf w f ≠ domselOf (s.dev.word .CLK_DOMSEL) f →
      s.dev.srcReady f (domselOf w f) = true ∧ s.dev.bit F.CLK_DOMSEL_BUSY f = false) → domselOf w 2 ≠ 3 →
    Answers (.domselWrite m v) s fun t =>
      (∀ f < 6, domselOf (t.dev.word .CLK_DOMSEL) f = domselOf w f ∧
        (domselOf w f ≠ domselOf (s.dev.word .CLK_DOMSEL) f → t.dev.bit F.CLK_DOMSEL_BUSY f = true)) ∧
      SameRegs s.dev t.dev [.CLK_DOMSEL, .PG_ERR .CLK]) ∧
  (∀ (f : Fin 6) (s : State),
    Answers (.domselResume f) s fun t =>
      t.dev.bit F.CLK_DOMSEL_BUSY f = false ∧ SameRegs s.dev t.dev [.CLK_DOMSEL] ∧
      ∀ g < 6, domselOf (t.dev.word .CLK_DOMSEL) g = domselOf (s.dev.word .CLK_DOMSEL) g) ∧
  (∀ (f : Fin 6) (s : State), s.dev.bit F.CLK_DOMSEL_BUSY f = true →
    Answers (.swForced f) s fun t =>
      t.dev.bit (F.PG_ERR_BLK .CLK) 1 = true ∧ SameRegs s.dev t.dev [.PG_ERR .CLK]) ∧
  (∀ (m : Nat) (v : Word) (b : Nat) (s : State), Accepts gateWrite m .CLK_GATE v.toNat s.dev → b < 21 →
    let w := s.dev.merged m .CLK_GATE v.toNat
    Answers (.gateRequest m v) s fun t =>
      (bitAt w b = true → bitAt (s.dev.word .CLK_GATE) b = false → bitAt t.dev.clk.draining b = true) ∧
      (bitAt w b = false → bitAt t.dev.clk.draining b = false ∧ t.dev.bit F.CLK_GATE_STAT_CLOSED b = false) ∧
      SameRegs s.dev t.dev [.CLK_GATE, .CLK_GATE_STAT, .PG_ERR .CLK]) ∧
  (∀ (b : Fin 21) (s : State), bitAt s.dev.clk.draining b = true →
    Answers (.gateClose b) s fun t =>
      t.dev.bit F.CLK_GATE_STAT_CLOSED b = true ∧ bitAt t.dev.clk.draining b = false ∧
      SameRegs s.dev t.dev [.CLK_GATE_STAT]) ∧
  (∀ (b : Fin 21) (s : State), bitAt s.dev.clk.draining b = true →
    Answers (.gateForced b) s fun t =>
      t.dev.bit F.CLK_GATE_STAT_CLOSED b = true ∧ bitAt t.dev.clk.draining b = false ∧
      t.dev.bit (F.PG_ERR_BLK .CLK) 2 = true ∧ t.dev.rd F.CLK_GATE_STAT_LAST_FORCED = b ∧
      t.dev.now = max s.dev.now (mget s.dev.now (s.dev.clk.drainAt.map fun e => (e.1, e.2 + s.dev.busNs 1024)) b) ∧
      SameRegs s.dev t.dev [.CLK_GATE_STAT, .PG_ERR .CLK]) ∧
  (∀ (m : Nat) (v : Word) (s : State), (Instr.fmonStart m v).wf = true →
    Accepts fmonCfgWrite m .CLK_FMON_CFG v.toNat s.dev → s.dev.clk.fmonRun = false →
    bitsOf (s.dev.merged m .CLK_FMON_CFG v.toNat) F.CLK_FMON_CFG_N.lo F.CLK_FMON_CFG_N.w ≠ 0 →
    Answers (.fmonStart m v) s fun t =>
      t.dev.clk.fmonRun = true ∧ t.dev.on F.CLK_FMON_CFG_START = true ∧ t.dev.word .CLK_FMON_RES = 0 ∧
      SameRegs s.dev t.dev [.CLK_FMON_CFG, .CLK_FMON_RES, .PG_ERR .CLK]) ∧
  (∀ (m : Nat) (v : Word) (s : State), (Instr.fmonStart m v).wf = true →
    Accepts fmonCfgWrite m .CLK_FMON_CFG v.toNat s.dev →
    s.dev.clk.fmonRun = true ∨
      bitsOf (s.dev.merged m .CLK_FMON_CFG v.toNat) F.CLK_FMON_CFG_N.lo F.CLK_FMON_CFG_N.w = 0 →
    Answers (.fmonStart m v) s fun t =>
      t.dev.bit (F.PG_ERR_BLK .CLK) 0 = true ∧ t.dev.clk = s.dev.clk ∧
      SameRegs s.dev t.dev [.CLK_FMON_CFG, .PG_ERR .CLK]) ∧
  (∀ (count : Nat) (s : State), s.dev.clk.fmonRun = true → s.dev.fmonStopped (s.dev.rd F.CLK_FMON_CFG_GATE) = false →
    let n := s.dev.fmonCount count
    Answers (.fmonDone count) s fun t =>
      t.dev.rd F.CLK_FMON_RES_COUNT = n % 2 ^ F.CLK_FMON_RES_COUNT.w ∧ t.dev.on F.CLK_FMON_RES_DONE = true ∧
      (s.dev.fmonStopped (s.dev.rd F.CLK_FMON_CFG_MEAS) = true → t.dev.rd F.CLK_FMON_RES_COUNT = 0) ∧
      (s.dev.on F.CLK_FMON_CFG_ALARM_EN = true →
        (n < s.dev.rd F.CLK_FMON_LO_LIMIT ∨ s.dev.rd F.CLK_FMON_HI_LIMIT < n) → t.dev.scored 40) ∧
      SameRegsBut s.dev t.dev 40 [.CLK_FMON_RES, .CLK_FMON_CFG, .CLK_EVT]) ∧
  (∀ (s : State), s.dev.clk.fmonRun = true → s.dev.fmonPs (s.dev.rd F.CLK_FMON_CFG_GATE) = none →
    Answers .fmonNogate s fun t =>
      t.dev.now = max s.dev.now (s.dev.clk.fmonAt + s.dev.busNs 1024) ∧
      t.dev.on F.CLK_FMON_RES_NOGATE = true ∧ t.dev.on F.CLK_FMON_RES_DONE = true ∧ t.dev.clk.fmonRun = false ∧
      t.dev.on F.CLK_FMON_CFG_START = false ∧ SameRegs s.dev t.dev [.CLK_FMON_RES, .CLK_FMON_CFG, .CLK_EVT])

/-- O18. The timebase read and steered (R84, R86, R88): a read of `TIME.NOW_NS` answers with the nanoseconds and takes
the reader's snapshot of the whole timebase; an addend within the limits is pending, also one written in the tick of a
boundary, which is taken first; one outside the limits is refused and changes nothing; a non-zero offset starts a slew
over it, and 0 during a slew asks for its end. Where this rests on the model's choices: log entries 20 and 25. -/
def Obligations.TimebaseReadAndSteered : Prop :=
  (∀ (m : Nat) (s : State), Reads m .TIME_NOW_NS s.dev →
    Answers (.timeSnapshot m) s fun t =>
      t.dev.resp.data = s.dev.tbVal / nsUnit % 1000000000 ∧ t.dev.snapOf m = s.dev.tbVal ∧
      (∀ q, q ≠ m → t.dev.snapOf q = s.dev.snapOf q) ∧ t.dev.regs = s.dev.regs) ∧
  (∀ (m : Nat) (v : Word) (s : State), Accepts addendWrite m .TIME_ADDEND v.toNat s.dev →
    s.dev.offBoundary → 0x7FEF9DB2 ≤ v.toNat → v.toNat ≤ 0x8010624E →
    Answers (.addendWrite m v) s fun t =>
      t.dev.rd F.TIME_ADDEND_ADDEND = v.toNat ∧ t.dev.time.base = s.dev.time.base ∧
      t.dev.time.annBase = s.dev.time.base ∧
      t.dev.on F.TIME_STAT_ADDEND_PEND = (v.toNat != s.dev.time.base) ∧
      SameRegs s.dev t.dev [.TIME_ADDEND, .TIME_ADDEND_EFF, .TIME_ADJ_REMAIN, .TIME_STAT, .TIME_STEP,
        .PG_ERR (.TIME 0)]) ∧
  (∀ (m : Nat) (v : Word) (s : State), Accepts addendWrite m .TIME_ADDEND v.toNat s.dev →
    s.dev.time.running = true → s.dev.time.anchorPs ≤ 1000 * s.dev.now → s.dev.time.pend = false →
    s.dev.time.nextB ≤ s.dev.tns → 0x7FEF9DB2 ≤ v.toNat → v.toNat ≤ 0x8010624E →
    Answers (.addendWrite m v) s fun t =>
      t.dev.rd F.TIME_ADDEND_ADDEND = v.toNat ∧ t.dev.time.base = s.dev.time.annBase ∧
      t.dev.time.annBase = s.dev.time.annBase) ∧
  (∀ (m : Nat) (v : Word) (s : State), Accepts addendWrite m .TIME_ADDEND v.toNat s.dev →
    s.dev.offBoundary → (v.toNat < 0x7FEF9DB2 ∨ 0x8010624E < v.toNat) →
    Answers (.addendWrite m v) s fun t =>
      t.dev.bit (F.PG_ERR_BLK (.TIME 0)) 0 = true ∧ t.dev.time = s.dev.time ∧
        SameRegs s.dev t.dev [.PG_ERR (.TIME 0)]) ∧
  (∀ (m : Nat) (v : Word) (s : State), Accepts adjWrite m .TIME_ADJ_NS v.toNat s.dev →
    s.dev.offBoundary → v ≠ 0 →
    Answers (.adjNsWrite m v) s fun t =>
      t.dev.time.slewing = true ∧ t.dev.time.remain = signedOf 32 v.toNat * nsUnit ∧ t.dev.time.ending = 0 ∧
      t.dev.on F.TIME_STAT_ADJ_BUSY = true ∧ t.dev.time.count = s.dev.time.count ∧
      SameRegs s.dev t.dev [.TIME_ADJ_NS, .TIME_ADDEND_EFF, .TIME_ADJ_REMAIN, .TIME_STAT, .TIME_STEP,
        .PG_ERR (.TIME 0)]) ∧
  (∀ (m : Nat) (v : Word) (s : State), Accepts adjWrite m .TIME_ADJ_NS v.toNat s.dev →
    s.dev.offBoundary → v = 0 → s.dev.time.slewing = true → s.dev.time.ending = 0 →
    Answers (.adjNsWrite m v) s fun t =>
      t.dev.time.remain = 0 ∧ t.dev.time.ending = 1 ∧ t.dev.time.slewing = true ∧
      SameRegs s.dev t.dev [.TIME_ADJ_NS, .TIME_ADDEND_EFF, .TIME_ADJ_REMAIN, .TIME_STAT, .TIME_STEP,
        .PG_ERR (.TIME 0)])

/-- O19. Steps of the timebase (R89): a request is accepted only while the cells are blocked, with less than a second
of nanoseconds and none waiting, and is refused otherwise; its operand is taken then (log entry 6). It lands with
TIME_STEPPED and RELOAD, ends a slew and is no longer BUSY: ABS makes the present tick its operand with fraction 0,
and REL adds to the count and leaves its fraction. Where this rests on the model's choices: log entries 6, 9 and 22.
-/
def Obligations.TimebaseSteps : Prop :=
  (∀ (m : Nat) (s : State), Accepts stepWrite m .TIME_STEP 1 s.dev → s.dev.time.stepCmd = 0 →
    s.dev.cellsBlocked = true →
    s.dev.rd F.TIME_SET_NS_VAL < 1000000000 →
    Answers (.stepAbs m) s fun t =>
      t.dev.time.stepCmd = 1 ∧ t.dev.on F.TIME_STEP_BUSY = true ∧ t.dev.time.count = s.dev.time.count ∧
      t.dev.time.stepNs = (s.dev.rd64 F.TIME_SET_SEC_LO_VAL F.TIME_SET_SEC_HI_VAL : Int) * 1000000000 +
        s.dev.rd F.TIME_SET_NS_VAL ∧
      SameRegs s.dev t.dev [.TIME_ADDEND_EFF, .TIME_ADJ_REMAIN, .TIME_STAT, .TIME_STEP, .PG_ERR (.TIME 0)]) ∧
  (∀ (m : Nat) (s : State), Accepts stepWrite m .TIME_STEP 2 s.dev → s.dev.time.stepCmd = 0 →
    s.dev.cellsBlocked = true →
    s.dev.rd F.TIME_SET_NS_VAL < 1000000000 →
    Answers (.stepRel m) s fun t =>
      t.dev.time.stepCmd = 2 ∧ t.dev.on F.TIME_STEP_BUSY = true ∧ t.dev.time.count = s.dev.time.count ∧
      t.dev.time.stepNs = signedOf 64 (s.dev.rd64 F.TIME_SET_SEC_LO_VAL F.TIME_SET_SEC_HI_VAL) * 1000000000 +
        s.dev.rd F.TIME_SET_NS_VAL ∧
      SameRegs s.dev t.dev [.TIME_ADDEND_EFF, .TIME_ADJ_REMAIN, .TIME_STAT, .TIME_STEP, .PG_ERR (.TIME 0)]) ∧
  (∀ (m : Nat) (s : State), Accepts stepWrite m .TIME_STEP 1 s.dev →
    s.dev.time.stepCmd ≠ 0 ∨ s.dev.cellsBlocked = false ∨ 1000000000 ≤ s.dev.rd F.TIME_SET_NS_VAL →
    Answers (.stepAbs m) s fun t =>
      t.dev.time = s.dev.time ∧ t.dev.bit (F.PG_ERR_BLK (.TIME 0)) 1 = true ∧
        SameRegs s.dev t.dev [.PG_ERR (.TIME 0)]) ∧
  (∀ (m : Nat) (s : State), Accepts stepWrite m .TIME_STEP 2 s.dev →
    s.dev.time.stepCmd ≠ 0 ∨ s.dev.cellsBlocked = false ∨ 1000000000 ≤ s.dev.rd F.TIME_SET_NS_VAL →
    Answers (.stepRel m) s fun t =>
      t.dev.time = s.dev.time ∧ t.dev.bit (F.PG_ERR_BLK (.TIME 0)) 1 = true ∧
        SameRegs s.dev t.dev [.PG_ERR (.TIME 0)]) ∧
  (∀ (s : State), s.dev.time.stepCmd ≠ 0 →
    Answers .stepLanding s fun t =>
      t.dev.time.stepCmd = 0 ∧ t.dev.on F.TIME_STAT_TIME_STEPPED = true ∧ t.dev.on F.TIME_STEP_BUSY = false ∧
      t.dev.time.slewing = false ∧ t.dev.on F.TIME_STAT_ADJ_BUSY = false ∧ t.dev.time.reload = true ∧
      t.dev.now = s.dev.now ∧
      (s.dev.time.stepCmd = 1 → (t.dev.time.count : Int) =
        (s.dev.time.stepNs * nsUnit - (s.dev.rd F.TIME_ADDEND_EFF_EFF * s.dev.timePhase / 4 : Nat)) % wrapUnits) ∧
      (s.dev.time.stepCmd = 2 → (t.dev.time.count : Int) =
        (s.dev.time.count + s.dev.time.stepNs * nsUnit) % wrapUnits) ∧
      ∀ r, r ∉ [.TIME_ADDEND_EFF, .TIME_ADJ_REMAIN, .TIME_STAT, .TIME_STEP] →
        (∀ c, r ≠ .EDGE_CAR_PSTART_NS c ∧ r ≠ .EDGE_CAR_PSTART_SEC c) → t.dev.regs.get r = s.dev.regs.get r)

/-- O20. Distribution boundaries (R87, R90, R99): at a boundary the announced addend and slew part take effect, the
written addend is announced, unless a period change waits, every enabled rim owes a time record, and the next boundary
is one period on; a pending period change takes effect at its tick. Where this rests on the model's choices: log
entries 7, 9, 20 and 21. -/
def Obligations.DistributionBoundaries : Prop :=
  (∀ (s : State), s.dev.time.running = true → s.dev.time.pend = false →
    Answers .distBoundary s fun t =>
      t.dev.time.base = s.dev.time.annBase ∧ t.dev.time.slew = s.dev.time.annSlew ∧
      t.dev.time.annBase = s.dev.rd F.TIME_ADDEND_ADDEND ∧
      t.dev.time.nextB = (s.dev.time.nextB / periodNs s.dev.time.period + 1) * periodNs s.dev.time.period ∧
      t.dev.time.boundAt = t.dev.now ∧ t.dev.time.recReload = s.dev.time.reload ∧ t.dev.time.reload = false ∧
      (∀ n < 32, s.dev.enabled (.TIME 0) = true → s.dev.rimOn n = true →
        (t.dev.rim n).qTime = (s.dev.rim n).qTime ++ [.time]) ∧
      SameRegs s.dev t.dev [.TIME_ADJ_NS, .TIME_ADDEND_EFF, .TIME_ADJ_REMAIN, .TIME_STAT, .TIME_STEP]) ∧
  (∀ (s : State), s.dev.time.running = true → s.dev.time.pend = true →
    Answers .distBoundary s fun t =>
      t.dev.time.base = s.dev.time.base ∧ t.dev.time.slew = s.dev.time.slew ∧
      t.dev.time.nextB = (s.dev.time.nextB / periodNs s.dev.time.period + 1) * periodNs s.dev.time.period ∧
      SameRegs s.dev t.dev [.TIME_ADJ_NS, .TIME_ADDEND_EFF, .TIME_ADJ_REMAIN, .TIME_STAT, .TIME_STEP]) ∧
  (∀ (s : State), s.dev.time.running = true → s.dev.time.pend = true →
    Answers .periodChange s fun t =>
      t.dev.time.period = s.dev.distCode ∧ t.dev.time.pend = false ∧
      t.dev.time.nextB = (s.dev.periodDue / periodNs s.dev.distCode + 1) *
        periodNs s.dev.distCode ∧
      SameRegs s.dev t.dev [.TIME_ADJ_NS, .TIME_ADDEND_EFF, .TIME_ADJ_REMAIN, .TIME_STAT, .TIME_STEP])

/-- O21. Alarms, the servo watchdog and transmit timestamps (R91, R92, R95): an alarm pulses its source, drives its
GPIO for its width and is disabled where it does not repeat; the watchdog runs while it is enabled, a kick restarts
it, and its expiry and a late time record latch source 36; a pop of a timestamp queue answers with its oldest entry.
Where this rests on the model's choices: log entries 7, 9, 20, 23 and 24. -/
def Obligations.AlarmsWatchdogAndTimestamps : Prop :=
  (∀ (n : Fin 4) (s : State), s.dev.on (F.TIME_ALARM_CTRL_EN n) = true → s.dev.time.running = true →
    let rep := repNs (s.dev.code (F.TIME_ALARM_CTRL_REP n) (List.range 5))
    Answers (.alarmFire n) s fun t =>
      (s.dev.domUp domMEM = true → t.dev.on (F.IR_SRC_ROUTE_PEND (125 + n)) = true) ∧
      (rep = none → t.dev.on (F.TIME_ALARM_CTRL_EN n) = false) ∧
      (∀ r, rep = some r → t.dev.on (F.TIME_ALARM_CTRL_EN n) = true) ∧
      (s.dev.on (F.TIME_ALARM_CTRL_GPIO_EN n) = true → s.dev.rd (F.TIME_ALARM_CTRL_WIDTH n) ≠ 0 →
        t.dev.alarmDrives (s.dev.rd (F.TIME_ALARM_CTRL_GPIO n)) = true) ∧
      SameRegs s.dev t.dev [.IR_SRC_ROUTE (125 + n), .TIME_ALARM_CTRL n, .TIME_ALARM_NS n, .TIME_ALARM_SEC_LO n,
        .TIME_ALARM_SEC_HI n]) ∧
  (∀ (n : Fin 4) (s : State), mhas s.dev.time.pulses n = true →
    Answers (.alarmPulseEnd n) s fun t =>
      mhas t.dev.time.pulses n = false ∧ t.dev.now = max s.dev.now (mget (0, 0) s.dev.time.pulses n).2 ∧
      t.dev.regs = s.dev.regs) ∧
  (∀ (m : Nat) (v : Word) (s : State), Accepts wdCfgWrite m .TIME_WD_CFG v.toNat s.dev →
    s.dev.basicLocked (.TIME 0) = false → bitAt v.toNat 16 ≠ s.dev.on F.TIME_WD_CFG_EN →
    Answers (.wdEnable m v) s fun t =>
      t.dev.time.wdRun = bitAt v.toNat 16 ∧ t.dev.time.wdAt = s.dev.now ∧
      t.dev.on F.TIME_WD_CFG_EN = bitAt v.toNat 16 ∧ SameRegs s.dev t.dev [.TIME_WD_CFG, .PG_ERR (.TIME 0)]) ∧
  (∀ (m : Nat) (v : Word) (s : State), Accepts wdKickWrite m .TIME_WD_KICK v.toNat s.dev →
    s.dev.on F.TIME_WD_CFG_EN = true →
    Answers (.wdKick m v) s fun t =>
      t.dev.time.wdRun = true ∧ t.dev.time.wdAt = s.dev.now ∧ SameRegs s.dev t.dev [.PG_ERR (.TIME 0)]) ∧
  (∀ (s : State), s.dev.time.wdRun = true →
    Answers .wdExpire s fun t =>
      t.dev.on F.TIME_STAT_WD_EXP = true ∧ t.dev.time.wdRun = false ∧ t.dev.scored 36 ∧
      t.dev.now = max s.dev.now (s.dev.time.wdAt + max 1 (s.dev.rd F.TIME_WD_CFG_TIMEOUT) * 1000000) ∧
      SameRegsBut s.dev t.dev 36 [.TIME_STAT]) ∧
  (∀ (n : Fin 32) (s : State), s.dev.rimOn n = true → DownRec.time ∈ (s.dev.rim n).qTime →
    Answers (.timeRecordLate n) s fun t =>
      t.dev.scored 36 ∧ t.dev.now = max s.dev.now (s.dev.time.boundAt + 2000) ∧ SameRegsBut s.dev t.dev 36 []) ∧
  (∀ (m : Nat) (x : Fin 2) (e : TsqEntry) (q : List TsqEntry) (s : State), Reads m (.TIME_PORT_TSQ_W0 x) s.dev →
    s.dev.time.tsq x = e :: q →
    Answers (.tsqPop m x) s fun t =>
      t.dev.resp.data = 2 ^ 31 + e.time / nsUnit % 1000000000 ∧ t.dev.time.tsq x = q ∧
      mget none t.dev.time.tsqSnap (x + 2 * m) = some e ∧ SameRegs s.dev t.dev [.TIME_PORT_TSQ_STAT x])

/-- O22. Rim ports (R108, R127, R130, R133, R143, R433): enabling a rim switches its lane on and, where its engine
runs, starts a discovery run; disabling it ends everything on it but the edges that wait, and leaves its positions
ABSENT; a change of block lock is shown; a lane that is down latches the rim's source; a rim cycle owes every rim
whose port sends a frame, and a pair where a block is in force; a tracking interval asks a calibrated position for an
echo; pairs leave first, between two blocks of the lane, then TIME records, edges before configuration, and an empty
frame where nothing else is due. Where this rests on the model's choices: log entries 9, 26, 34 and 35. -/
def Obligations.RimPorts : Prop :=
  (∀ (m : Nat) (n : Fin 32) (v : Word) (s : State), (Instr.rimEnable m n v).wf = true →
    Accepts (pgCtrlWrite (.RIM n)) m (.PG_CTRL (.RIM n)) v.toNat s.dev →
    s.dev.on (F.PG_LOCK_LOCK_CTRL (.RIM n)) = false → s.dev.rimOn n = false →
    Answers (.rimEnable m n v) s fun t =>
      t.dev.rimOn n = true ∧ t.dev.on (F.RIM_STAT_TXON n) = true ∧ (t.dev.rim n).enabledAt = s.dev.now ∧ t.mem = s.mem ∧
      (s.dev.domUp (rimDomain n) = true → s.dev.gateClosed (12 + n.val / 16) = false →
        bitAt s.dev.rimHalt (n.val / 16) = false → (s.dev.rim n).run = none →
        (t.dev.rim n).run.isSome = true ∧ t.dev.on (F.RIM_STAT_DISC_BUSY n) = true) ∧
      (s.dev.time.stepCmd = 0 → s.dev.tandem.learnArmed = false → SamePages s.dev t.dev [.RIM n])) ∧
  (∀ (m : Nat) (n : Fin 32) (v : Word) (s : State), (Instr.rimDisable m n v).wf = true →
    Accepts (pgCtrlWrite (.RIM n)) m (.PG_CTRL (.RIM n)) v.toNat s.dev →
    s.dev.on (F.PG_LOCK_LOCK_CTRL (.RIM n)) = false → s.dev.rimOn n = true →
    Answers (.rimDisable m n v) s fun t =>
      t.dev.rimOn n = false ∧ t.dev.on (F.RIM_STAT_TXON n) = false ∧ t.dev.on (F.RIM_STAT_RXLOCK n) = false ∧
      (∀ p < 8, t.dev.spokeSt (8 * n + p) = 0) ∧ t.dev.on (F.RIM_EVT_SPOKE_CHANGE n) = true ∧
      (t.dev.rim n).run = none ∧ (t.dev.rim n).fw = none ∧ (t.dev.rim n).qTime = [] ∧ (t.dev.rim n).qCfg = [] ∧
      (t.dev.rim n).qFw = [] ∧ t.mem = s.mem ∧
      (s.dev.time.stepCmd = 0 → (∀ r ∈ (s.dev.rim n).qEdge, r ∈ (t.dev.rim n).qEdge) ∧
        SamePages s.dev t.dev [.RIM n, .SPOKE n, .TANDEM 0])) ∧
  (∀ (n : Fin 32) (lock : Bool) (s : State), s.dev.rimOn n = true → s.dev.on (F.RIM_STAT_RXLOCK n) ≠ lock →
    Answers (.rimRxlockChange n lock) s fun t =>
      t.dev.on (F.RIM_STAT_RXLOCK n) = lock ∧ t.dev.on (F.RIM_EVT_LINK_CHANGE n) = true ∧
      (t.dev.rim n).lockAt = s.dev.now ∧ SameRegs s.dev t.dev [.RIM_STAT n, .RIM_EVT n]) ∧
  (∀ (n : Fin 32) (s : State), s.dev.rimOn n = true → s.dev.on (F.RIM_STAT_RXLOCK n) = false →
    Answers (.linkDown n) s fun t =>
      t.dev.bit (F.PG_ERR_BLK (.RIM n)) 0 = true ∧ t.dev.scored n ∧
      t.dev.now = max s.dev.now (if (s.dev.rim n).everLock then (s.dev.rim n).lockAt + 1001
        else (s.dev.rim n).enabledAt + 1000000) ∧
      SameRegsBut s.dev t.dev n [.PG_ERR (.RIM n)]) ∧
  (∀ (n : Fin 32) (s : State), s.dev.time.running = true → s.dev.rimSends n = true →
    Answers .rimCycle s fun t =>
      (t.dev.rim n).frameDue = true ∧ (t.dev.rim n).pairDue = s.dev.blockInForce n ∧ t.mem = s.mem ∧
      SamePages s.dev t.dev ((List.range 32).map Page.RIM ++ (List.range 32).map Page.SPOKE)) ∧
  (∀ (k : Fin 256) (s : State), s.dev.configured k = true → s.dev.on (F.RIM_CTRL_TRACK_EN (rimOf k)) = true →
    s.dev.rimRuns (rimOf k) = true → (s.dev.spoke k).calDone = true →
    Answers (.echoTrack k) s fun t =>
      t.dev.now = max s.dev.now ((s.dev.spoke k).trackAt + max 1 (s.dev.rd (F.RIM_XCFG_ECHO_INT (rimOf k))) * 10000) ∧
      (t.dev.spoke k).trackAt = t.dev.now ∧
      (t.dev.rim (rimOf k)).qCfg = (s.dev.rim (rimOf k)).qCfg ++
        [.echoReq (posOf k) ((s.dev.rim (rimOf k)).etag % 0x8000 + s.dev.tid % 2 * 0x8000)] ∧
      t.dev.regs = s.dev.regs) ∧
  (∀ (n : Fin 32) (s : State), s.dev.rimSends n = true → s.dev.blockInForce n = true →
    (s.dev.rim n).pairDue = true ∨ (s.dev.rim n).blocked = false →
    Answers (.rimFrameTransmit n) s fun t =>
      (t.dev.rim n).lastPair = blockPair s.dev.claim (s.dev.blockBypass n) ∧ (t.dev.rim n).pairDue = false ∧
      (t.dev.rim n).blocked = true ∧ t.dev.now = s.dev.blockEdge n ∧
      (t.dev.rim n).freeAt = max t.dev.now (s.dev.rim n).freeAt + 22 ∧
      ((s.dev.rim n).blocked = true → t.dev.regs = s.dev.regs) ∧
      SamePages s.dev t.dev ((List.range 29).map Page.EDGE)) ∧
  (∀ (n : Fin 32) (q : List DownRec) (s : State), s.dev.rimSends n = true →
    s.dev.blockInForce n = false ∨ ((s.dev.rim n).blocked = true ∧ (s.dev.rim n).pairDue = false) →
    (s.dev.rim n).qTime = .time :: q →
    Answers (.rimFrameTransmit n) s fun t =>
      (t.dev.rim n).qTime = q ∧ (t.dev.rim n).frameDue = false ∧
      (t.dev.rim n).lastFrame = deviceFrame s.dev.tid s.dev.claim (s.dev.rim n).fseq n 1
        (DownRec.bytes ((s.dev.jumpTo (s.dev.rim n).freeAt).timeVals n) .time) ∧
      (t.dev.rim n).fseq = ((s.dev.rim n).fseq + 1) % 65536 ∧ (t.dev.rim n).tseq = ((s.dev.rim n).tseq + 1) % 65536 ∧
      (t.dev.rim n).qEdge = (s.dev.rim n).qEdge ∧ t.dev.regs = s.dev.regs) ∧
  (∀ (n : Fin 32) (s : State), s.dev.rimSends n = true →
    s.dev.blockInForce n = false ∨ ((s.dev.rim n).blocked = true ∧ (s.dev.rim n).pairDue = false) →
    (s.dev.rim n).qTime = [] → (s.dev.rim n).qEdge ≠ [] →
    Answers (.rimFrameTransmit n) s fun t =>
      (t.dev.rim n).fseq = ((s.dev.rim n).fseq + 1) % 65536 ∧ (t.dev.rim n).frameDue = false ∧
      (t.dev.rim n).qCfg = (s.dev.rim n).qCfg ∧ (t.dev.rim n).qFw = (s.dev.rim n).qFw) ∧
  (∀ (n : Fin 32) (s : State), s.dev.rimSends n = true →
    s.dev.blockInForce n = false ∨ ((s.dev.rim n).blocked = true ∧ (s.dev.rim n).pairDue = false) →
    (s.dev.rim n).qTime = [] → (s.dev.rim n).qEdge = [] → (s.dev.rim n).qCfg = [] → (s.dev.rim n).qFw = [] →
    (s.dev.rim n).frameDue = true →
    Answers (.rimFrameTransmit n) s fun t =>
      (t.dev.rim n).lastFrame = deviceFrame s.dev.tid s.dev.claim (s.dev.rim n).fseq n 0 [] ∧
      (t.dev.rim n).frameDue = false ∧ t.dev.regs = s.dev.regs)

/-- O23. Discovery runs (R133): DISCOVER starts a run; the end of its window sends ASSIGN to every DISCOVERED position
that is not in shadow (R255); a run ends, with DISC_DONE and PERCENT 100 where it is the operation shown, when its
lane gains no lock within 1 ms, or when after the window no position lies between DISCOVERED and the target; an
automatic rescan starts a run while a position is ABSENT. Where this rests on the model's choices: log entries 7, 9
and 30. -/
def Obligations.DiscoveryRuns : Prop :=
  (∀ (m : Nat) (n : Fin 32) (v : Word) (s : State), (Instr.discover m n v).wf = true →
    Accepts (rimCtrlWrite n) m (.RIM_CTRL n) v.toNat s.dev → s.dev.rimRuns n = true → (s.dev.rim n).run = none →
    Answers (.discover m n v) s fun t =>
      (t.dev.rim n).run.isSome = true ∧ t.dev.on (F.RIM_CTRL_DISCOVER n) = true ∧
      t.dev.on (F.RIM_STAT_DISC_BUSY n) = true ∧ t.dev.on (F.PG_STAT_BUSY (.RIM n)) = true ∧
      SamePages s.dev t.dev [.RIM n, .SPOKE n]) ∧
  (∀ (n : Fin 32) (r : DiscRun) (s : State), (s.dev.rim n).run = some r → r.window = true → s.dev.rimRuns n = true →
    Answers (.discoveryWindowEnd n) s fun t =>
      (t.dev.rim n).run = some { r with window := false } ∧ t.dev.now = max s.dev.now (r.sentAt + 50000) ∧
      (∀ p < 8, s.dev.spokeSt (8 * n + p) = 1 → s.dev.shadow (8 * n + p) = false →
        (t.dev.spoke (8 * n + p)).assigned = true ∧
        .assign (s.dev.rd64 (F.SPOKE_UID_LO_VAL (8 * n + p)) (F.SPOKE_UID_HI_VAL (8 * n + p))) p ∈ (t.dev.rim n).qCfg) ∧
      SameRegs s.dev t.dev [.PG_PROG (.RIM n)]) ∧
  (∀ (n : Fin 32) (r : DiscRun) (s : State), (s.dev.rim n).run = some r → r.sent = false → r.again = false →
    s.dev.againOne (.RIM_CTRL n) 8 = false → s.dev.rimRuns n = true →
    Answers (.discoveryLockTimeout n) s fun t =>
      (t.dev.rim n).run = none ∧ t.dev.now = max s.dev.now (r.start + 1000000) ∧
        t.dev.on (F.RIM_EVT_DISC_DONE n) = true ∧
      t.dev.on (F.RIM_STAT_DISC_BUSY n) = false ∧ ((s.dev.rim n).shown = 1 → (s.dev.rim n).fw = none →
        t.dev.rd (F.PG_PROG_PERCENT (.RIM n)) = 100 ∧ t.dev.on (F.PG_STAT_BUSY (.RIM n)) = false) ∧
      SameRegs s.dev t.dev ([.PG_PROG (.RIM n), .PG_STAT (.RIM n), .RIM_CTRL n, .RIM_STAT n, .RIM_EVT n] ++
        (spokesOf n).map .SPOKE_CTRL)) ∧
  (∀ (n : Fin 32) (r : DiscRun) (s : State), (s.dev.rim n).run = some r → r.sent = true → r.window = false →
    r.again = false → s.dev.againOne (.RIM_CTRL n) 8 = false → s.dev.rimRuns n = true →
    (∀ p < s.dev.nodes n, ¬ (1 ≤ s.dev.spokeSt (8 * n + p) ∧ s.dev.spokeSt (8 * n + p) < s.dev.runTarget n)) →
    Answers (.discoveryEnd n) s fun t =>
      (t.dev.rim n).run = none ∧ t.dev.on (F.RIM_EVT_DISC_DONE n) = true ∧ t.dev.on (F.RIM_STAT_DISC_BUSY n) = false ∧
      ((s.dev.rim n).shown = 1 → (s.dev.rim n).fw = none →
        t.dev.rd (F.PG_PROG_PERCENT (.RIM n)) = 100 ∧ t.dev.on (F.PG_STAT_BUSY (.RIM n)) = false) ∧
      SameRegs s.dev t.dev ([.PG_PROG (.RIM n), .PG_STAT (.RIM n), .RIM_CTRL n, .RIM_STAT n, .RIM_EVT n] ++
        (spokesOf n).map .SPOKE_CTRL)) ∧
  (∀ (n : Fin 32) (s : State), s.dev.on (F.RIM_CTRL_AUTO_RESCAN n) = true → s.dev.rimRuns n = true →
    (s.dev.rim n).run = none → (∃ p < s.dev.nodes n, s.dev.spokeSt (8 * n + p) = 0) →
    Answers (.autoRescan n) s fun t =>
      (t.dev.rim n).run.isSome = true ∧ t.dev.now = max s.dev.now ((s.dev.rim n).rescanAt + 1000000) ∧
      (t.dev.rim n).rescanAt = t.dev.now ∧ t.dev.on (F.RIM_STAT_DISC_BUSY n) = true ∧
      SameRegs s.dev t.dev [.RIM_CTRL n, .RIM_STAT n, .PG_PROG (.RIM n), .PG_STAT (.RIM n)])

/-- O24. Records of nodes (R110, R124, R126, R129, R132 to R134, R137, R139, R143, R168, R244, R260): what the claim
of a frame, a HELLO, an echo during a calibration, an acknowledgement, a fault, a telemetry record, a delay record and
a frame do to the unit, the position, its registers and its rim. Where this rests on the model's choices: log entries
26, 27, 28, 31 and 167. -/
def Obligations.NodeRecords : Prop :=
  (∀ (n : Fin 32) (c : BitVec 48) (r : HelloRec) (s : State), s.dev.rimOn n = true →
    Answers (.hello n c r) s fun t =>
      t.dev.seen = max s.dev.seen c.toNat ∧
      (s.dev.claim ≠ 0 → s.dev.claim < c.toNat → t.dev.scored n ∧ t.dev.bit (F.PG_ERR_BLK (.RIM n)) 2 = true) ∧
      (s.dev.role = 2 ∨ s.dev.role = 4 → s.dev.claim < max s.dev.seen c.toNat →
        t.dev.role = 3 ∧ t.dev.on F.TANDEM_EVT_DEMOTED = true ∧ t.dev.scored 61) ∧
      (c.toNat = s.dev.claim → s.dev.claim ≠ 0 → t.dev.tandem.ownSeen = true ∧ t.dev.tandem.ownAt = s.dev.now)) ∧
  (∀ (n : Fin 32) (c : BitVec 48) (r : HelloRec) (p : Nat) (s : State), s.dev.rimRuns n = true →
    s.dev.helloPos n r = some p → s.dev.spokeSt (8 * n + p) = 0 → c.toNat ≤ s.dev.claim → r.posValid = false →
    s.dev.rd (F.SPOKE_XUID_LO_VAL (8 * n + p)) = 0 → s.dev.rd (F.SPOKE_XUID_HI_VAL (8 * n + p)) = 0 →
    s.dev.rd (F.SPOKE_XTYPE_VAL (8 * n + p)) = 0 →
    Answers (.hello n c r) s fun t =>
      t.dev.spokeSt (8 * n + p) = 1 ∧ t.dev.nodeClaim (8 * n + p) = c.toNat ∧
      t.dev.rd64 (F.SPOKE_UID_LO_VAL (8 * n + p)) (F.SPOKE_UID_HI_VAL (8 * n + p)) = r.uid.toNat ∧
      t.dev.rd (F.SPOKE_TYPE_VAL (8 * n + p)) = r.type_.toNat ∧ (t.dev.spoke (8 * n + p)).legs = r.legs.toNat ∧
      (s.dev.claimQuiet c.toNat → SameRegs s.dev t.dev (posRegs (8 * n + p) ++ [.SAFE_SEEN_LO, .SAFE_SEEN_HI,
        .SPOKE_CLAIM_LO (8 * n + p), .SPOKE_CLAIM_HI (8 * n + p), .SPOKE_UID_LO (8 * n + p), .SPOKE_UID_HI (8 * n + p),
        .SPOKE_TYPE (8 * n + p), .SPOKE_FWVER (8 * n + p), .SPOKE_HOPDLY (8 * n + p), .PG_ERR (.RIM n)]))) ∧
  (∀ (n : Fin 32) (c : BitVec 48) (r : HelloRec) (p : Nat) (s : State), s.dev.rimRuns n = true →
    s.dev.helloPos n r = some p → s.dev.spokeSt (8 * n + p) = 0 → s.dev.rd (F.SPOKE_XTYPE_VAL (8 * n + p)) ≠ 0 →
    s.dev.rd (F.SPOKE_XTYPE_VAL (8 * n + p)) ≠ r.type_.toNat →
    Answers (.hello n c r) s fun t =>
      t.dev.spokeSt (8 * n + p) = 7 ∧ t.dev.rd (F.SPOKE_STATE_CAUSE (8 * n + p)) = 1 ∧
      (s.dev.claimQuiet c.toNat → SameRegs s.dev t.dev (posRegs (8 * n + p) ++ [.SAFE_SEEN_LO, .SAFE_SEEN_HI,
        .SPOKE_CLAIM_LO (8 * n + p), .SPOKE_CLAIM_HI (8 * n + p), .SPOKE_UID_LO (8 * n + p), .SPOKE_UID_HI (8 * n + p),
        .SPOKE_TYPE (8 * n + p), .SPOKE_FWVER (8 * n + p), .SPOKE_HOPDLY (8 * n + p), .PG_ERR (.RIM n)]))) ∧
  (∀ (n : Fin 32) (c : BitVec 48) (r : HelloRec) (s : State), s.dev.rimRuns n = true → s.dev.helloPos n r = none →
    Answers (.hello n c r) s fun t =>
      t.dev.rd (F.RIM_STAT_EXTRA n) = satAdd (s.dev.rd (F.RIM_STAT_EXTRA n)) 1 15 ∧
      (s.dev.claimQuiet c.toNat → SameRegs s.dev t.dev [.SAFE_SEEN_LO, .SAFE_SEEN_HI, .RIM_STAT n, .PG_ERR (.RIM n)])) ∧
  (∀ (n : Fin 32) (pos : Fin 8) (r : EchoRec) (t4 : Nat) (e : Nat × Nat) (s : State),
    let k := 8 * n.val + pos.val
    s.dev.rimRuns n = true → s.dev.spokeSt k = 3 → (s.dev.spoke k).calDone = false → s.dev.shadow k = false →
    r.etag.toNat / 0x8000 = s.dev.tid % 2 → (s.dev.spoke k).pend.find? (fun e => e.1 == r.etag.toNat) = some e →
    (s.dev.spoke k).echoes.length < 63 →
    Answers (.echoRsp n pos r t4) s fun t =>
      (t.dev.spoke k).echoes = (s.dev.spoke k).echoes ++
        [((t4 : Int) - e.2 - r.turn.toNat) / 2 + s.dev.rdInt (F.SPOKE_ASYM_ASYM k)] ∧
      (t.dev.spoke k).lost = 0 ∧ t.dev.spokeSt k = 3 ∧ t.dev.rd (F.SPOKE_NSTAT_VAL k) = r.nstat.toNat ∧
      SameRegs s.dev t.dev [.SPOKE_NSTAT k]) ∧
  (∀ (n : Fin 32) (pos : Fin 8) (r : EchoRec) (t4 : Nat) (e : Nat × Nat) (s : State),
    let k := 8 * n.val + pos.val
    let x := ((t4 : Int) - e.2 - r.turn.toNat) / 2 + s.dev.rdInt (F.SPOKE_ASYM_ASYM k)
    s.dev.rimRuns n = true → s.dev.spokeSt k = 3 → (s.dev.spoke k).calDone = false → s.dev.shadow k = false →
    r.etag.toNat / 0x8000 = s.dev.tid % 2 → (s.dev.spoke k).pend.find? (fun e => e.1 == r.etag.toNat) = some e →
    63 ≤ (s.dev.spoke k).echoes.length → bitAt r.nstat.toNat 0 = false →
    Answers (.echoRsp n pos r t4) s fun t =>
      let v := calibrated ((s.dev.spoke k).echoes ++ [x])
      (t.dev.spoke k).calDone = true ∧ (t.dev.spoke k).filt = v * 64 ∧ (t.dev.spoke k).delayAt = s.dev.now ∧
      t.dev.spokeSt k = 3 ∧ (t.dev.rim n).qCfg = (s.dev.rim n).qCfg ++ [.delay (posOf k) v.toNat] ∧
      SameRegs s.dev t.dev [.SPOKE_NSTAT k, .SPOKE_DLY k, .RIM_LATENCY n]) ∧
  (∀ (n : Fin 32) (pos : Fin 8) (r : EchoRec) (t4 : Nat) (s : State), r.etag.toNat / 0x8000 ≠ s.dev.tid % 2 →
    Answers (.echoRsp n pos r t4) s fun t => t = s) ∧
  (∀ (n : Fin 32) (pos : Fin 8) (r : CfgAckRec) (i : CfgItem) (s : State),
    let k := 8 * n.val + pos.val
    s.dev.rimRuns n = true → s.dev.spokeSt k = 2 → (s.dev.spoke k).init = true → (s.dev.spoke k).cfg = [i] →
    i.param = r.param.toNat → i.vals.length = r.count.toNat → cfgCrc i.vals = r.crc.toNat → i.param ≠ 4 →
    r.status = 0 →
    Answers (.cfgAck n pos r) s fun t => t.dev.spokeSt k = 3 ∧ (t.dev.spoke k).calDone = false ∧
      (t.dev.spoke k).init = false ∧ SameRegs s.dev t.dev (posRegs k)) ∧
  (∀ (n : Fin 32) (pos : Fin 8) (r : CfgAckRec) (i : CfgItem) (s : State),
    let k := 8 * n.val + pos.val
    s.dev.rimRuns n = true → (s.dev.spoke k).cfg = [i] →
    i.param = r.param.toNat → i.vals.length = r.count.toNat → cfgCrc i.vals = r.crc.toNat → r.status ≠ 0 →
    Answers (.cfgAck n pos r) s fun t =>
      t.dev.spokeSt k = 7 ∧ t.dev.rd (F.SPOKE_STATE_CAUSE k) = 2 ∧ SameRegs s.dev t.dev (posRegs k)) ∧
  (∀ (n : Fin 32) (pos : Fin 8) (r : FaultRec) (s : State),
    let k := 8 * n.val + pos.val
    s.dev.rimOn n = true → (s.dev.spoke k).faults.contains r.fseq.toNat = false → s.dev.unwritten (.SPOKE_CTRL k) →
    Answers (.fault n pos r) s fun t =>
      t.dev.scored 60 ∧ t.dev.rd (F.SPOKE_FAULT_VAL k) = r.fseq.toNat * 2 ^ 16 + r.fcode.toNat ∧
      t.dev.on (F.RIM_EVT_FAULT n) = true ∧ (t.dev.spoke k).faults.contains r.fseq.toNat = true ∧
      (s.dev.rimRuns n = false → SameRegsBut s.dev t.dev 60 [.SPOKE_FAULT k, .RIM_EVT n]) ∧
      SameRegsBut s.dev t.dev 60 (.SPOKE_FAULT k :: posRegs k)) ∧
  (∀ (n : Fin 32) (pos : Fin 8) (r : FaultRec) (s : State),
    let k := 8 * n.val + pos.val
    s.dev.rimRuns n = true → (s.dev.spoke k).acked.contains r.fseq.toNat = false → s.dev.unwritten (.SPOKE_CTRL k) →
    Answers (.fault n pos r) s fun t =>
      (t.dev.spoke k).acked = r.fseq.toNat :: fseqNear r.fseq.toNat (s.dev.spoke k).acked ∧
      (t.dev.rim n).qCfg = (s.dev.rim n).qCfg ++ [.ackFault (posOf k) r.fseq.toNat] ∧
      (s.dev.identified k = false → t.dev.spokeSt k = s.dev.spokeSt k) ∧
      (s.dev.spokeSt k = 5 → r.action = 2 → t.dev.spokeSt k = 6) ∧
      (s.dev.identified k = true → ¬ (s.dev.spokeSt k = 5 ∧ r.action = 2) →
        (r.fcode = 6 → t.dev.spokeSt k = 7 ∧ t.dev.rd (F.SPOKE_STATE_CAUSE k) = 8) ∧
        (r.fcode = 7 → t.dev.spokeSt k = 7 ∧ t.dev.rd (F.SPOKE_STATE_CAUSE k) = 7) ∧
        (r.fcode ≠ 6 → r.fcode ≠ 7 → r.action = 1 →
          t.dev.spokeSt k = 7 ∧ t.dev.rd (F.SPOKE_STATE_CAUSE k) = 6))) ∧
  (∀ (n : Fin 32) (pos : Fin 8) (r : FaultRec) (s : State),
    let k := 8 * n.val + pos.val
    (s.dev.spoke k).faults.contains r.fseq.toNat = true →
    s.dev.rimRuns n = false ∨ (s.dev.spoke k).acked.contains r.fseq.toNat = true →
    Answers (.fault n pos r) s fun t => t = s) ∧
  (∀ (n : Fin 32) (pos : Fin 8) (port : Fin 2) (r : TelemRec) (x : Nat) (s : State),
    let k := 8 * n.val + pos.val
    s.dev.rimOn n = true → s.dev.identified k = true →
    ((s.dev.rim n).samples.filter fun y => decide (y ≤ s.dev.tns)).getLast? = some x →
    x % 1000000000 = r.sampleNs.toNat → s.dev.tns < x + max 500 (s.dev.rd (F.RIM_TCFG_CUT_DLY n)) →
    Answers (.telem n pos port r) s fun t =>
      mget (0, 0, r) (t.dev.rim n).back pos = (s.dev.tbNs, port.val, r) ∧ mhas (t.dev.rim n).back pos = true ∧
      t.dev.rd (F.RIM_CNT_LATE n) = s.dev.rd (F.RIM_CNT_LATE n) ∧ t.mem = s.mem ∧
      SameRegs s.dev t.dev (.SPOKE_NSTAT k :: posRegs k)) ∧
  (∀ (n : Fin 32) (pos : Fin 8) (port : Fin 2) (r : TelemRec) (s : State),
    let k := 8 * n.val + pos.val
    s.dev.rimOn n = true →
    (∀ x, ((s.dev.rim n).samples.filter fun y => decide (y ≤ s.dev.tns)).getLast? = some x →
      x % 1000000000 ≠ r.sampleNs.toNat ∨ x + max 500 (s.dev.rd (F.RIM_TCFG_CUT_DLY n)) ≤ s.dev.tns) →
    Answers (.telem n pos port r) s fun t =>
      t.dev.rd (F.RIM_CNT_LATE n) = (s.dev.rd (F.RIM_CNT_LATE n) + 1) % 2 ^ 16 ∧
      (t.dev.rim n).back = (s.dev.rim n).back ∧ t.mem = s.mem ∧
      SameRegs s.dev t.dev ([.RIM_CNT n, .SPOKE_NSTAT k] ++ posRegs k)) ∧
  (∀ (n : Fin 32) (pos : Fin 8) (c : BitVec 48) (e : DelayEntry) (s : State),
    let l := 4 * (8 * n.val + pos.val)
    s.dev.rimOn n = true → c.toNat = s.dev.claim → s.dev.on (F.EDGE_LEG_DT_ADAPT l) = true → e.eseq ≠ 0 →
    (s.dev.leg l).doneR ≠ some e.eseq.toNat → (s.dev.leg l).edges.find? (fun x => x.1 == e.eseq.toNat) = none →
    Answers (.tdelay n pos c [e]) s fun t =>
      t.dev.rd (F.EDGE_LEG_DSTAT_LAST_CAUSE l) = 1 ∧ t.dev.on F.EDGE_EVT_DT_REJECT = true ∧
      (t.dev.leg l).doneR = some e.eseq.toNat ∧
      SameRegsBut s.dev t.dev 47 [.EDGE_LEG_DSTAT l, .EDGE_LEG_ADT l, .EDGE_EVT]) ∧
  (∀ (n : Fin 32) (pos : Fin 8) (c : BitVec 48) (es : List DelayEntry) (s : State), s.dev.rimOn n = true →
    c.toNat ≠ s.dev.claim → Answers (.tdelay n pos c es) s fun t => t = s) ∧
  (∀ (n : Fin 32) (b : RimBlock) (bs : List RimBlock) (t4 : Nat) (s : State), s.dev.rimOn n = true →
    ((frameOf (b :: bs)).bind fun x => parseUp x.1) = none →
    Answers (.upFrame n b bs t4) s fun t =>
      t.dev.rd (F.RIM_CNT_CRC n) = (s.dev.rd (F.RIM_CNT_CRC n) + 1) % 2 ^ 16 ∧
      SameRegsBut s.dev t.dev n [.RIM_CNT n, .PG_ERR (.RIM n)]) ∧
  (∀ (n : Fin 32) (b : RimBlock) (bs : List RimBlock) (t4 : Nat) (f : UpFrame) (s : State), s.dev.rimOn n = true →
    ((frameOf (b :: bs)).bind fun x => parseUp x.1) = some f → f.up = true → f.recs = [] →
    Answers (.upFrame n b bs t4) s fun t =>
      t.dev.rd (F.RIM_STAT_SIDE n) = f.out % 2 ∧ t.dev.on (F.RIM_STAT_SIDE_VALID n) = true ∧
      (f.rim ≠ n.val → f.rim ≠ 0xFF → t.dev.bit (F.PG_ERR_BLK (.RIM n)) 5 = true) ∧
      (∀ p, f.pos = some p → (t.dev.spoke (8 * n.val + p)).upAt = s.dev.now ∧
        t.dev.nodeClaim (8 * n.val + p) = f.claim % 2 ^ 64) ∧ t.mem = s.mem ∧
      (s.dev.claimQuiet f.claim → f.pos = none →
        SameRegs s.dev t.dev [.SAFE_SEEN_LO, .SAFE_SEEN_HI, .RIM_STAT n, .PG_ERR (.RIM n)])) ∧
  (∀ (n : Fin 32) (b : RimBlock) (bs : List RimBlock) (t4 : Nat) (f : UpFrame) (s : State),
    ((frameOf (b :: bs)).bind fun x => parseUp x.1) = some f → f.up = false →
    Answers (.upFrame n b bs t4) s fun t => t = s)

/-- O25. Positions (R133, R134, R141, R167): configuration items are tried three times; the times of R133 and R141
fail a position with their causes; the commands of `SPOKEk.CTRL` act in the states that they name; written parameters
go out as CFG from CONFIGURED onwards. Where this rests on the model's choices: log entries 29, 33, 36, 37 and 38. -/
def Obligations.Positions : Prop :=
  (∀ (k : Fin 256) (i : CfgItem) (q : List CfgItem) (s : State), (s.dev.spoke k).cfg = i :: q →
    s.dev.rimRuns (rimOf k) = true → s.dev.shadow k = false → i.tries < 3 →
    Answers (.cfgRetry k) s fun t =>
      t.dev.now = max s.dev.now (i.at_ + 10000) ∧
      (t.dev.spoke k).cfg = q ++ [{ i with tries := i.tries + 1, at_ := t.dev.now }] ∧
      (t.dev.rim (rimOf k)).qCfg = (s.dev.rim (rimOf k)).qCfg ++ [.cfg (posOf k) i.param i.vals] ∧
      t.dev.regs = s.dev.regs) ∧
  (∀ (k : Fin 256) (i : CfgItem) (q : List CfgItem) (s : State), (s.dev.spoke k).cfg = i :: q →
    s.dev.rimRuns (rimOf k) = true → s.dev.shadow k = false → 3 ≤ i.tries →
    Answers (.cfgRetry k) s fun t =>
      t.dev.spokeSt k = 7 ∧ t.dev.rd (F.SPOKE_STATE_CAUSE k) = 2 ∧ (t.dev.spoke k).cfg = [] ∧
      SameRegs s.dev t.dev (posRegs k)) ∧
  (∀ (k : Fin 256) (i : CfgItem) (q : List CfgItem) (s : State), (s.dev.spoke k).cfg = i :: q →
    s.dev.rimRuns (rimOf k) = true → s.dev.shadow k = true →
    Answers (.cfgRetry k) s fun t => (t.dev.spoke k).cfg = q ∧ t.dev.rims = s.dev.rims ∧ t.dev.regs = s.dev.regs) ∧
  (∀ (k : Fin 256) (s : State), s.dev.spokeSt k = 3 → (s.dev.spoke k).calDone = true →
    s.dev.rimRuns (rimOf k) = true →
    Answers (.syncTimeout k) s fun t =>
      t.dev.spokeSt k = 7 ∧ t.dev.rd (F.SPOKE_STATE_CAUSE k) = 4 ∧
      t.dev.now = max s.dev.now ((s.dev.spoke k).delayAt + 2000000) ∧
        t.dev.on (F.RIM_EVT_SPOKE_CHANGE (rimOf k)) = true ∧
      SameRegs s.dev t.dev (posRegs k)) ∧
  (∀ (k : Fin 256) (s : State), s.dev.identified k = true → (s.dev.spoke k).restarting = false →
    s.dev.rimRuns (rimOf k) = true →
    Answers (.spokeLost k) s fun t =>
      t.dev.spokeSt k = 7 ∧ t.dev.rd (F.SPOKE_STATE_CAUSE k) = 5 ∧
      t.dev.now = max s.dev.now ((s.dev.spoke k).upAt + max 1 (s.dev.rd (F.RIM_XCFG_LOSS (rimOf k))) * 10000) ∧
      SameRegs s.dev t.dev (posRegs k)) ∧
  (∀ (k : Fin 256) (s : State), s.dev.identified k = true → (s.dev.spoke k).restarting = true →
    Answers (.fwHelloTimeout k) s fun t =>
      t.dev.spokeSt k = 7 ∧ t.dev.rd (F.SPOKE_STATE_CAUSE k) = 9 ∧
      t.dev.now = max s.dev.now ((s.dev.spoke k).actAt + 150000000) ∧ SameRegs s.dev t.dev (posRegs k)) ∧
  (∀ (m : Nat) (k : Fin 256) (v : Word) (s : State), (Instr.spokeAdmit m k v).wf = true →
    Accepts (spokeCtrlWrite k) m (.SPOKE_CTRL k) v.toNat s.dev → s.dev.rimRuns (rimOf k) = true →
    s.dev.spokeSt k = 4 → s.dev.shadow k = false →
    Answers (.spokeAdmit m k v) s fun t =>
      t.dev.spokeSt k = 5 ∧ t.dev.on (F.SPOKE_CTRL_ADMIT k) = true ∧
      SameRegs s.dev t.dev ([.SPOKE_CTRL k, .PG_ERR (Reg.SPOKE_CTRL k).page] ++ posRegs k) ∧
      (t.dev.rim (rimOf k)).qCfg = (s.dev.rim (rimOf k)).qCfg ++
        [.bypass (posOf k) 2, .release (posOf k) (s.dev.spoke k).legs]) ∧
  (∀ (m : Nat) (k : Fin 256) (v : Word) (s : State), (Instr.spokeBypass m k v).wf = true →
    Accepts (spokeCtrlWrite k) m (.SPOKE_CTRL k) v.toNat s.dev → s.dev.rimRuns (rimOf k) = true →
    s.dev.spokeSt k = 5 → s.dev.shadow k = false →
    Answers (.spokeBypass m k v) s fun t =>
      t.dev.spokeSt k = 6 ∧ t.dev.on (F.SPOKE_CTRL_BYPASS k) = true ∧
      SameRegs s.dev t.dev ([.SPOKE_CTRL k, .PG_ERR (Reg.SPOKE_CTRL k).page] ++ posRegs k) ∧
      (t.dev.rim (rimOf k)).qCfg = (s.dev.rim (rimOf k)).qCfg ++ [.bypass (posOf k) 1, .release (posOf k) 0]) ∧
  (∀ (m : Nat) (k : Fin 256) (v : Word) (s : State), (Instr.spokeUnbypass m k v).wf = true →
    Accepts (spokeCtrlWrite k) m (.SPOKE_CTRL k) v.toNat s.dev → s.dev.rimRuns (rimOf k) = true →
    s.dev.spokeSt k = 6 → s.dev.shadow k = false →
    Answers (.spokeUnbypass m k v) s fun t =>
      t.dev.spokeSt k = 5 ∧ t.dev.on (F.SPOKE_CTRL_UNBYPASS k) = true ∧
      SameRegs s.dev t.dev ([.SPOKE_CTRL k, .PG_ERR (Reg.SPOKE_CTRL k).page] ++ posRegs k) ∧
      (t.dev.rim (rimOf k)).qCfg = (s.dev.rim (rimOf k)).qCfg ++
        [.bypass (posOf k) 2, .release (posOf k) (s.dev.spoke k).legs]) ∧
  (∀ (m : Nat) (k : Fin 256) (v : Word) (s : State), (Instr.spokeRescan m k v).wf = true →
    Accepts (spokeCtrlWrite k) m (.SPOKE_CTRL k) v.toNat s.dev → s.dev.rimRuns (rimOf k) = true →
    s.dev.spokeSt k = 6 ∨ s.dev.spokeSt k = 7 →
    Answers (.spokeRescan m k v) s fun t =>
      t.dev.spokeSt k = 0 ∧ t.dev.on (F.SPOKE_CTRL_RESCAN k) = true ∧
      ((s.dev.rim (rimOf k)).run = none → (t.dev.rim (rimOf k)).run.isSome = true ∧
        t.dev.on (F.RIM_STAT_DISC_BUSY (rimOf k)) = true) ∧
      (∀ r, (s.dev.rim (rimOf k)).run = some r → (t.dev.rim (rimOf k)).run = some { r with again := r.sent }) ∧
      SameRegs s.dev t.dev ([.SPOKE_CTRL k, .RIM_CTRL (rimOf k), .PG_ERR (Reg.SPOKE_CTRL k).page] ++ posRegs k)) ∧
  (∀ (m : Nat) (k : Fin 256) (i : Fin 18) (v : Word) (s : State),
    Accepts (spokeCfgWrite k (cfgReg k i)) m (cfgReg k i) v.toNat s.dev → s.dev.configured k = false →
    Answers (.spokeCfgWrite m k i v) s fun t =>
      t.dev.word (cfgReg k i) = s.dev.merged m (cfgReg k i) v.toNat % 2 ^ 32 ∧ t.dev.spokes = s.dev.spokes ∧
      SameRegs s.dev t.dev [cfgReg k i, .PG_ERR (cfgReg k i).page]) ∧
  (∀ (m : Nat) (k : Fin 256) (i : Fin 18) (v : Word) (s : State),
    Accepts (spokeCfgWrite k (cfgReg k i)) m (cfgReg k i) v.toNat s.dev → 2 ≤ i.val →
    s.dev.on (F.PG_CTRL_EXPERT_EN (cfgReg k i).page) = true →
    s.dev.on (F.PG_LOCK_LOCK_EXPERT (cfgReg k i).page) = false → s.dev.configured k = true →
    s.dev.rimRuns (rimOf k) = true → s.dev.shadow k = false →
    Answers (.spokeCfgWrite m k i v) s fun t =>
      t.dev.rd (F.SPOKE_PAR_VAL k (i.val - 2)) = v.toNat ∧ t.dev.spokeSt k = s.dev.spokeSt k ∧
      (∃ it ∈ (t.dev.spoke k).cfg, it.param = 0x100 + (i.val - 2) ∧ it.vals = [v.toNat]) ∧
      SameRegs s.dev t.dev [cfgReg k i, .PG_ERR (cfgReg k i).page]) ∧
  (∀ (m : Nat) (k : Fin 256) (i : Fin 18) (v : Word) (s : State),
    Accepts (spokeCfgWrite k (cfgReg k i)) m (cfgReg k i) v.toNat s.dev →
    ((cfgReg k i).fields.any fun f => s.dev.takes m (cfgReg k i) f) = true → s.dev.configured k = true →
    s.dev.rimRuns (rimOf k) = true → s.dev.shadow k = false →
    Answers (.spokeCfgWrite m k i v) s fun t =>
      let e := cfgElem (cfgReg k i)
      let x := (t.dev.cfgVals k).getD e 0
      t.dev.word (cfgReg k i) = s.dev.merged m (cfgReg k i) v.toNat % 2 ^ 32 ∧
      (∃ it ∈ (t.dev.spoke k).cfg, it.param = cfgParam e ∧ it.vals = [x]) ∧
      .cfg (posOf k) (cfgParam e) [x] ∈ (t.dev.rim (rimOf k)).qCfg ∧
      SameRegs s.dev t.dev [cfgReg k i, .PG_ERR (cfgReg k i).page]) ∧
  (∀ (k : Fin 256) (v : Nat) (s : State), (s.dev.spoke k).ilkCur = some v → (s.dev.spoke k).ilkUp = true →
    s.dev.configured k = true → s.dev.shadow k = false → s.dev.oldEdges k v = false →
    (s.dev.spoke k).cfg.any (fun i => i.param == 4) = false →
    Answers (.interlockCfgSend k) s fun t =>
      (t.dev.rim (rimOf k)).qCfg = (s.dev.rim (rimOf k)).qCfg ++ [.cfg (posOf k) 4 [v]] ∧ t.dev.regs = s.dev.regs) ∧
  (∀ (n : Fin 32) (x : Nat) (s : State), s.memWf → s.dev.rimOn n = true → s.dev.nextCut n = some x →
    Answers (.telemetryCut n) s fun t =>
      (t.dev.rim n).samples = (s.dev.rim n).samples.tail ∧ (t.dev.rim n).back = [] ∧ t.dev.on (F.RIM_EVT_CUT n) = true ∧
      SamePages s.dev t.dev ([Page.RIM n, .FC, .PWR, .SAFE] ++ (List.range 29).map Page.EDGE) ∧
      (∀ a, (a < slotAddr (8 * n) ∨ slotAddr (8 * n) + 1024 ≤ a) → memGet t.mem a = memGet s.mem a) ∧
      (∀ b, (s.dev.rim n).back = [b] → b.1 < 8 → ∀ i < 128,
        memGet t.mem (slotAddr (8 * n + b.1) + i) = (slotBytes b.2.1 b.2.2.1 b.2.2.2).getD i 0))

/-- O26. Firmware of the cell nodes (R140, R141): START begins a transfer, ACTIVATE and ABORT act, blocks leave in
order at their pace until every live target has acknowledged them, the digest is asked for, and acknowledgements end
the transfer; and the change of the distribution period (R90), accepted or refused. Where this rests on the model's
choices: log entries 9, 21 and 30. -/
def Obligations.CellFirmwareAndPeriod : Prop :=
  (∀ (m : Nat) (n : Fin 32) (v : Word) (s : State), (Instr.fwStart m n v).wf = true →
    Accepts (fwCtrlWrite n) m (.RIM_FW_CTRL n) v.toNat s.dev → s.dev.on (F.PG_LOCK_LOCK_BASIC (.RIM n)) = false →
    s.dev.rimRuns n = true → (s.dev.rim n).fw = none →
    Answers (.fwStart m n v) s fun t =>
      (t.dev.rim n).fw = some { src := s.dev.rd (F.RIM_FW_SRC_VAL n)
                                len := s.dev.rd (F.RIM_FW_LEN_VAL n)
                                blocks := (s.dev.rd (F.RIM_FW_LEN_VAL n) + 511) / 512
                                mask := bitsOf v.toNat 0 8
                                at_ := s.dev.now
                                abort := bitAt v.toNat 10 } ∧
      (t.dev.rim n).qCfg = (s.dev.rim n).qCfg ++ [.fwStart (s.dev.rd (F.RIM_FW_LEN_VAL n))
        ((s.dev.rd (F.RIM_FW_LEN_VAL n) + 511) / 512) (bitsOf v.toNat 0 8) (s.dev.fwDigest n)] ∧
      t.dev.on (F.RIM_STAT_FW_BUSY n) = true ∧ t.dev.on (F.RIM_FW_CTRL_START n) = true ∧
        t.dev.word (.RIM_FW_STAT n) = 0 ∧
      SameRegs s.dev t.dev [.RIM_FW_CTRL n, .RIM_FW_STAT n, .RIM_STAT n, .PG_PROG (.RIM n), .PG_STAT (.RIM n),
        .PG_ERR (.RIM n)]) ∧
  (∀ (m : Nat) (n : Fin 32) (v : Word) (s : State), (Instr.fwActivate m n v).wf = true →
    Accepts (fwCtrlWrite n) m (.RIM_FW_CTRL n) v.toNat s.dev → s.dev.rimRuns n = true →
    bitAt v.toNat 8 = false ∨ (s.dev.rim n).fw.isSome = true →
    Answers (.fwActivate m n v) s fun t =>
      (t.dev.rim n).qCfg = (s.dev.rim n).qCfg ++
        (((List.range 8).filter (bitAt (s.dev.rd (F.RIM_FW_STAT_DONE n)))).map fun p =>
          .fwActivate p ((s.dev.fwDigest n).drop 28) 1) ∧ SameRegs s.dev t.dev [.RIM_FW_CTRL n, .PG_ERR (.RIM n)]) ∧
  (∀ (m : Nat) (n : Fin 32) (v : Word) (x : FwXfer) (s : State), (Instr.fwAbort m n v).wf = true →
    Accepts (fwCtrlWrite n) m (.RIM_FW_CTRL n) v.toNat s.dev → (s.dev.rim n).fw = some x →
    Answers (.fwAbort m n v) s fun t =>
      (t.dev.rim n).fw = some { x with abort := true } ∧ t.dev.on (F.RIM_FW_CTRL_ABORT n) = true ∧
      SameRegs s.dev t.dev [.RIM_FW_CTRL n, .PG_ERR (.RIM n)]) ∧
  (∀ (n : Fin 32) (x : FwXfer) (s : State), (s.dev.rim n).fw = some x → x.asked = false → x.abort = false →
    s.dev.rimRuns n = true → x.next = 0 → x.pass = 0 → 0 < x.blocks → s.dev.fwReadable n x 0 = none →
    Answers (.fwDataSend n) s fun t =>
      t.dev.now = max s.dev.now (x.at_ + max 2 (s.dev.rd (F.RIM_XCFG_FW_PACE n)) * 1000) ∧
      (t.dev.rim n).fw = some { x with next := 1, at_ := t.dev.now } ∧
      (∃ data, data.length = 512 ∧ (t.dev.rim n).qFw = (s.dev.rim n).qFw ++ [.fwData 0 data]) ∧
      SameRegs s.dev t.dev [.PG_PROG (.RIM n)] ∧ t.mem = s.mem) ∧
  (∀ (n : Fin 32) (x : FwXfer) (b : Nat) (s : State), (s.dev.rim n).fw = some x → x.asked = false → x.abort = false →
    s.dev.rimRuns n = true → ¬ (x.next = 0 ∧ x.pass = 0) → s.dev.fwNext n x x.next = some b →
    s.dev.fwReadable n x b = none →
    Answers (.fwDataSend n) s fun t =>
      (t.dev.rim n).fw = some { x with next := b + 1, at_ := t.dev.now } ∧
      (∃ data, data.length = 512 ∧ (t.dev.rim n).qFw = (s.dev.rim n).qFw ++ [.fwData b data]) ∧
      SameRegs s.dev t.dev [.PG_PROG (.RIM n)] ∧ t.mem = s.mem) ∧
  (∀ (n : Fin 32) (x : FwXfer) (s : State), (s.dev.rim n).fw = some x → x.asked = false → x.abort = false →
    s.dev.rimRuns n = true → ¬ (x.next = 0 ∧ x.pass = 0) → s.dev.fwNext n x 0 = none →
    (List.range 8).filter (bitAt (s.dev.fwLive n x)) ≠ [] →
    Answers (.fwDataSend n) s fun t =>
      (t.dev.rim n).fw = some { x with asked := true, at_ := t.dev.now } ∧
      (t.dev.rim n).qCfg = (s.dev.rim n).qCfg ++
        (((List.range 8).filter (bitAt (s.dev.fwLive n x))).map fun p =>
          .fwActivate p ((s.dev.fwDigest n).drop 28) 0) ∧ t.dev.regs = s.dev.regs ∧ t.mem = s.mem) ∧
  (∀ (n : Fin 32) (x : FwXfer) (s : State), (s.dev.rim n).fw = some x → x.asked = false → x.abort = true →
    s.dev.rimRuns n = true →
    Answers (.fwDataSend n) s fun t =>
      (t.dev.rim n).fw = none ∧ t.dev.on (F.RIM_EVT_FW_DONE n) = true ∧ t.dev.on (F.RIM_STAT_FW_BUSY n) = false ∧
      t.mem = s.mem ∧ SamePages s.dev t.dev [.RIM n]) ∧
  (∀ (n : Fin 32) (pos : Fin 8) (r : FwAckRec) (s : State), s.dev.rimRuns n = true → r.status = 4 →
    Answers (.fwAck n pos r) s fun t =>
      (t.dev.spoke (8 * n.val + pos.val)).restarting = true ∧ (t.dev.spoke (8 * n.val + pos.val)).actAt = s.dev.now ∧
      t.dev.regs = s.dev.regs) ∧
  (∀ (n : Fin 32) (pos : Fin 8) (r : FwAckRec) (x : FwXfer) (s : State), s.dev.rimRuns n = true → r.status = 0 →
    (s.dev.rim n).fw = some x → x.asked = false → bitAt x.mask pos = true →
    bitAt (s.dev.rd (F.RIM_FW_STAT_FAIL n)) pos = false →
    Answers (.fwAck n pos r) s fun t =>
      (t.dev.rim n).fw = some { x with acked := mset x.acked r.block.toNat (setBitAt (mget 0 x.acked r.block.toNat) pos) } ∧
      SameRegs s.dev t.dev [.PG_PROG (.RIM n)]) ∧
  (∀ (n : Fin 32) (pos : Fin 8) (r : FwAckRec) (x : FwXfer) (s : State), s.dev.rimRuns n = true →
    r.status = 2 ∨ r.status = 3 → (s.dev.rim n).fw = some x → x.asked = true → bitAt x.mask pos = true →
    bitAt (s.dev.rd (F.RIM_FW_STAT_FAIL n)) pos = false →
    Answers (.fwAck n pos r) s fun t =>
      t.dev.bit (if r.status = 2 then F.RIM_FW_STAT_DONE n else F.RIM_FW_STAT_FAIL n) pos = true ∧
      (x.mask < 256 → (∀ p < 8, p ≠ pos.val → bitAt x.mask p = true →
        s.dev.bit (F.RIM_FW_STAT_DONE n) p = true ∨ s.dev.bit (F.RIM_FW_STAT_FAIL n) p = true) →
        (t.dev.rim n).fw = none ∧ t.dev.on (F.RIM_EVT_FW_DONE n) = true ∧ t.dev.on (F.RIM_STAT_FW_BUSY n) = false) ∧
      SamePages s.dev t.dev [.RIM n]) ∧
  (∀ (m : Nat) (v : Word) (s : State), Accepts periodWrite m .TIME_DIST v.toNat s.dev →
    s.dev.basicLocked (.TIME 0) = false → s.dev.cellsBlocked = true → s.dev.time.pend = false →
    Answers (.periodWrite m v) s fun t =>
      t.dev.rd F.TIME_DIST_PERIOD = bitsOf v.toNat 0 3 ∧ t.dev.time.pend = true ∧
      t.dev.time.period = s.dev.time.period ∧ t.dev.on F.TIME_STAT_PERIOD_PEND = true ∧
      (∀ k < 256, s.dev.configured k = true → s.dev.shadow k = false → s.dev.rimRuns (rimOf k) = true →
        .cfg (posOf k) 3 [periodNs t.dev.distCode] ∈ (t.dev.rim (rimOf k)).qCfg) ∧
      (s.dev.offBoundary → SameRegs s.dev t.dev
        [.TIME_DIST, .TIME_ADDEND_EFF, .TIME_ADJ_REMAIN, .TIME_STAT, .TIME_STEP, .PG_ERR (.TIME 0)])) ∧
  (∀ (m : Nat) (v : Word) (s : State), Accepts periodWrite m .TIME_DIST v.toNat s.dev →
    s.dev.basicLocked (.TIME 0) = false → (s.dev.cellsBlocked = false ∨ s.dev.time.pend = true) →
    Answers (.periodWrite m v) s fun t =>
      t.dev.bit (F.PG_ERR_BLK (.TIME 0)) 2 = true ∧ t.dev.time = s.dev.time ∧
      SameRegs s.dev t.dev [.PG_ERR (.TIME 0)])

/-- O27. Carriers (R145 to R149, R154 to R157): arming with ALIGN 0 fixes the first start, with ALIGN 1 it waits for a
period of its reference; a refused write changes nothing; disabling stops further commits and cancels the arms that
wait for the carrier, and is refused while legs are bound; a start and a stop of periods show in RUN; a commit takes
the period and the compares that stood before its tick and the interlocks that wait, and the lead is a plain register.
Where this rests on the model's choices: log entries 9, 39, 40 and 42. -/
def Obligations.Carriers : Prop :=
  (∀ (m : Nat) (c : Fin 64) (v : Word) (s : State), (Instr.carrierArm m c v).wf = true →
    Accepts (carCtrlWrite c) m (.EDGE_CAR_CTRL c) v.toNat s.dev →
    s.dev.on (F.PG_LOCK_LOCK_BASIC (Reg.EDGE_CAR_CTRL c).page) = false → s.dev.on (F.EDGE_CAR_CTRL_EN c) = false →
    bitAt v.toNat 1 = false →
    Answers (.carrierArm m c v) s fun t =>
      t.dev.on (F.EDGE_CAR_CTRL_EN c) = true ∧ t.dev.on (F.EDGE_CAR_STAT_ARMED c) = true ∧
      (t.dev.car c).next = some (s.dev.firstStart c) ∧ (t.dev.car c).begun = false ∧
      SameRegs s.dev t.dev [.EDGE_CAR_CTRL c, .EDGE_CAR_STAT c, .PG_ERR (Reg.EDGE_CAR_CTRL c).page]) ∧
  (∀ (m : Nat) (c : Fin 64) (v : Word) (s : State), (Instr.carrierArm m c v).wf = true →
    Accepts (carCtrlWrite c) m (.EDGE_CAR_CTRL c) v.toNat s.dev →
    s.dev.on (F.PG_LOCK_LOCK_BASIC (Reg.EDGE_CAR_CTRL c).page) = false → s.dev.on (F.EDGE_CAR_CTRL_EN c) = false →
    bitAt v.toNat 1 = true →
    (let ref := bitsOf v.toNat (F.EDGE_CAR_CTRL_REF c).lo (F.EDGE_CAR_CTRL_REF c).w
     ref = c.val ∨ s.dev.carRuns ref = false) →
    Answers (.carrierArm m c v) s fun t =>
      t.dev.bit (F.PG_ERR_BLK (.EDGE 0)) 0 = true ∧ t.dev.edge = s.dev.edge ∧
      SameRegs s.dev t.dev [.PG_ERR (.EDGE 0), .PG_ERR (Reg.EDGE_CAR_CTRL c).page]) ∧
  (∀ (m : Nat) (c : Fin 64) (v : Word) (s : State), (Instr.carrierArm m c v).wf = true →
    Accepts (carCtrlWrite c) m (.EDGE_CAR_CTRL c) v.toNat s.dev →
    s.dev.on (F.PG_LOCK_LOCK_BASIC (Reg.EDGE_CAR_CTRL c).page) = false → s.dev.on (F.EDGE_CAR_CTRL_EN c) = false →
    bitAt v.toNat 1 = true →
    (let ref := bitsOf v.toNat (F.EDGE_CAR_CTRL_REF c).lo (F.EDGE_CAR_CTRL_REF c).w
     ref ≠ c.val ∧ s.dev.carRuns ref = true) →
    Answers (.carrierArm m c v) s fun t =>
      t.dev.on (F.EDGE_CAR_CTRL_EN c) = true ∧ t.dev.on (F.EDGE_CAR_STAT_ARMED c) = true ∧
      (t.dev.car c).waiting = true ∧ (t.dev.car c).next = none ∧ (t.dev.car c).begun = false ∧
      SameRegs s.dev t.dev [.EDGE_CAR_CTRL c, .EDGE_CAR_STAT c, .PG_ERR (Reg.EDGE_CAR_CTRL c).page]) ∧
  (∀ (m : Nat) (c : Fin 64) (v : Word) (s : State), (Instr.carrierArm m c v).wf = true →
    Accepts (carCtrlWrite c) m (.EDGE_CAR_CTRL c) v.toNat s.dev →
    s.dev.on (F.PG_LOCK_LOCK_BASIC (Reg.EDGE_CAR_CTRL c).page) = false → s.dev.on (F.EDGE_CAR_CTRL_EN c) = true →
    Answers (.carrierArm m c v) s fun t =>
      t.dev.word (.EDGE_CAR_CTRL c) = s.dev.merged m (.EDGE_CAR_CTRL c) v.toNat % 2 ^ 32 ∧ t.dev.edge = s.dev.edge ∧
      SameRegs s.dev t.dev [.EDGE_CAR_CTRL c, .PG_ERR (Reg.EDGE_CAR_CTRL c).page]) ∧
  (∀ (m : Nat) (c : Fin 64) (v : Word) (s : State), (Instr.carrierDisable m c v).wf = true →
    Accepts (carCtrlWrite c) m (.EDGE_CAR_CTRL c) v.toNat s.dev →
    s.dev.on (F.PG_LOCK_LOCK_BASIC (Reg.EDGE_CAR_CTRL c).page) = false → s.dev.on (F.EDGE_CAR_CTRL_EN c) = true →
    s.dev.carBound c = false →
    Answers (.carrierDisable m c v) s fun t =>
      t.dev.on (F.EDGE_CAR_CTRL_EN c) = false ∧ (t.dev.car c).next = none ∧
      (t.dev.car c).stopAt = (if (s.dev.car c).begun then some (s.dev.car c).endAt else (s.dev.car c).stopAt) ∧
      t.dev.on (F.EDGE_CAR_STAT_RUN c) = s.dev.on (F.EDGE_CAR_STAT_RUN c) ∧
      (∀ x < 64, x ≠ c.val → (s.dev.car x).waiting = true → s.dev.rd (F.EDGE_CAR_CTRL_REF x) = c.val →
        t.dev.on (F.EDGE_CAR_CTRL_EN x) = false ∧ (t.dev.car x).waiting = false) ∧
      ∀ r, r ∉ [.PG_ERR (.EDGE 0), .PG_ERR (Reg.EDGE_CAR_CTRL c).page] →
        (∀ x, r ≠ .EDGE_CAR_CTRL x ∧ r ≠ .EDGE_CAR_STAT x) → t.dev.regs.get r = s.dev.regs.get r) ∧
  (∀ (m : Nat) (c : Fin 64) (v : Word) (s : State), (Instr.carrierDisable m c v).wf = true →
    Accepts (carCtrlWrite c) m (.EDGE_CAR_CTRL c) v.toNat s.dev →
    s.dev.on (F.PG_LOCK_LOCK_BASIC (Reg.EDGE_CAR_CTRL c).page) = false → s.dev.on (F.EDGE_CAR_CTRL_EN c) = true →
    s.dev.carBound c = true →
    Answers (.carrierDisable m c v) s fun t =>
      t.dev.bit (F.PG_ERR_BLK (.EDGE 0)) 0 = true ∧ t.dev.edge = s.dev.edge ∧
      SameRegs s.dev t.dev [.PG_ERR (.EDGE 0), .PG_ERR (Reg.EDGE_CAR_CTRL c).page]) ∧
  (∀ (c : Fin 64) (x : Nat) (q : List Nat) (s : State), (s.dev.car c).firsts = x :: q →
    Answers (.carrierStart c) s fun t =>
      t.dev.on (F.EDGE_CAR_STAT_RUN c) = true ∧ (t.dev.car c).firsts = q ∧ t.dev.on F.EDGE_EVT_CAR_START = true ∧
      (q = [] → (s.dev.car c).begun = true ∨ s.dev.on (F.EDGE_CAR_CTRL_EN c) = false →
        t.dev.on (F.EDGE_CAR_STAT_ARMED c) = false) ∧
      SameRegs s.dev t.dev [.EDGE_CAR_STAT c, .EDGE_EVT]) ∧
  (∀ (c : Fin 64) (e : Nat) (s : State), (s.dev.car c).stopAt = some e → (s.dev.car c).begun = true →
    (s.dev.car c).firsts = [] → s.dev.on (F.EDGE_CAR_CTRL_EN c) = true →
    Answers (.carrierStop c) s fun t =>
      (t.dev.car c).stopAt = none ∧ t.dev.on F.EDGE_EVT_CAR_STOP = true ∧ SameRegs s.dev t.dev [.EDGE_EVT]) ∧
  (∀ (c : Fin 64) (e : Nat) (s : State), (s.dev.car c).stopAt = some e →
    ¬ ((s.dev.car c).begun = true ∧ (s.dev.car c).firsts = [] ∧ s.dev.on (F.EDGE_CAR_CTRL_EN c) = true) →
    Answers (.carrierStop c) s fun t =>
      (t.dev.car c).stopAt = none ∧ t.dev.on (F.EDGE_CAR_STAT_RUN c) = false ∧ t.dev.on F.EDGE_EVT_CAR_STOP = true ∧
      (∀ l < 1024, s.dev.rd (F.EDGE_LEG_CTRL_CAR l) = c → t.dev.heldState l = none ∧ (t.dev.leg l).lastq = none) ∧
      (∀ l < 1024, s.dev.rd (F.EDGE_LEG_CTRL_CAR l) ≠ c →
        t.dev.heldState l = s.dev.heldState l ∧ t.dev.leg l = s.dev.leg l) ∧
      ∀ r, r ∉ [.EDGE_CAR_STAT c, .EDGE_EVT] → (∀ l, r ≠ .EDGE_LEG_ESEQ l ∧ r ≠ .EDGE_LEG_CARRY l) →
        t.dev.regs.get r = s.dev.regs.get r) ∧
  (∀ (c : Fin 64) (x : Nat) (s : State), (s.dev.car c).next = some x →
    let b := (s.dev.jumpToTb (s.dev.commitTick x)).before
    let p := b.carPeriod c
    b.on (F.EDGE_CAR_CTRL_GATED c) = false →
    Answers (.commit c) s fun t =>
      let later := (s.dev.car c).xfer && (s.dev.car c).xferAt == t.dev.now
      (t.dev.car c).next = some (x + p) ∧ (t.dev.car c).commits = (s.dev.car c).commits + 1 ∧
      (t.dev.car c).begun = true ∧ (t.dev.car c).xfer = later ∧ (t.dev.car c).endAt = x + p ∧
      (t.dev.car c).cmps = ((List.range 8).map fun i => b.rd (F.EDGE_TRG_CMP_CMP (8 * c + i))) ∧
      (∀ i < 8, b.on (F.EDGE_TRG_CMP_EN (8 * c + i)) = true → b.rd (F.EDGE_TRG_CMP_CMP (8 * c + i)) < p →
        { at_ := x + b.rd (F.EDGE_TRG_CMP_CMP (8 * c + i)), trg := 8 * c + i } ∈ t.dev.edge.fires) ∧
      t.dev.rd (F.EDGE_CAR_STAT_CPERIOD c) = p % 2 ^ 24 ∧ t.dev.on (F.EDGE_CAR_STAT_XFER_PEND c) = later ∧
      (∀ k, ((s.dev.spoke k).ilkAt < t.dev.now →
          (t.dev.spoke k).interlock = (s.dev.spoke k).ilkNext ∧ (t.dev.spoke k).ilkCommit = none) ∧
        (t.dev.now ≤ (s.dev.spoke k).ilkAt → t.dev.spoke k = s.dev.spoke k)) ∧
      ∀ r, r ∉ [.EDGE_CAR_STAT c, .EDGE_CAR_PSTART_NS c, .EDGE_CAR_PSTART_SEC c] → (∀ l, r ≠ .EDGE_LEG_ESEQ l ∧
        r ≠ .EDGE_LEG_CARRY l) →
        t.dev.regs.get r = s.dev.regs.get r) ∧
  (∀ (c : Fin 64) (x : Nat) (s : State), (s.dev.car c).next = some x →
    let d := s.dev.jumpToTb (s.dev.commitTick x)
    d.before.on (F.EDGE_CAR_CTRL_GATED c) = true → (s.dev.car c).begun = true → (s.dev.car c).xferBefore d.now = false →
    Answers (.commit c) s fun t =>
      (t.dev.car c).next = some (x + (s.dev.car c).period) ∧ (t.dev.car c).period = (s.dev.car c).period ∧
      t.dev.on F.EDGE_EVT_NOXFER = true ∧
      ∀ r, r ∉ [.EDGE_CAR_STAT c, .EDGE_CAR_PSTART_NS c, .EDGE_CAR_PSTART_SEC c, .EDGE_EVT] →
        (∀ l, r ≠ .EDGE_LEG_ESEQ l ∧ r ≠ .EDGE_LEG_CARRY l) → t.dev.regs.get r = s.dev.regs.get r) ∧
  (∀ (c : Fin 64) (x : Nat) (s : State), (s.dev.car c).next = some x →
    let d := s.dev.jumpToTb (s.dev.commitTick x)
    d.before.on (F.EDGE_CAR_CTRL_GATED c) = true → (s.dev.car c).xferBefore d.now = true →
    Answers (.commit c) s fun t =>
      (t.dev.car c).next = some (x + d.before.carPeriod c) ∧ t.dev.on F.EDGE_EVT_XFER_TAKEN = true ∧
      ∀ r, r ∉ [.EDGE_CAR_STAT c, .EDGE_CAR_PSTART_NS c, .EDGE_CAR_PSTART_SEC c, .EDGE_EVT] →
        (∀ l, r ≠ .EDGE_LEG_ESEQ l ∧ r ≠ .EDGE_LEG_CARRY l) → t.dev.regs.get r = s.dev.regs.get r) ∧
  (∀ (m : Nat) (v : Word) (s : State), Accepts (plainEffect .EDGE_LEAD) m .EDGE_LEAD v.toNat s.dev →
    s.dev.on (F.PG_LOCK_LOCK_BASIC (Reg.EDGE_LEAD).page) = false →
    Answers (.leadWrite m v) s fun t =>
      t.dev.rd F.EDGE_LEAD_LEAD = bitsOf v.toNat F.EDGE_LEAD_LEAD.lo F.EDGE_LEAD_LEAD.w ∧
      SameRegs s.dev t.dev [.EDGE_LEAD, .PG_ERR (Reg.EDGE_LEAD).page] ∧ t.dev.edge = s.dev.edge) ∧
  (∀ (m : Nat) (c : Fin 64) (v : Word) (s : State), Accepts (xferWrite c) m (.EDGE_CAR_XFER c) v.toNat s.dev →
    Answers (.xferRequest m c v) s fun t =>
      t.dev.on (F.EDGE_CAR_STAT_XFER_PEND c) = true ∧ (t.dev.car c).xfer = true ∧ (t.dev.car c).xferAt = s.dev.now ∧
      SameRegs s.dev t.dev [.EDGE_CAR_STAT c, .PG_ERR (Reg.EDGE_CAR_XFER c).page])

/-- O28. Legs, blocks at the rim port and trigger compares (R150, R152, R159 to R161, R171, R172, R175, R176, R283,
R284): a change of CAR on an enabled leg is refused; a leg that is enabled has no held state; ADAPT starts the adapted
dead times from DT within the limits; a generation of a leg without a duty turns it off at the period's start; a block
discards the queued edges; the rim cycle after its end releases the admitted positions, unless a block has come back.
Where this rests on the model's choices: log entries 32 and 38. -/
def Obligations.LegsBlocksAndTriggers : Prop :=
  (∀ (m : Nat) (l : Fin 1024) (v : Word) (s : State), Accepts (legCtrlWrite l) m (.EDGE_LEG_CTRL l) v.toNat s.dev →
    s.dev.on (F.PG_LOCK_LOCK_BASIC (Reg.EDGE_LEG_CTRL l).page) = false → s.dev.on (F.EDGE_LEG_CTRL_EN l) = true →
    bitsOf v.toNat 8 6 ≠ s.dev.rd (F.EDGE_LEG_CTRL_CAR l) →
    Answers (.legCtrlWrite m l v) s fun t =>
      t.dev.bit (F.PG_ERR_BLK (.EDGE 0)) 1 = true ∧ t.dev.word (.EDGE_LEG_CTRL l) = s.dev.word (.EDGE_LEG_CTRL l) ∧
      SameRegs s.dev t.dev [.PG_ERR (.EDGE 0), .PG_ERR (Reg.EDGE_LEG_CTRL l).page]) ∧
  (∀ (m : Nat) (l : Fin 1024) (v : Word) (s : State), Accepts (legCtrlWrite l) m (.EDGE_LEG_CTRL l) v.toNat s.dev →
    s.dev.on (F.PG_LOCK_LOCK_BASIC (Reg.EDGE_LEG_CTRL l).page) = false → s.dev.on (F.EDGE_LEG_CTRL_EN l) = true →
    bitsOf v.toNat 8 6 = s.dev.rd (F.EDGE_LEG_CTRL_CAR l) →
    Answers (.legCtrlWrite m l v) s fun t =>
      t.dev.on (F.EDGE_LEG_CTRL_EN l) = bitAt v.toNat 0 ∧ t.dev.edge = s.dev.edge ∧
      SameRegs s.dev t.dev [.EDGE_LEG_CTRL l, .PG_ERR (Reg.EDGE_LEG_CTRL l).page]) ∧
  (∀ (m : Nat) (l : Fin 1024) (v : Word) (s : State), Accepts (legCtrlWrite l) m (.EDGE_LEG_CTRL l) v.toNat s.dev →
    s.dev.on (F.PG_LOCK_LOCK_BASIC (Reg.EDGE_LEG_CTRL l).page) = false → s.dev.on (F.EDGE_LEG_CTRL_EN l) = false →
    Answers (.legCtrlWrite m l v) s fun t =>
      t.dev.on (F.EDGE_LEG_CTRL_EN l) = bitAt v.toNat 0 ∧ t.dev.rd (F.EDGE_LEG_CTRL_CAR l) = bitsOf v.toNat 8 6 ∧
      (bitAt v.toNat 0 = true → t.dev.heldState l = none ∧ (t.dev.leg l).lastq = none) ∧
      (s.dev.time.stepCmd = 0 → SameRegs s.dev t.dev [.EDGE_LEG_CTRL l, .EDGE_LEG_ESEQ l, .EDGE_LEG_CARRY l,
        .PG_ERR (Reg.EDGE_LEG_CTRL l).page])) ∧
  (∀ (m : Nat) (l : Fin 1024) (v : Word) (s : State), Accepts (dtWrite l) m (.EDGE_LEG_DT l) v.toNat s.dev →
    s.dev.on (F.PG_LOCK_LOCK_BASIC (Reg.EDGE_LEG_DT l).page) = false → s.dev.on (F.EDGE_LEG_DT_ADAPT l) = false →
    bitAt v.toNat 12 = true →
    Answers (.adaptEnable m l v) s fun t =>
      t.dev.on (F.EDGE_LEG_DT_ADAPT l) = true ∧
      t.dev.rd (F.EDGE_LEG_ADT_RISE l) = s.dev.clampDt l (bitsOf v.toNat 0 12) ∧
      t.dev.rd (F.EDGE_LEG_ADT_FALL l) = s.dev.clampDt l (bitsOf v.toNat 0 12) ∧
      (t.dev.leg l).f16R = none ∧ (t.dev.leg l).f16F = none ∧
      SameRegs s.dev t.dev [.EDGE_LEG_DT l, .EDGE_LEG_ADT l, .PG_ERR (Reg.EDGE_LEG_DT l).page]) ∧
  (∀ (m : Nat) (l : Fin 1024) (v : Word) (s : State), Accepts (dtWrite l) m (.EDGE_LEG_DT l) v.toNat s.dev →
    s.dev.on (F.EDGE_LEG_DT_ADAPT l) = true →
    Answers (.adaptEnable m l v) s fun t =>
      t.dev.word (.EDGE_LEG_DT l) = s.dev.merged m (.EDGE_LEG_DT l) v.toNat % 2 ^ 32 ∧ t.dev.edge = s.dev.edge ∧
      SameRegs s.dev t.dev [.EDGE_LEG_DT l, .PG_ERR (Reg.EDGE_LEG_DT l).page]) ∧
  (∀ (g : GenJob) (q : List GenJob) (s : State), s.dev.edge.gens = g :: q →
    (∀ j ∈ g.legs, s.dev.blockInForce (legRim j.leg) = true) →
    Answers .generate s fun t => t.dev.edge.gens = q ∧ t.dev.rims = s.dev.rims ∧
      (∀ j ∈ g.legs, t.dev.heldState j.leg = none) ∧
      ∀ r, (∀ l, r ≠ .EDGE_LEG_ESEQ l ∧ r ≠ .EDGE_LEG_CARRY l) → t.dev.regs.get r = s.dev.regs.get r) ∧
  (∀ (g : GenJob) (j : LegJob) (q : List GenJob) (s : State), s.dev.edge.gens = g :: q → g.legs = [j] →
    s.dev.blockInForce (legRim j.leg) = false → j.duty = 0 → s.dev.heldState j.leg = some true →
    (s.dev.leg j.leg).lastq = none → max g.at_ s.dev.edge.genAt + 2 < g.start → s.dev.edgesQueued (legRim j.leg) < 512 →
    Answers .generate s fun t =>
      (t.dev.rim (legRim j.leg)).qEdge = (s.dev.rim (legRim j.leg)).qEdge ++
        [.edge (posOf (legSpoke j.leg)) (j.leg % 4) 2 g.start j.dtF
          ((if (s.dev.leg j.leg).gen = s.dev.tandem.claimGen then s.dev.rd (F.EDGE_LEG_ESEQ_LAST j.leg) else 0) % 65535 + 1)
          j.leg j.ilk] ∧
      t.dev.heldState j.leg = some false ∧ t.dev.edge.gens = q ∧ t.dev.edge.genAt = max g.at_ s.dev.edge.genAt + 2 ∧
      (t.dev.leg j.leg).lastq = some (g.start, j.dtF) ∧
      SameRegs s.dev t.dev [.EDGE_LEG_ESEQ j.leg, .EDGE_LEG_CARRY j.leg, .EDGE_LEG_PSTAT j.leg, .EDGE_LOAD]) ∧
  (∀ (n : Fin 32) (s : State), s.dev.blockInForce n = true → (s.dev.rim n).blocked = false →
    Answers (.blockStart n) s fun t =>
      (t.dev.rim n).blocked = true ∧ (t.dev.rim n).pairDue = s.dev.rimOn n ∧ (t.dev.rim n).relDue = false ∧
      (t.dev.rim n).qEdge = dropEdges (s.dev.rim n).qEdge ∧ (∀ i < 32, t.dev.heldState (32 * n + i) = none) ∧
      (∀ p : Nat, p ≠ n → t.dev.rim p = s.dev.rim p) ∧
      ∀ r, (∀ l, r ≠ .EDGE_LEG_ESEQ l ∧ r ≠ .EDGE_LEG_CARRY l) → t.dev.regs.get r = s.dev.regs.get r) ∧
  (∀ (n : Fin 32) (s : State), s.dev.blockInForce n = false → (s.dev.rim n).blocked = true →
    Answers (.blockEnd n) s fun t =>
      (t.dev.rim n).blocked = false ∧ (t.dev.rim n).pairDue = false ∧ (t.dev.rim n).relDue = true ∧
      t.dev.regs = s.dev.regs) ∧
  (∀ (n : Fin 32) (s : State), s.dev.time.running = true → s.dev.rimSends n = true → s.dev.rimRuns n = true →
    s.dev.blockInForce n = false → (s.dev.rim n).relDue = true →
    Answers .rimCycle s fun t =>
      (t.dev.rim n).relDue = false ∧
      ∀ p < 8, s.dev.spokeSt (8 * n + p) = 5 → s.dev.shadow (8 * n + p) = false →
        .release p (s.dev.spoke (8 * n + p)).legs ∈ (t.dev.rim n).qCfg ∧
        ((s.dev.rim n).pairBypass = true → .bypass p 2 ∈ (t.dev.rim n).qCfg)) ∧
  (∀ (m : Nat) (s : State), Accepts (captureWrite .EDGE_LATEINFO none) m .EDGE_LATEINFO (2 ^ 31) s.dev →
    (∀ e ∈ s.dev.captures, e.1 = .EDGE_LATEINFO → e.2.1 ≠ s.dev.now) →
    Answers (.lateinfoRelease m) s fun t =>
      t.dev.rd F.EDGE_LATEINFO_VALID = 0 ∧ t.dev.rd F.EDGE_LATEINFO_LEG = s.dev.rd F.EDGE_LATEINFO_LEG ∧
      SameRegs s.dev t.dev [.EDGE_LATEINFO, .PG_ERR (Reg.EDGE_LATEINFO).page]) ∧
  (∀ (f : Firing) (i : Fin 8) (s : State), s.dev.edge.fires = [f] →
    s.dev.rd (F.EDGE_TRG_CMP_ACTION f.trg) = 0x60 + i → s.dev.domUp domMEM = true →
    Answers .triggerFire s fun t =>
      t.dev.edge.fires = [] ∧ t.dev.on (F.IR_SRC_ROUTE_PEND (109 + i)) = true ∧
      SameRegs s.dev t.dev [.IR_SRC_ROUTE (109 + i)])

/-- O29. Selects, triggers and slots (R180, R181, R188 to R191, R195): a select joins the tail of the queue, or is
refused; a flush empties it; a trigger of an idle TRIGGERED converter starts a burst, and one that finds it at work is
lost and counted; a burst and CONTINUOUS operation take the select at the front at a boundary; an injected select
waits for the next boundary, at which it goes first, or takes that of its own ADCCLK cycle; a slot ends at its
instant; a partner that does not come is no longer waited for. Where this rests on the model's choices: log entries 9,
44, 45 and 48. -/
def Obligations.ConverterQueuesAndSlots : Prop :=
  (∀ (m : Nat) (c : Fin 16) (v : Word) (s : State), Accepts (selWrite c) m (.ADC_SEL c) v.toNat s.dev →
    s.dev.basicLocked (convPage c) = false → chanOk (selChan v.toNat) = true →
    (s.dev.conv c).queue.length < 8 ∨ ((s.dev.conv c).queue.length = 8 ∧ s.dev.popDue c = true) →
    Answers (.selPush m c v) s fun t =>
      (t.dev.conv c).queue = (s.dev.conv c).queue ++ [v.toNat % 2 ^ 16 - bitsOf v.toNat 7 1 * 2 ^ 7] ∧
      t.dev.rd (F.ADC_QSTAT_COUNT c) = (s.dev.conv c).queue.length + 1 ∧
      SameRegs s.dev t.dev [.ADC_SEL c, .ADC_QSTAT c, .ADC_FSTAT c, .ADC_STAT c, .PG_ERR (convPage c)]) ∧
  (∀ (m : Nat) (c : Fin 16) (v : Word) (s : State), Accepts (selWrite c) m (.ADC_SEL c) v.toNat s.dev →
    s.dev.basicLocked (convPage c) = false →
    Answers (.selPush m c v) s fun t =>
      (8 ≤ (s.dev.conv c).queue.length → s.dev.popDue c = false →
        t.dev.bit (F.PG_ERR_BLK (convPage c)) 0 = true ∧ t.dev.adc = s.dev.adc) ∧
      (chanOk (selChan v.toNat) = false → t.dev.bit (F.PG_ERR_BLK (convPage c)) 2 = true ∧ t.dev.adc = s.dev.adc) ∧
      SameOutside s.dev t.dev [.ADC 0]) ∧
  (∀ (m : Nat) (c : Fin 16) (v : Word) (s : State), (Instr.queueFlush m c v).wf = true →
    Accepts (adcCtrlWrite c) m (.ADC_CTRL c) v.toNat s.dev →
    Answers (.queueFlush m c v) s fun t =>
      (t.dev.conv c).queue = [] ∧ (t.dev.conv c).fifo = (s.dev.conv c).fifo ∧
        (t.dev.conv c).slot = (s.dev.conv c).slot ∧
      (bitAt v.toNat 9 = false → SameRegs s.dev t.dev
        [.ADC_CTRL c, .ADC_SEL c, .ADC_QSTAT c, .ADC_FSTAT c, .ADC_STAT c, .PG_ERR (convPage c)])) ∧
  (∀ (c : Fin 16) (s : State), s.dev.adcMode c = 1 → s.dev.convRuns c = true → (s.dev.conv c).handed = false →
    (s.dev.conv c).slot = none → (s.dev.conv c).wait = none → (s.dev.conv c).burst = 0 →
    (s.dev.conv c).trigAt ≠ some s.dev.now →
    Answers (.adcTrigger c) s fun t =>
      (t.dev.conv c).mode = 1 ∧ (t.dev.conv c).trigAt = some s.dev.now ∧ (t.dev.conv c).queue = (s.dev.conv c).queue ∧
      (t.dev.conv c).burst = (if s.dev.rd (F.ADC_CTRL_BURST c) = 0 then 8 else s.dev.rd (F.ADC_CTRL_BURST c)) ∧
      SameRegs s.dev t.dev [.ADC_SEL c, .ADC_QSTAT c, .ADC_FSTAT c, .ADC_STAT c]) ∧
  (∀ (c : Fin 16) (s : State), s.dev.convRuns c = true →
    (s.dev.conv c).slot.isSome = true ∨ (s.dev.conv c).wait.isSome = true ∨ 0 < (s.dev.conv c).burst →
    (if (s.dev.conv c).slot.isNone && !(s.dev.conv c).handed then s.dev.adcMode c else (s.dev.conv c).mode) = 1 →
    (s.dev.conv c).trigAt ≠ some s.dev.now →
    Answers (.adcTrigger c) s fun t =>
      t.dev.rd (F.ADC_STAT_TRGOVR c) = satAdd (s.dev.rd (F.ADC_STAT_TRGOVR c)) 1 255 ∧
      t.dev.on (F.ADC_EVT_TRG_OVR c) = true ∧ (t.dev.conv c).slot = (s.dev.conv c).slot ∧
      (t.dev.conv c).burst = (s.dev.conv c).burst ∧ SameOutside s.dev t.dev [.ADC 0, .IR 0]) ∧
  (∀ (c : Fin 16) (s : State), (s.dev.conv c).trigAt = some s.dev.now ∨
    ((s.dev.conv c).slot = none ∧ (s.dev.conv c).handed = false ∧ s.dev.adcMode c ≠ 1) →
    Answers (.adcTrigger c) s fun t => t = s) ∧
  (∀ (m : Nat) (c : Fin 16) (v : Word) (s : State), (Instr.adcSwtrig m c v).wf = true →
    Accepts (adcCtrlWrite c) m (.ADC_CTRL c) v.toNat s.dev → s.dev.basicLocked (convPage c) = false →
    bitsOf v.toNat 0 2 = 1 → s.dev.convRuns c = true → (s.dev.conv c).handed = false → (s.dev.conv c).slot = none →
    (s.dev.conv c).wait = none → (s.dev.conv c).burst = 0 → (s.dev.conv c).trigAt ≠ some s.dev.now →
    Answers (.adcSwtrig m c v) s fun t =>
      (t.dev.conv c).mode = 1 ∧ (t.dev.conv c).slot = none ∧
      (t.dev.conv c).burst = (if t.dev.rd (F.ADC_CTRL_BURST c) = 0 then 8 else t.dev.rd (F.ADC_CTRL_BURST c)) ∧
      SameRegs s.dev t.dev [.ADC_CTRL c, .ADC_SEL c, .ADC_QSTAT c, .ADC_FSTAT c, .ADC_STAT c, .PG_ERR (convPage c)]) ∧
  (∀ (c : Fin 16) (sl : AdcSlot) (s : State), s.dev.convRuns c = true → (s.dev.conv c).cal = none →
    (s.dev.conv (partner c)).handed = false → (s.dev.conv c).slot = some sl → (s.dev.conv c).wait = none →
    (s.dev.conv c).inj = none → (s.dev.conv c).calReq = false → s.dev.rd (F.ADC_CTRL_MODE c) = 0 →
    Answers (.conversionBoundary c) s fun t =>
      (t.dev.conv c).slot = none ∧ (t.dev.conv c).done = (s.dev.conv c).done ++ [sl] ∧ (t.dev.conv c).idle = true ∧
      (t.dev.conv c).burst = 0 ∧ t.dev.now = max s.dev.now sl.endAt ∧ SameOutside s.dev t.dev [.ADC 0]) ∧
  (∀ (c : Fin 16) (i : Nat) (s : State), s.dev.convRuns c = true → (s.dev.conv c).cal = none →
    (s.dev.conv c).inj = some i →
    Answers (.conversionBoundary c) s fun t =>
      (∃ sl, (t.dev.conv c).slot = some sl ∧ sl.sel = i ∧ sl.inj = true ∧ sl.owner = c) ∧ (t.dev.conv c).inj = none ∧
      (t.dev.conv c).queue = (s.dev.conv c).queue ∧ SameOutside s.dev t.dev [.ADC 0]) ∧
  (∀ (c : Fin 16) (x : Nat) (q : List Nat) (s : State), s.dev.convRuns c = true → (s.dev.conv c).cal = none →
    (s.dev.conv (partner c)).handed = false → (s.dev.conv c).wait = none → (s.dev.conv c).inj = none →
    (s.dev.conv c).calReq = false → s.dev.adcMode c = 2 ∨ (s.dev.adcMode c = 1 ∧ 0 < (s.dev.conv c).burst) →
    (s.dev.conv c).queue = x :: q → selPaired x = false →
    Answers (.conversionBoundary c) s fun t =>
      (t.dev.adcCycleEnd (s.dev.conv c).pushAt ≠ t.dev.adcCycleEnd t.dev.now →
        (∃ sl, (t.dev.conv c).slot = some sl ∧ sl.sel = x ∧ sl.owner = c ∧ sl.inj = false ∧ sl.qempty = false) ∧
        (t.dev.conv c).queue = (if s.dev.on (F.ADC_CTRL_RING c) then q ++ [x] else q) ∧
        (s.dev.adcMode c = 1 → (t.dev.conv c).burst = (s.dev.conv c).burst - 1)) ∧
      SameOutside s.dev t.dev [.ADC 0, .IR 0]) ∧
  (∀ (m : Nat) (c : Fin 16) (v : Word) (s : State), Accepts (injWrite c) m (.ADC_INJ c) v.toNat s.dev →
    s.dev.basicLocked (convPage c) = false → chanOk (selChan v.toNat) = true → s.dev.on (F.ADC_INJ_PEND c) = false →
    (∀ e, s.dev.adc.undo.find? (fun e => e.1 == s.dev.carrier c) = some e →
      (s.dev.conv (s.dev.carrier c)).slot ≠ some e.2.slot ∨ e.2.till ≤ 1000 * s.dev.now) →
    Answers (.injRequest m c v) s fun t =>
      t.dev.on (F.ADC_INJ_PEND c) = true ∧ (t.dev.conv c).inj = some (v.toNat % 2 ^ 14) ∧
      t.dev.bit (F.ADC_INJRES_VAL c) 27 = false ∧
      ((s.dev.conv c).calReq = true → t.dev.on (F.ADC_CAL_CAL_PEND c) = true) ∧
      SameRegs s.dev t.dev [.ADC_INJ c, .ADC_INJRES c, .ADC_CAL c, .ADC_SEL c, .ADC_QSTAT c, .ADC_FSTAT c, .ADC_STAT c,
        .PG_ERR (convPage c)]) ∧
  (∀ (m : Nat) (c : Fin 16) (v : Word) (e : Nat × AdcUndo) (s : State),
    Accepts (injWrite c) m (.ADC_INJ c) v.toNat s.dev → s.dev.basicLocked (convPage c) = false →
    chanOk (selChan v.toNat) = true → s.dev.on (F.ADC_INJ_PEND c) = false →
    s.dev.adc.undo.find? (fun e => e.1 == s.dev.carrier c) = some e →
    (s.dev.conv (s.dev.carrier c)).slot = some e.2.slot → 1000 * s.dev.now < e.2.till →
    Answers (.injRequest m c v) s fun t =>
      t.dev.on (F.ADC_INJ_PEND c) = true ∧ (t.dev.conv c).inj = none ∧
      (∃ sl, (t.dev.conv (s.dev.carrier c)).slot = some sl ∧ sl.sel = v.toNat % 2 ^ 14 ∧ sl.inj = true ∧ sl.owner = c) ∧
      SameOutside s.dev t.dev [.ADC 0]) ∧
  (∀ (m : Nat) (c : Fin 16) (v : Word) (s : State), Accepts (injWrite c) m (.ADC_INJ c) v.toNat s.dev →
    s.dev.basicLocked (convPage c) = false →
    s.dev.on (F.ADC_INJ_PEND c) = true ∨ chanOk (selChan v.toNat) = false →
    Answers (.injRequest m c v) s fun t =>
      (s.dev.on (F.ADC_INJ_PEND c) = true → t.dev.bit (F.PG_ERR_BLK (convPage c)) 1 = true) ∧
      (chanOk (selChan v.toNat) = false → t.dev.bit (F.PG_ERR_BLK (convPage c)) 2 = true) ∧ t.dev.adc = s.dev.adc ∧
      SameRegs s.dev t.dev [.PG_ERR (convPage c)]) ∧
  (∀ (c : Fin 16) (w : AdcWait) (s : State), (s.dev.conv c).wait = some w → (s.dev.conv c).slot = none →
    s.dev.convRuns c = true →
    Answers (.pairTimeout c) s fun t =>
      (t.dev.conv c).wait = none ∧ t.dev.on (F.ADC_PEVT_PAIR_TIMEOUT (pairOf c)) = true ∧ t.dev.scored 41 ∧
      (∃ sl, (t.dev.conv c).slot = some sl ∧ sl.sel = w.sel ∧ sl.plaus = true) ∧
      t.dev.now = max s.dev.now (w.since + s.dev.adcNs 64) ∧ SameOutside s.dev t.dev [.ADC 0, .IR 0, .FC, .PWR, .SAFE])

/-- O30. Results (R184, R186, R192 to R194, R196, R198, R202): a result word names its converter and channel and
carries the data of the voltage; it goes into the FIFO, with its time stamp where TS is 1, and into the channel's
table; a DIAG result is judged instead; the first of a pair waits for the other, and words too far apart fail; an
injected result ends PEND; after an over-range result the next one with a short acquisition is undefined; a read of
`ADCc.RES` pops the oldest word. Where this rests on the model's choices: log entries 46, 47, 48 and 49. -/
def Obligations.ConverterResults : Prop :=
  (∀ (c : Fin 16) (v : Int) (vref : Nat) (sl : AdcSlot) (q : List AdcSlot) (s : State),
    (s.dev.conv c).done = sl :: q → sl.inj = false → sl.paired = false → s.dev.convRuns c = true →
    selDiag sl.sel = false → (s.dev.conv sl.owner).fifo.length ≤ 30 →
    Answers (.resultWrite c v vref) s fun t => ∃ w,
      (t.dev.conv sl.owner).fifo = (s.dev.conv sl.owner).fifo ++ (if sl.ts then [w, sl.stamp] else [w]) ∧
      bitsOf w 28 4 = c ∧ bitsOf w 20 7 = selChan sl.sel ∧ bitAt w 27 = true ∧
      (sl.undef = false → s.dev.on F.ADC_REF_SRC = false → selChan sl.sel < 0x48 →
        (∀ g, chanGroup (selChan sl.sel) = some g → s.dev.bit F.ADC_GRPINJ_ACTIVE g = false) →
        bitsOf w 0 16 = (dataOf (chanSigned (selChan sl.sel)) sl.res sl.align v 2500000000).2) ∧
      (¬ (sl.owner % 2 = 1 ∧ mget 0 s.dev.adc.wroteAt (selChan sl.sel) = t.dev.now ∧
          mget sl.owner s.dev.adc.wroteBy (selChan sl.sel) = partner sl.owner) →
        t.dev.rd (F.ADC_CHRES_VAL (selChan sl.sel)) = w ∧
        t.dev.rd (F.ADC_CHTS_VAL (selChan sl.sel)) = sl.stamp % 2 ^ 32) ∧
      (bitAt w 16 = false → (t.dev.conv c).done = q) ∧
      (∀ n q', bitAt w 16 = true → q = n :: q' →
        (t.dev.conv c).done = { n with undef := n.undef || decide (n.acq < 100000) } :: q') ∧
      t.dev.now = max s.dev.now (sl.endAt + s.dev.adcNs 4) ∧ SameOutside s.dev t.dev [.ADC 0, .IR 0, .FC, .PWR,
        .SAFE]) ∧
  (∀ (c : Fin 16) (v : Int) (vref : Nat) (sl : AdcSlot) (q : List AdcSlot) (s : State),
    (s.dev.conv c).done = sl :: q → sl.inj = false → sl.paired = false → s.dev.convRuns c = true →
    selDiag sl.sel = true → s.dev.on (F.ADC_DIAG_CFG_MODE (pairOf c)) = false →
    Answers (.resultWrite c v vref) s fun t =>
      let y := leftForm (resultWord c sl v vref (s.dev.jumpTo (sl.endAt + s.dev.adcNs 4))).1 (sl.res + b2n sl.align * 4)
      let good : Prop := s.dev.rdInt (F.ADC_DIAG_LO_LIMIT (pairOf c)) ≤ y ∧
        y ≤ s.dev.rdInt (F.ADC_DIAG_HI_LIMIT (pairOf c))
      (good → t.dev.on (F.ADC_PEVT_DIAG_PASS (pairOf c)) = true) ∧
      (¬ good → t.dev.on (F.ADC_PEVT_DIAG_FAIL (pairOf c)) = true ∧ t.dev.scored 42) ∧
      t.dev.rd (F.ADC_CHRES_VAL (selChan sl.sel)) = s.dev.rd (F.ADC_CHRES_VAL (selChan sl.sel)) ∧
      SameOutside s.dev t.dev [.ADC 0, .IR 0, .FC, .PWR, .SAFE]) ∧
  (∀ (c : Fin 16) (v : Int) (vref : Nat) (sl : AdcSlot) (q : List AdcSlot) (s : State),
    (s.dev.conv c).done = sl :: q → sl.inj = false → sl.paired = true → s.dev.convRuns c = true →
    (∀ k, s.dev.pairMate c = some k → k.word = none) →
    Answers (.resultWrite c v vref) s fun t =>
      (∃ w, (t.dev.conv c).done = { sl with word := some w } :: q) ∧
      SameRegs s.dev t.dev [.ADC_SEL c, .ADC_QSTAT c, .ADC_FSTAT c, .ADC_STAT c]) ∧
  (∀ (c : Fin 16) (v : Int) (vref wm : Nat) (sl k : AdcSlot) (q : List AdcSlot) (s : State),
    (s.dev.conv c).done = sl :: q → sl.inj = false → sl.paired = true → s.dev.convRuns c = true →
    s.dev.pairMate c = some k → k.word = some wm → s.dev.on (F.ADC_PAIR_TOL_EN (pairOf c)) = true →
    (let w := (resultWord c sl v vref (s.dev.jumpTo (sl.endAt + s.dev.adcNs 4))).1
     s.dev.rd (F.ADC_PAIR_TOL_TOL (pairOf c)) <
       (leftForm w (sl.res + b2n sl.align * 4) - leftForm wm (k.res + b2n k.align * 4)).natAbs) →
    Answers (.resultWrite c v vref) s fun t =>
      t.dev.on (F.ADC_PEVT_PLAUS_FAIL (pairOf c)) = true ∧ t.dev.scored 41 ∧
      SameOutside s.dev t.dev [.ADC 0, .IR 0, .FC, .PWR, .SAFE]) ∧
  (∀ (c : Fin 16) (v : Int) (vref : Nat) (sl : AdcSlot) (q : List AdcSlot) (s : State),
    (s.dev.conv c).done = sl :: q → sl.inj = true → s.dev.convRuns c = true →
    Answers (.injResult c v vref) s fun t =>
      t.dev.on (F.ADC_INJ_PEND sl.owner) = false ∧ t.dev.on (F.ADC_EVT_INJ_DONE sl.owner) = true ∧
      t.dev.rd (F.ADC_INJTS_VAL sl.owner) = sl.stamp % 2 ^ 32 ∧
      bitsOf (t.dev.rd (F.ADC_INJRES_VAL sl.owner)) 20 7 = selChan sl.sel ∧
      bitsOf (t.dev.rd (F.ADC_INJRES_VAL sl.owner)) 28 4 = c ∧
      (bitAt (t.dev.rd (F.ADC_INJRES_VAL sl.owner)) 16 = false → (t.dev.conv c).done = q) ∧
      t.dev.now = max s.dev.now (sl.endAt + s.dev.adcNs 4) ∧ SameOutside s.dev t.dev [.ADC 0, .IR 0, .FC, .PWR,
        .SAFE]) ∧
  (∀ (m : Nat) (c : Fin 16) (w : Nat) (q : List Nat) (s : State), Reads m (.ADC_RES c) s.dev →
    (s.dev.conv c).fifo = w :: q →
    Answers (.fifoPop m c) s fun t =>
      t.dev.resp.data = w ∧ (t.dev.conv c).fifo = q ∧
      SameRegs s.dev t.dev [.ADC_SEL c, .ADC_QSTAT c, .ADC_FSTAT c, .ADC_STAT c]) ∧
  (∀ (m : Nat) (c : Fin 16) (s : State), Reads m (.ADC_RES c) s.dev → (s.dev.conv c).fifo = [] →
    Answers (.fifoPop m c) s fun t => t.dev.resp.data = 0 ∧ (t.dev.conv c).fifo = [] ∧
      SameRegs s.dev t.dev [.ADC_SEL c, .ADC_QSTAT c, .ADC_FSTAT c, .ADC_STAT c])

/-- O31. Reference, check DACs, diagnosis, detectors and calibration (R183, R197, R198, R200, R201, R203): a change of
SRC settles anew, and is refused while a converter works; a DAC goes to a pin that no other holds; a write of DIAG_CFG
clears the DELTA reference; a detector marks its group; a calibration is asked for or refused, begins at a boundary
with its partner carrying, and ends with its trims. Where this rests on the model's choices: log entries 9, 45, 50 and
113. -/
def Obligations.ConverterReferenceAndCalibration : Prop :=
  (∀ (m : Nat) (v : Word) (s : State), Accepts refWrite m .ADC_REF v.toNat s.dev →
    s.dev.on (F.PG_LOCK_LOCK_BASIC (.ADC 0)) = false → bitsOf v.toNat 0 1 ≠ s.dev.rd F.ADC_REF_SRC →
    (∀ c < 16, s.dev.on (F.ADC_CTRL_MODE c) = false ∧ s.dev.on (F.ADC_INJ_PEND c) = false ∧ (s.dev.conv c).cal = none) →
    Answers (.refSrcWrite m v) s fun t =>
      t.dev.rd F.ADC_REF_SRC = bitsOf v.toNat 0 1 ∧ t.dev.on (F.PG_STAT_READY (.ADC 0)) = false ∧
      t.dev.adc.settling = true ∧ t.dev.adc.setAt = s.dev.now ∧
      SameRegs s.dev t.dev [.ADC_REF, .PG_STAT (.ADC 0), .PG_ERR (.ADC 0)]) ∧
  (∀ (m : Nat) (v : Word) (c : Nat) (s : State), Accepts refWrite m .ADC_REF v.toNat s.dev →
    s.dev.on (F.PG_LOCK_LOCK_BASIC (.ADC 0)) = false → bitsOf v.toNat 0 1 ≠ s.dev.rd F.ADC_REF_SRC → c < 16 →
    (s.dev.on (F.ADC_CTRL_MODE c) = true ∨ s.dev.on (F.ADC_INJ_PEND c) = true ∨ (s.dev.conv c).cal ≠ none) →
    Answers (.refSrcWrite m v) s fun t =>
      t.dev.bit (F.PG_ERR_BLK (.ADC 0)) 0 = true ∧ t.dev.rd F.ADC_REF_SRC = s.dev.rd F.ADC_REF_SRC ∧
      SameRegs s.dev t.dev [.PG_ERR (.ADC 0)]) ∧
  (∀ (m : Nat) (v : Word) (s : State), Accepts refWrite m .ADC_REF v.toNat s.dev →
    s.dev.on (F.PG_LOCK_LOCK_BASIC (.ADC 0)) = false → bitsOf v.toNat 0 1 = s.dev.rd F.ADC_REF_SRC →
    Answers (.refSrcWrite m v) s fun t => t.dev.adc = s.dev.adc ∧ SameRegs s.dev t.dev [.PG_ERR (.ADC 0)]) ∧
  (∀ (s : State), s.dev.adc.settling = true → s.dev.enabled (.ADC 0) = true → s.dev.on F.PWR_VMON_VDDA_LOW = false →
    Answers .refSettled s fun t =>
      t.dev.on (F.PG_STAT_READY (.ADC 0)) = true ∧ t.dev.adc.settling = false ∧
      t.dev.now = max s.dev.now (s.dev.adc.setAt + 300000) ∧ SameRegs s.dev t.dev [.PG_STAT (.ADC 0)]) ∧
  (∀ (m : Nat) (p : Fin 8) (v : Word) (s : State), Accepts (dacWrite p) m (.ADC_DAC p) v.toNat s.dev →
    let w := s.dev.merged m (.ADC_DAC p) v.toNat
    (bitsOf w 12 2 < 2 ∨ s.dev.pinTaken p (bitsOf w 16 6) = false) →
    Answers (.dacWrite m p v) s fun t =>
      t.dev.word (.ADC_DAC p) = w % 2 ^ 32 ∧ SameRegs s.dev t.dev [.ADC_DAC p, .PG_ERR (pairPage p)]) ∧
  (∀ (m : Nat) (p : Fin 8) (v : Word) (s : State), Accepts (dacWrite p) m (.ADC_DAC p) v.toNat s.dev →
    let w := s.dev.merged m (.ADC_DAC p) v.toNat
    2 ≤ bitsOf w 12 2 → s.dev.pinTaken p (bitsOf w 16 6) = true →
    Answers (.dacWrite m p v) s fun t =>
      t.dev.bit (F.PG_ERR_BLK (pairPage p)) 0 = true ∧ SameRegs s.dev t.dev [.PG_ERR (pairPage p)]) ∧
  (∀ (m : Nat) (p : Fin 8) (v : Word) (s : State), Accepts (diagCfgWrite p) m (.ADC_DIAG_CFG p) v.toNat s.dev →
    s.dev.on (F.PG_LOCK_LOCK_BASIC (pairPage p)) = false →
    Answers (.diagCfgWrite m p v) s fun t =>
      t.dev.on (F.ADC_DIAG_CFG_MODE p) = bitAt v.toNat 0 ∧ mhas t.dev.adc.ref p = false ∧
      SameRegs s.dev t.dev [.ADC_DIAG_CFG p, .PG_ERR (pairPage p)]) ∧
  (∀ (g : Fin 6) (s : State), s.dev.bit F.ADC_GRPINJ_ACTIVE g = false → s.dev.domUp domANALOG = true →
    Answers (.injectionDetector g true) s fun t =>
      t.dev.bit F.ADC_GRPINJ_ACTIVE g = true ∧ t.dev.bit F.ADC_GRPINJ_SEEN g = true ∧
      SameRegs s.dev t.dev [.ADC_GRPINJ]) ∧
  (∀ (g : Fin 6) (s : State), s.dev.bit F.ADC_GRPINJ_ACTIVE g = true → s.dev.domUp domANALOG = true →
    Answers (.injectionDetector g false) s fun t =>
      t.dev.bit F.ADC_GRPINJ_ACTIVE g = false ∧ (∀ c < 16, mget 0 (t.dev.conv c).recov g = 2) ∧
        SameOutside s.dev t.dev [.ADC 0]) ∧
  (∀ (g : Fin 6) (a : Bool) (s : State), s.dev.bit F.ADC_GRPINJ_ACTIVE g = a →
    Answers (.injectionDetector g a) s fun t => t = s) ∧
  (∀ (m : Nat) (c : Fin 16) (v : Word) (s : State), (Instr.calStart m c v).wf = true →
    Accepts (calWrite c) m (.ADC_CAL c) v.toNat s.dev → (s.dev.conv c).calReq = false → (s.dev.conv c).cal = none →
    s.dev.enabled (convPage c) = true → s.dev.enabled (convPage (partner c)) = true →
    (s.dev.conv (partner c)).cal = none →
    Answers (.calStart m c v) s fun t =>
      t.dev.on (F.ADC_CAL_START c) = true ∧ (t.dev.conv c).calReq = true ∧
      t.dev.on (F.ADC_CAL_CAL_PEND c) = s.dev.on (F.ADC_INJ_PEND c) ∧
      SameRegs s.dev t.dev [.ADC_CAL c, .ADC_SEL c, .ADC_QSTAT c, .ADC_FSTAT c, .ADC_STAT c, .PG_ERR (convPage c)]) ∧
  (∀ (m : Nat) (c : Fin 16) (v : Word) (s : State), (Instr.calStart m c v).wf = true →
    Accepts (calWrite c) m (.ADC_CAL c) v.toNat s.dev → (s.dev.conv c).calReq = false → (s.dev.conv c).cal = none →
    ((s.dev.conv (partner c)).cal ≠ none ∨ s.dev.enabled (convPage (partner c)) = false ∨
      s.dev.enabled (convPage c) = false) →
    Answers (.calStart m c v) s fun t =>
      t.dev.bit (F.PG_ERR_BLK (convPage c)) 3 = true ∧ t.dev.adc = s.dev.adc ∧
      SameRegs s.dev t.dev [.PG_ERR (convPage c)]) ∧
  (∀ (c : Fin 16) (s : State), (s.dev.conv c).calReq = true → (s.dev.conv c).cal = none → s.dev.convRuns c = true →
    (s.dev.conv c).wait = none → (s.dev.conv c).inj = none →
    Answers (.calBegin c) s fun t =>
      (t.dev.conv c).cal = some t.dev.now ∧ (t.dev.conv c).calReq = false ∧ t.dev.on (F.ADC_CAL_BUSY c) = true ∧
      t.dev.on (F.ADC_STAT_CARRIED c) = true ∧ t.dev.on (F.ADC_STAT_CARRYING (partner c)) = true ∧
      t.dev.now = max s.dev.now (match (s.dev.conv c).slot with
        | none => s.dev.adcEdge s.dev.now
        | some k => k.endAt) ∧ SameOutside s.dev t.dev [.ADC 0]) ∧
  (∀ (c : Fin 16) (ok : Bool) (gain offset : BitVec 16) (x : Nat) (s : State), (s.dev.conv c).cal = some x →
    Answers (.calDone c ok gain offset) s fun t =>
      (t.dev.conv c).cal = none ∧ (t.dev.conv c).handed = false ∧ t.dev.on (F.ADC_CAL_BUSY c) = false ∧
      t.dev.rd (F.PG_PROG_POSITION (convPage c)) = 2048 ∧ t.dev.rd (F.PG_PROG_PERCENT (convPage c)) = 100 ∧
      t.dev.rd (F.ADC_CAL_STATUS c) = (if ok then 1 else 2) ∧
      t.dev.on (F.ADC_EVT_CAL_DONE c) = true ∧ (ok = false → t.dev.scored 42) ∧
      (ok = true → t.dev.rd (F.ADC_CALVAL_GAIN c) = gain.toNat ∧ t.dev.rd (F.ADC_CALVAL_OFFSET c) = offset.toNat) ∧
      t.dev.now = max s.dev.now (x + s.dev.adcNs 40960) ∧ SameOutside s.dev t.dev [.ADC 0, .IR 0, .FC, .PWR, .SAFE])

/-- O32. Starts and ends of runs (R222, R223, R228, R229, R231): a start begins a run at PSTART with its deadline and
takes the swaps that are due; several of one tick are one; one that finds a run in progress ends it with OVERRUN; END
without a cascade under way ends a run in time; the deadline ends it with MISS and, where MISS_SRC says so, latches
source 44. Where this rests on the model's choices: log entries 9, 52 and 54. -/
def Obligations.LoopRuns : Prop :=
  (∀ (e : Fin 8) (s : State), (s.dev.eng e).startDue = true → s.dev.takesStart e = true → (s.dev.eng e).run = none →
    (s.dev.eng e).prevStart ≠ some s.dev.now →
    Answers (.loopStart e) s fun t =>
      (∃ r, (t.dev.eng e).run = some r ∧ r.start = s.dev.now ∧ r.pc = s.dev.rd (F.LOOP_CTRL_PSTART e) ∧
        r.deadline = s.dev.now + clampTo 100 200000 (s.dev.rd (F.LOOP_DEADLINE_DL e)) ∧ r.flights = [] ∧
          r.ended = false) ∧
      (t.dev.eng e).startDue = false ∧ t.dev.on (F.LOOP_STAT_RUNNING e) = true ∧
      t.dev.rd (F.LOOP_CNT_RUNS e) = (s.dev.rd (F.LOOP_CNT_RUNS e) + 1) % 2 ^ 16 ∧
      (∀ g < 16, s.dev.bit F.LOOP_SWAP_REQ g = true → s.dev.rd (F.LOOP_GRP_CFG_ENG g) = e →
        mget 0 s.dev.loop.reqAt g < s.dev.now →
        t.dev.bit F.LOOP_SWAP_REQ g = s.dev.againOne .LOOP_SWAP (F.LOOP_SWAP_REQ.lo + g) ∧
          t.dev.bit F.LOOP_SWAP_BANK g = !s.dev.bit F.LOOP_SWAP_BANK g) ∧
      SameOutside s.dev t.dev [.LOOP 0, .TANDEM 0, .IR 0, .FC, .PWR, .SAFE] ∧ t.mem = s.mem) ∧
  (∀ (e : Fin 8) (s : State), (s.dev.eng e).startDue = true →
    s.dev.takesStart e = false ∨ (s.dev.eng e).prevStart = some s.dev.now →
    Answers (.loopStart e) s fun t =>
      (t.dev.eng e).startDue = false ∧ (t.dev.eng e).run = (s.dev.eng e).run ∧
      SameRegs s.dev t.dev [.LOOP_STAT e] ∧ t.mem = s.mem) ∧
  (∀ (e : Fin 8) (r : LoopRun) (s : State), (s.dev.eng e).startDue = true → s.dev.takesStart e = true →
    (s.dev.eng e).run = some r → (s.dev.eng e).prevStart ≠ some s.dev.now →
    Answers (.loopStart e) s fun t =>
      (∃ r', (t.dev.eng e).run = some r' ∧ r'.start = s.dev.now ∧ r'.flights = []) ∧
      t.dev.on (F.LOOP_STAT_OVERRUN e) = true ∧ t.dev.on (F.LOOP_EVT_OVERRUN e) = true ∧
      t.dev.rd (F.LOOP_CNT_MISSES e) = satAdd (s.dev.rd (F.LOOP_CNT_MISSES e)) 1 65535 ∧
      SameOutside s.dev t.dev [.LOOP 0, .TANDEM 0, .IR 0, .FC, .PWR, .SAFE] ∧ t.mem = s.mem) ∧
  (∀ (m : Nat) (e : Fin 8) (v : Word) (s : State), (Instr.loopSwstart m e v).wf = true →
    Accepts (loopCtrlWrite s.mem e) m (.LOOP_CTRL e) v.toNat s.dev →
    s.dev.on (F.PG_LOCK_LOCK_BASIC (.LOOP e)) = false → bitAt v.toNat 0 = true → s.dev.loopClocked e = true →
    s.dev.loopsHeld = false → (s.dev.eng e).prevStart ≠ some s.dev.now →
    Answers (.loopSwstart m e v) s fun t =>
      (∃ r, (t.dev.eng e).run = some r ∧ r.start = s.dev.now ∧ r.pc = bitsOf v.toNat 16 9 ∧ r.flights = []) ∧
      t.dev.on (F.LOOP_STAT_RUNNING e) = true ∧
      SameOutside s.dev t.dev [.LOOP 0, .TANDEM 0, .IR 0, .FC, .PWR, .SAFE] ∧ t.mem = s.mem) ∧
  (∀ (e : Fin 8) (r : LoopRun) (arg : Nat) (s : State), (s.dev.eng e).run = some r → r.ended = false → r.flights = [] →
    s.dev.loopClocked e = true → s.dev.memory.bad = [] → s.dev.entry s.mem e r.pc = (0, arg) →
    let x := s.dev.cycleAt r.start (max (s.dev.cycleOf r.start s.dev.now) r.nextAdmit)
    x < r.deadline →
    Answers (.cascadeAdmit e []) s fun t =>
      (t.dev.eng e).run = none ∧ t.dev.on (F.LOOP_EVT_END e) = true ∧ t.dev.on (F.LOOP_STAT_RUNNING e) = false ∧
      t.dev.now = max s.dev.now x ∧ SameOutside s.dev t.dev [.LOOP 0, .IR 0] ∧ t.mem = s.mem) ∧
  (∀ (e : Fin 8) (r : LoopRun) (s : State), (s.dev.eng e).run = some r →
    Answers (.loopDeadline e) s fun t =>
      (t.dev.eng e).run = none ∧ t.dev.on (F.LOOP_STAT_MISS e) = true ∧ t.dev.on (F.LOOP_EVT_MISS e) = true ∧
      t.dev.rd (F.LOOP_CNT_MISSES e) = satAdd (s.dev.rd (F.LOOP_CNT_MISSES e)) 1 65535 ∧
      t.dev.rd (F.LOOP_MISSINFO_ABANDONED e) = r.flights.length % 2 ^ 16 ∧
      (s.dev.on (F.LOOP_XCFG_MISS_SRC e) = true → t.dev.scored 44) ∧ t.dev.now = max s.dev.now r.deadline ∧
      SameOutside s.dev t.dev [.LOOP 0, .IR 0, .FC, .PWR, .SAFE] ∧ t.mem = s.mem)

/-- O33. Cascades (R208, R212, R214, R216, R217, R220, R223, R226, R301): a CASCADE entry admits its cascade; an
undefined operation is reported and ends the program, as does an entry with an uncorrectable error; a wait whose
condition is true is passed; the ready cascade that was admitted first issues its next section; a completion commits
the states of its sections to memory, and nothing else there; its output launched and lands. An admission and an issue
take a whole cycle of LOOPCLK, counted from the start. Where this rests on the model's choices: log entries 8, 53, 56,
58 and 59. -/
def Obligations.LoopCascades : Prop :=
  (∀ (e : Fin 8) (r : LoopRun) (arg : Nat) (s : State), (s.dev.eng e).run = some r → r.ended = false →
    r.window.length < 8 → s.dev.loopClocked e = true → s.dev.memory.bad = [] →
    let c := max (s.dev.cycleOf r.start s.dev.now) r.nextAdmit
    s.dev.cycleAt r.start c < r.deadline →
    s.dev.entry s.mem e r.pc = (1, arg) → s.dev.cascOk s.mem (arg % 1024) = true →
    Answers (.cascadeAdmit e []) s fun t =>
      (∃ r', (t.dev.eng e).run = some r' ∧ r'.pc = r.pc + 1 ∧ ∃ f, r'.flights = r.flights ++ [f] ∧ f.casc = arg % 1024 ∧
        f.admitAt = c ∧ r'.nextAdmit = c + 1 ∧ f.issued = 0 ∧
          f.first = bitsOf (readWord s.dev s.mem (cascAddr (arg % 1024))) 0 12 ∧
        f.count = bitsOf (readWord s.dev s.mem (cascAddr (arg % 1024))) 16 5) ∧
      t.dev.now = max s.dev.now (s.dev.cycleAt r.start c) ∧ t.mem = s.mem ∧ SameRegs s.dev t.dev [.LOOP_STAT e]) ∧
  (∀ (e : Fin 8) (r : LoopRun) (arg : Nat) (s : State), (s.dev.eng e).run = some r → r.ended = false →
    r.window.length < 8 → s.dev.loopClocked e = true → s.dev.memory.bad = [] →
    let c := max (s.dev.cycleOf r.start s.dev.now) r.nextAdmit
    s.dev.cycleAt r.start c < r.deadline →
    s.dev.entry s.mem e r.pc = (1, arg) → s.dev.cascOk s.mem (arg % 1024) = false →
    Answers (.cascadeAdmit e []) s fun t =>
      (∃ r', (t.dev.eng e).run = some r' ∧ r'.flights = r.flights ∧ r'.pc = r.pc + 1) ∧
      t.dev.bit (F.PG_ERR_BLK (.LOOP e)) 1 = true ∧ SameRegs s.dev t.dev [.LOOP_STAT e, .PG_ERR (.LOOP e)] ∧
      t.mem = s.mem) ∧
  (∀ (e : Fin 8) (r : LoopRun) (op arg : Nat) (s : State), (s.dev.eng e).run = some r → r.ended = false →
    r.window.length < 8 → s.dev.loopClocked e = true → s.dev.memory.bad = [] →
    let c := max (s.dev.cycleOf r.start s.dev.now) r.nextAdmit
    s.dev.cycleAt r.start c < r.deadline →
    s.dev.entry s.mem e r.pc = (op, arg) → 7 ≤ op →
    Answers (.cascadeAdmit e []) s fun t =>
      t.dev.bit (F.PG_ERR_BLK (.LOOP e)) 0 = true ∧ SameOutside s.dev t.dev [.LOOP 0, .IR 0] ∧ t.mem = s.mem) ∧
  (∀ (e : Fin 8) (r : LoopRun) (op arg : Nat) (s : State), (s.dev.eng e).run = some r → r.ended = false →
    r.window.length < 8 → s.dev.loopClocked e = true → s.dev.entry s.mem e r.pc = (op, arg) → 2 ≤ op → op ≤ 5 →
    let c := max (max (s.dev.cycleOf r.start s.dev.now) r.nextAdmit) (if op = 4 then arg % 2 ^ 18 else 0)
    let x := s.dev.cycleAt r.start c
    x < r.deadline → (s.dev.jumpTo x).waitOver r op arg = true →
    Answers (.waitSatisfied e) s fun t =>
      (∃ r', (t.dev.eng e).run = some r' ∧ r'.pc = r.pc + 1 ∧ r'.nextAdmit = c + 1 ∧ r'.flights = r.flights) ∧
      t.dev.now = max s.dev.now x ∧ t.mem = s.mem ∧
      SameRegs s.dev t.dev [.LOOP_STAT e]) ∧
  (∀ (e : Fin 8) (r : LoopRun) (s : State), (s.dev.eng e).run = some r → r.ended = false → r.window.length < 8 →
    s.dev.loopClocked e = true → r.pc < 512 → s.dev.touchesBad (entryAddr e r.pc) 4 = true →
    s.dev.cycleAt r.start (max (s.dev.cycleOf r.start s.dev.now) r.nextAdmit) < r.deadline →
    Answers (.cascadeAdmit e []) s fun t =>
      t.dev.bit (F.PG_ERR_BLK (.LOOP e)) 0 = true ∧ t.dev.scored 52 ∧
      (∀ r', (t.dev.eng e).run = some r' → r'.ended = true) ∧
      SameOutside s.dev t.dev [.LOOP 0, .IR 0, .SYS 0, .FC, .PWR, .SAFE] ∧ t.mem = s.mem) ∧
  (∀ (e : Fin 8) (r : LoopRun) (c : Nat) (f : Flight) (s : State), (s.dev.eng e).run = some r →
    s.dev.issueAt r = some c → r.window.find? (fun f => decide (f.readyAt ≤ c)) = some f →
    s.dev.loopClocked e = true → s.dev.cycleAt r.start c < r.deadline → s.dev.memory.bad = [] →
    Answers (.sectionIssue e []) s fun t =>
      (∃ r', (t.dev.eng e).run = some r' ∧ r'.flights.length = r.flights.length ∧ r'.lastIssue = c ∧ r'.pc = r.pc ∧
        ∃ f' ∈ r'.flights, f'.casc = f.casc ∧ f'.issued = f.issued + 1 ∧ f'.lastIssue = c ∧
          f'.work.length = f.work.length + 1 ∧
          (f.issued = 0 → f'.bank = b2n (s.dev.bit F.LOOP_SWAP_BANK f.group) ∧
            f'.firstIssue = s.dev.cycleAt r.start c)) ∧
      t.dev.now = max s.dev.now (s.dev.cycleAt r.start c) ∧ t.mem = s.mem ∧ SameRegs s.dev t.dev [.LOOP_STAT e]) ∧
  (∀ (e : Fin 8) (r : LoopRun) (f : Flight) (w : SecWork) (s : State), s.memWf → (s.dev.eng e).run = some r →
    r.flights = [f] → f.issued = f.count → f.work = [w] → s.dev.loopClocked e = true →
    max s.dev.now (s.dev.cycleAt r.start (f.lastIssue + 6)) < r.deadline →
    Answers (.cascadeComplete e) s fun t =>
      t.dev.now = max s.dev.now (s.dev.cycleAt r.start (f.lastIssue + 6)) ∧
      (f.opc = none → ∃ l ∈ (t.dev.eng e).landings, l.casc = f.casc ∧ l.out.isSome = true ∧
        l.at_ = t.dev.cycleAt r.start (f.lastIssue + 7)) ∧ mget 0 t.dev.loop.doneAt f.casc = t.dev.now ∧
      (∀ r', (t.dev.eng e).run = some r' → r'.flights = []) ∧
      SameOutside s.dev t.dev [.LOOP 0, .IR 0, .FC, .PWR, .SAFE] ∧
      (∀ i < 24, memGet t.mem (secAddr w.sec 0 + 0x20 + i) =
        (leBytes 8 w.s1 ++ leBytes 8 w.s2 ++ leBytes 8 w.ylast).getD i 0) ∧
      (∀ a, (a < secAddr w.sec 0 + 0x20 ∨ secAddr w.sec 0 + 0x20 + 24 ≤ a) → memGet t.mem a = memGet s.mem a)) ∧
  (∀ (e : Fin 8) (l : Landing) (o : Nat) (s : State), (s.dev.eng e).landings = [l] → s.dev.loopClocked e = true →
    l.out = some o →
    Answers (.outputLand e) s fun t =>
      (t.dev.eng e).landings = [] ∧ mget 0 t.dev.loop.outputs l.casc = o ∧ t.dev.now = max s.dev.now l.at_ ∧
      (∀ j v, l.dsts = [(1, j, v)] → t.dev.rd (F.LOOP_SET_VAL j) = v % 2 ^ 32 ∧
        SameRegs s.dev t.dev [.LOOP_STAT e, .LOOP_SET j]) ∧
      (∀ j v, l.dsts = [(2, j, v)] → t.dev.rd (F.EDGE_LEG_DUTY_DUTY j) = v % 2 ^ 24 ∧
        SameRegs s.dev t.dev [.LOOP_STAT e, .EDGE_LEG_DUTY j]) ∧
      (∀ j v, l.dsts = [(3, j, v)] → t.dev.rd (F.EDGE_LEG_OFFSET_OFFSET j) = v % 2 ^ 24 ∧
        SameRegs s.dev t.dev [.LOOP_STAT e, .EDGE_LEG_OFFSET j]) ∧
      (∀ j v, l.dsts = [(4, j, v)] → t.dev.on (F.EDGE_CAR_STAT_XFER_PEND j) = true ∧ (t.dev.car j).xfer = true ∧
        SameRegs s.dev t.dev [.LOOP_STAT e, .EDGE_CAR_STAT j]) ∧
      (l.dsts = [] → SameRegs s.dev t.dev [.LOOP_STAT e]))

/-- O34. Swaps, groups and trace buffers (R210, R227, R231, R234 to R238): a swap is requested, and its group's
configuration is frozen while it waits; ARM, STOP and FORCE act on the trace buffer; a run that has ended is recorded,
or triggers the buffer, or is dropped while the buffer is idle; the configuration is frozen while the buffer is armed
or triggered; RUNMAX clears and NANINFO is released. Where this rests on the model's choices: log entry 55. -/
def Obligations.LoopSwapsAndTraces : Prop :=
  (∀ (m : Nat) (v : Word) (s : State), Accepts swapWrite m .LOOP_SWAP v.toNat s.dev →
    Answers (.swapRequest m v) s fun t =>
      (∀ g < 16, t.dev.bit F.LOOP_SWAP_REQ g = (s.dev.bit F.LOOP_SWAP_REQ g || bitAt v.toNat g)) ∧
      t.dev.rd F.LOOP_SWAP_BANK = s.dev.rd F.LOOP_SWAP_BANK ∧
      (∀ g < 16, s.dev.bit F.LOOP_SWAP_REQ g = false → bitAt v.toNat g = true →
        mget 0 t.dev.loop.reqAt g = s.dev.now) ∧
      SameRegs s.dev t.dev [.LOOP_SWAP, .PG_ERR (.LOOP 8)]) ∧
  (∀ (m : Nat) (g : Fin 16) (v : Word) (s : State), Accepts (grpCfgWrite g) m (.LOOP_GRP_CFG g) v.toNat s.dev →
    s.dev.on (F.PG_LOCK_LOCK_BASIC (.LOOP 8)) = false → s.dev.bit F.LOOP_SWAP_REQ g = false →
    Answers (.grpCfgWrite m g v) s fun t =>
      t.dev.rd (F.LOOP_GRP_CFG_POLICY g) = bitsOf v.toNat 4 2 ∧ t.dev.rd (F.LOOP_GRP_CFG_ENG g) = bitsOf v.toNat 0 3 ∧
      SameRegs s.dev t.dev [.LOOP_GRP_CFG g, .PG_ERR (.LOOP 8)]) ∧
  (∀ (m : Nat) (g : Fin 16) (v : Word) (s : State), Accepts (grpCfgWrite g) m (.LOOP_GRP_CFG g) v.toNat s.dev →
    s.dev.bit F.LOOP_SWAP_REQ g = true →
    Answers (.grpCfgWrite m g v) s fun t =>
      t.dev.bit (F.PG_ERR_BLK (.LOOP 8)) 0 = true ∧ SameRegs s.dev t.dev [.PG_ERR (.LOOP 8)]) ∧
  (∀ (m : Nat) (e : Fin 8) (v : Word) (s : State), (Instr.traceArm m e v).wf = true →
    Accepts (traceCtrlWrite e) m (.LOOP_TRACE_CTRL e) v.toNat s.dev →
    s.dev.rd (F.LOOP_TRACE_STAT_STATE e) = 0 ∨ bitAt v.toNat 2 = true →
    Answers (.traceArm m e v) s fun t =>
      t.dev.rd (F.LOOP_TRACE_STAT_STATE e) = 1 ∧ t.dev.rd (F.LOOP_TRACE_STAT_WPTR e) = 0 ∧
      (t.dev.eng e).run = (s.dev.eng e).run ∧ (t.dev.eng e).ended = [] ∧
      SameRegs s.dev t.dev [.LOOP_TRACE_CTRL e, .LOOP_TRACE_STAT e, .LOOP_STAT e, .PG_ERR (.LOOP e)]) ∧
  (∀ (m : Nat) (e : Fin 8) (v : Word) (s : State), (Instr.traceArm m e v).wf = true →
    Accepts (traceCtrlWrite e) m (.LOOP_TRACE_CTRL e) v.toNat s.dev →
    s.dev.rd (F.LOOP_TRACE_STAT_STATE e) ≠ 0 → bitAt v.toNat 2 = false →
    Answers (.traceArm m e v) s fun t =>
      SameRegs s.dev t.dev [.LOOP_TRACE_CTRL e, .PG_ERR (.LOOP e)] ∧ t.dev.loop = s.dev.loop) ∧
  (∀ (m : Nat) (e : Fin 8) (v : Word) (s : State), (Instr.traceStop m e v).wf = true →
    Accepts (traceCtrlWrite e) m (.LOOP_TRACE_CTRL e) v.toNat s.dev →
    Answers (.traceStop m e v) s fun t =>
      t.dev.rd (F.LOOP_TRACE_STAT_STATE e) = b2n (bitAt v.toNat 0) ∧ (t.dev.eng e).ended = [] ∧
      SameRegs s.dev t.dev [.LOOP_TRACE_CTRL e, .LOOP_TRACE_STAT e, .LOOP_STAT e, .PG_ERR (.LOOP e)]) ∧
  (∀ (m : Nat) (e : Fin 8) (v : Word) (s : State), (Instr.traceForce m e v).wf = true →
    Accepts (traceCtrlWrite e) m (.LOOP_TRACE_CTRL e) v.toNat s.dev →
    Answers (.traceForce m e v) s fun t =>
      t.dev.on (F.LOOP_TRACE_CTRL_FORCE e) = true ∧
      (bitAt v.toNat 0 = false → bitAt v.toNat 2 = false →
        SameRegs s.dev t.dev [.LOOP_TRACE_CTRL e, .PG_ERR (.LOOP e)]) ∧
      SameRegs s.dev t.dev [.LOOP_TRACE_CTRL e, .LOOP_TRACE_STAT e, .LOOP_STAT e, .PG_ERR (.LOOP e)]) ∧
  (∀ (e : Fin 8) (x : RunEnd) (q : List RunEnd) (s : State), s.memWf → (s.dev.eng e).ended = x :: q →
    s.dev.loopClocked e = true → s.dev.rd (F.LOOP_TRACE_STAT_STATE e) = 1 → s.dev.rd (F.LOOP_TRACE_TRIG_KIND e) = 0 →
    s.dev.on (F.LOOP_TRACE_CTRL_FORCE e) = false → s.dev.rd (F.LOOP_TRACE_CFG_DECIM e) = 1 →
    let n := s.dev.traceNodes e
    let a := traceBase + 0x10000 * e.val + traceSize n * s.dev.rd (F.LOOP_TRACE_STAT_WPTR e)
    Answers (.traceRecord e) s fun t =>
      (t.dev.eng e).ended = q ∧
      t.dev.rd (F.LOOP_TRACE_STAT_WPTR e) = (s.dev.rd (F.LOOP_TRACE_STAT_WPTR e) + 1) % traceHeld n ∧
      t.dev.rd (F.LOOP_TRACE_STAT_STATE e) = 1 ∧
      (∀ i < traceSize n, memGet t.mem (a + i) = (traceBytes n x false).getD i 0) ∧
      (∀ b, (b < a ∨ a + traceSize n ≤ b) → memGet t.mem b = memGet s.mem b) ∧
      SameRegs s.dev t.dev [.LOOP_TRACE_STAT e, .LOOP_STAT e]) ∧
  (∀ (e : Fin 8) (x : RunEnd) (q : List RunEnd) (s : State), (s.dev.eng e).ended = x :: q →
    s.dev.loopClocked e = true → s.dev.rd (F.LOOP_TRACE_STAT_STATE e) = 1 →
    s.dev.traceTriggers e (s.dev.eng e).prevNode x = true →
    Answers (.traceRecord e) s fun t =>
      let held := traceHeld (s.dev.traceNodes e)
      let pre := min (held - 1) (s.dev.rd (F.LOOP_TRACE_CFG_PRE e))
      (t.dev.eng e).ended = q ∧ t.dev.on (F.LOOP_EVT_TRIG e) = true ∧
      t.dev.rd (F.LOOP_TRACE_STAT_TRIGPTR e) = s.dev.rd (F.LOOP_TRACE_STAT_WPTR e) ∧
      t.dev.rd (F.LOOP_TRACE_STAT_WPTR e) = (s.dev.rd (F.LOOP_TRACE_STAT_WPTR e) + 1) % held ∧
      t.dev.rd (F.LOOP_TRACE_STAT_STATE e) = (if held - pre ≤ 1 then 3 else 2) ∧
      t.dev.on (F.LOOP_TRACE_CTRL_FORCE e) = false ∧ SameOutside s.dev t.dev [.LOOP 0, .IR 0]) ∧
  (∀ (e : Fin 8) (x : RunEnd) (q : List RunEnd) (s : State), (s.dev.eng e).ended = x :: q →
    s.dev.loopClocked e = true →
    s.dev.rd (F.LOOP_TRACE_STAT_STATE e) = 0 ∨ s.dev.rd (F.LOOP_TRACE_STAT_STATE e) = 3 →
    Answers (.traceRecord e) s fun t =>
      (t.dev.eng e).ended = q ∧ SameRegs s.dev t.dev [.LOOP_STAT e] ∧ t.mem = s.mem) ∧
  (∀ (m : Nat) (e : Fin 8) (w : Fin 19) (v : Word) (s : State),
    Accepts (traceCfgWrite e (traceReg e w)) m (traceReg e w) v.toNat s.dev →
    (s.dev.rd (F.LOOP_TRACE_STAT_STATE e) = 0 ∨ s.dev.rd (F.LOOP_TRACE_STAT_STATE e) = 3) →
    Answers (.traceCfgWrite m e w v) s fun t =>
      t.dev.word (traceReg e w) = applyW1 (traceReg e w) v.toNat (s.dev.merged m (traceReg e w) v.toNat) % 2 ^ 32 ∧
      SameRegs s.dev t.dev [traceReg e w, .PG_ERR (.LOOP e)]) ∧
  (∀ (m : Nat) (e : Fin 8) (w : Fin 19) (v : Word) (s : State),
    Accepts (traceCfgWrite e (traceReg e w)) m (traceReg e w) v.toNat s.dev →
    (s.dev.rd (F.LOOP_TRACE_STAT_STATE e) = 1 ∨ s.dev.rd (F.LOOP_TRACE_STAT_STATE e) = 2) →
    Answers (.traceCfgWrite m e w v) s fun t =>
      t.dev.bit (F.PG_ERR_BLK (.LOOP e)) 2 = true ∧ SameRegs s.dev t.dev [.PG_ERR (.LOOP e)]) ∧
  (∀ (m : Nat) (e : Fin 8) (s : State), Accepts (runmaxWrite e) m (.LOOP_RUNMAX e) (2 ^ 31) s.dev →
    Answers (.runmaxClear m e) s fun t =>
      t.dev.rd (F.LOOP_RUNMAX_MAX e) = 0 ∧ SameRegs s.dev t.dev [.LOOP_RUNMAX e, .PG_ERR (.LOOP e)]) ∧
  (∀ (m : Nat) (e : Fin 8) (s : State), Accepts (captureWrite (.LOOP_NANINFO e) none) m (.LOOP_NANINFO e) (2 ^ 31) s.dev →
    (∀ x ∈ s.dev.captures, x.1 = .LOOP_NANINFO e → x.2.1 ≠ s.dev.now) →
    Answers (.naninfoRelease m e) s fun t =>
      t.dev.rd (F.LOOP_NANINFO_VALID e) = 0 ∧
      t.dev.rd (F.LOOP_NANINFO_CASCADE e) = s.dev.rd (F.LOOP_NANINFO_CASCADE e) ∧
      SameRegs s.dev t.dev [.LOOP_NANINFO e, .PG_ERR (.LOOP e)])

/-- O35. Claims and roles (R244 to R248, R257, R260, R261): LEARN starts claim learning, whose end decides role and
claim; a takeover makes a claim above every one seen, and completes when the frames that carry it have left; a standby
relinquishes a claim that no frame carries; a resign is set at an ACTIVE unit, and fails where nobody follows it.
Where this rests on the model's choices: log entries 62 to 66 and 76. -/
def Obligations.ClaimsAndRoles : Prop :=
  (∀ (m : Nat) (v : Word) (s : State), (Instr.claimLearn m v).wf = true →
    Accepts claimCtrlWrite m .SAFE_CLAIM_CTRL v.toNat s.dev →
    Answers (.claimLearn m v) s fun t =>
      t.dev.role = 1 ∧ t.dev.tandem.learnAt = s.dev.now ∧ t.dev.tandem.partnerSeen = false ∧ t.dev.claim = s.dev.claim ∧
      SameRegs s.dev t.dev [.SAFE_CLAIM_CTRL, .SAFE_CLAIM_STAT, .PG_ERR .SAFE]) ∧
  (∀ (m : Nat) (v : Word) (s : State), (Instr.resign m v).wf = true →
    Accepts claimCtrlWrite m .SAFE_CLAIM_CTRL v.toNat s.dev →
    Answers (.resign m v) s fun t =>
      (s.dev.role = 2 → bitAt v.toNat 10 = false →
        t.dev.on F.SAFE_CLAIM_CTRL_RESIGN = true ∧ t.dev.tandem.resignAt = s.dev.now) ∧
      (s.dev.role ≠ 2 ∨ bitAt v.toNat 10 = true →
        t.dev.rd F.SAFE_CLAIM_CTRL_RESIGN = s.dev.rd F.SAFE_CLAIM_CTRL_RESIGN) ∧
      t.dev.role = (if bitAt v.toNat 10 then 1 else s.dev.role) ∧ t.dev.claim = s.dev.claim ∧
      SameRegs s.dev t.dev [.SAFE_CLAIM_CTRL, .SAFE_CLAIM_STAT, .PG_ERR .SAFE]) ∧
  (∀ (s : State), s.dev.role = 1 →
    Answers .learnEnd s fun t =>
      t.dev.now = max s.dev.now s.dev.learnEndAt ∧
      (s.dev.tandem.partnerSeen = true → s.dev.tandem.pRole = 2 ∨ s.dev.tandem.pRole = 4 ∨
          s.dev.claim < s.dev.tandem.pClaim ∨ (s.dev.claim = 0 ∧ s.dev.tandem.pClaim = 0 ∧ s.dev.tid = 1) →
        t.dev.role = 3 ∧ t.dev.claim = s.dev.claim ∧ t.dev.on (F.PG_STAT_BUSY (.TANDEM 0)) = true) ∧
      (s.dev.tandem.partnerSeen = false → s.dev.claim ≠ 0 → s.dev.claim = s.dev.seen →
        t.dev.role = 2 ∧ t.dev.claim = s.dev.claim) ∧
      (∀ c, s.dev.nextClaim = some c → s.dev.tandem.partnerSeen = false → s.dev.claim = 0 →
        s.dev.on F.SAFE_CLAIM_CTRL_AUTO = true → t.dev.role = 2 ∧ t.dev.claim = c % 2 ^ 64 ∧ t.dev.scored 61) ∧
      (s.dev.tandem.partnerSeen = false → s.dev.claim = 0 → s.dev.on F.SAFE_CLAIM_CTRL_AUTO = false →
        t.dev.role = 0 ∧ t.dev.claim = 0) ∧ SameOutside s.dev t.dev [.SAFE, .TANDEM 0, .FC, .PWR]) ∧
  (∀ (c : Nat) (s : State), s.dev.tandemOn = true → s.dev.takeReady = true → s.dev.enabledRims ≠ [] →
    (s.dev.on F.TANDEM_LINK_HB_SILENT = true ∧ s.dev.enabledRims.length < 2 * s.dev.nSilent) ∨
      s.dev.partnerResigns = true →
    s.dev.nextClaim = some c →
    Answers .takeover s fun t =>
      t.dev.role = 4 ∧ t.dev.claim = c % 2 ^ 64 ∧ t.dev.scored 61 ∧ t.dev.rd F.TANDEM_TKINFO_NS_VAL = s.dev.tbNs ∧
      t.dev.tandem.claimGen = s.dev.tandem.claimGen + 1 ∧ t.dev.tandem.ownSeen = false ∧
        SameOutside s.dev t.dev [.SAFE, .TANDEM 0, .FC, .PWR]) ∧
  (∀ (s : State), s.dev.tandemOn = true → s.dev.takeReady = true → s.dev.enabledRims ≠ [] →
    (s.dev.on F.TANDEM_LINK_HB_SILENT = true ∧ s.dev.enabledRims.length < 2 * s.dev.nSilent) ∨
      s.dev.partnerResigns = true →
    s.dev.nextClaim = none →
    Answers .takeover s fun t =>
      t.dev.role = 3 ∧ t.dev.claim = s.dev.claim ∧ t.dev.on F.SAFE_CLAIM_STAT_REFUSED = true ∧ t.dev.scored 61 ∧
      SameOutside s.dev t.dev [.SAFE, .TANDEM 0, .FC, .PWR]) ∧
  (∀ (s : State), s.dev.role = 4 →
    Answers .takeoverComplete s fun t =>
      t.dev.role = 2 ∧ t.dev.on F.TANDEM_EVT_TAKEOVER = true ∧ t.dev.scored 61 ∧
      t.dev.rd F.SAFE_CLAIM_STAT_TAKEOVERS = satAdd (s.dev.rd F.SAFE_CLAIM_STAT_TAKEOVERS) 1 255 ∧
      t.dev.claim = s.dev.claim ∧ SameRegsBut s.dev t.dev 61 [.SAFE_CLAIM_STAT, .TANDEM_EVT]) ∧
  (∀ (s : State), s.dev.role = 3 → s.dev.claim ≠ 0 → s.dev.on F.SAFE_CLAIM_CTRL_RELINQ_EN = true →
    Answers .relinquish s fun t =>
      t.dev.claim = 0 ∧ t.dev.on F.TANDEM_EVT_RELINQUISHED = true ∧ t.dev.scored 61 ∧ t.dev.role = 3 ∧
      t.dev.now = (if s.dev.tandem.ownSeen then max s.dev.now (s.dev.tandem.ownAt + 1000000) else s.dev.now) ∧
      SameRegsBut s.dev t.dev 61 [.SAFE_CLAIM_LO, .SAFE_CLAIM_HI, .TANDEM_EVT]) ∧
  (∀ (s : State), s.dev.role = 2 → s.dev.on F.SAFE_CLAIM_CTRL_RESIGN = true →
    Answers .resignFail s fun t =>
      (s.dev.srcClass 61 ≠ 6 → t.dev.on F.SAFE_CLAIM_CTRL_RESIGN = false) ∧ t.dev.on F.TANDEM_EVT_RESIGN_FAIL = true ∧
        t.dev.scored 61 ∧
      t.dev.role = 2 ∧ t.dev.now = max s.dev.now (s.dev.tandem.resignAt + 100000) ∧
      SameRegsBut s.dev t.dev 61 [.TANDEM_EVT])

/-- O36. The tandem link (R249 to R254): heartbeats leave with their sequence numbers and bring the partner's claim,
role and flags, and to a standby its addend; silence and the loss of time following are shown and latch their source;
frames of the partner bring its claim, and they and its block pairs end the silence of a rim; forwarded state is taken
by a standby. Where this rests on the model's choices: log entries 60, 61, 63, 68, 75, 76 and 173. -/
def Obligations.TandemLink : Prop :=
  (∀ (lane : Fin 2) (off : Fin 251) (s : State), s.dev.tandemOn = true → s.dev.time.running = true →
    (lane.val = 0 → s.dev.on F.TANDEM_CFG_L0_EN = true) → (lane.val = 1 → s.dev.on F.TANDEM_CFG_L1_EN = true) →
    Answers (.hbSend lane off) s fun t =>
      mget 0 t.dev.tandem.hseq lane = (mget 0 s.dev.tandem.hseq lane + 1) % 65536 ∧
      mget 0 t.dev.tandem.fseq lane = (mget 0 s.dev.tandem.fseq lane + 1) % 65536 ∧
      t.dev.tandem.linkOut = [] ∧ t.dev.regs = s.dev.regs) ∧
  (∀ (lane : Fin 2) (hb : HbRec) (ago : Nat) (s : State), s.dev.tandemOn = true → s.dev.laneUp lane = true →
    Answers (.hbReceive lane hb ago) s fun t =>
      t.dev.seen = max (max s.dev.seen hb.claim.toNat) hb.seen.toNat ∧
      t.dev.rd F.TANDEM_LINK_P_ROLE = hb.role.toNat % 8 ∧
      t.dev.rd F.TANDEM_LINK_P_TAKE_READY = bitsOf hb.flags.toNat 0 1 ∧
      t.dev.rd F.TANDEM_LINK_P_RESIGN = bitsOf hb.flags.toNat 1 1 ∧ t.dev.on F.TANDEM_LINK_HB_SILENT = false ∧
      t.dev.tandem.hbAt = s.dev.now ∧ t.dev.tandem.hbSeen = true ∧
      mget 0 t.dev.tandem.rxTime lane = s.dev.tbAgo ago ∧
      (s.dev.role = 2 ∨ s.dev.role = 4 → s.dev.claim < max (max s.dev.seen hb.claim.toNat) hb.seen.toNat →
        t.dev.role = 3 ∧ t.dev.on F.TANDEM_EVT_DEMOTED = true ∧ t.dev.scored 61) ∧
      (s.dev.role = 3 → s.dev.on F.TANDEM_CFG_TFOLLOW = true → s.dev.basicLocked (.TIME 0) = false →
        0x7FEF9DB2 ≤ hb.addendWr.toNat → hb.addendWr.toNat ≤ 0x8010624E →
        t.dev.rd F.TIME_ADDEND_ADDEND = hb.addendWr.toNat) ∧ t.dev.claim = s.dev.claim) ∧
  (∀ (s : State), s.dev.on F.TANDEM_LINK_HB_SILENT = false →
    Answers .hbSilent s fun t =>
      t.dev.on F.TANDEM_LINK_HB_SILENT = true ∧ t.dev.on F.TANDEM_EVT_HB_LOST = true ∧
      t.dev.rd F.TANDEM_LINK_HB_LOST = satAdd (s.dev.rd F.TANDEM_LINK_HB_LOST) 1 65535 ∧
      (s.dev.enabled (.TANDEM 0) = true → t.dev.scored 34) ∧ t.dev.now = max s.dev.now (s.dev.tandem.hbAt + 2500) ∧
      SameRegsBut s.dev t.dev 34 [.TANDEM_LINK, .TANDEM_EVT, .TANDEM_MSTAT]) ∧
  (∀ (s : State), s.dev.on F.TANDEM_STAT_TF_OK = true →
    Answers .tfLost s fun t =>
      t.dev.on F.TANDEM_STAT_TF_OK = false ∧ t.dev.on F.TANDEM_EVT_TF_LOST = true ∧
      (s.dev.role = 3 → t.dev.scored 34) ∧ t.dev.now = max s.dev.now (s.dev.tandem.oAt + 1000001) ∧
      SameRegsBut s.dev t.dev 34 [.TANDEM_STAT, .TANDEM_EVT]) ∧
  (∀ (n : Fin 32) (tr : Nat) (a : Nat × Nat) (s : State), s.dev.trans n = some tr →
    s.dev.tandem.peerAt.find? (fun e => e.1 == n.val) = some a → s.dev.rimOn n = true → s.dev.tandemOn = true →
    s.dev.bit F.TANDEM_SILENT_RIMS n = false →
    Answers (.rimSilent n) s fun t =>
      t.dev.bit F.TANDEM_SILENT_RIMS n = true ∧ SameRegs s.dev t.dev [.TANDEM_SILENT]) ∧
  (∀ (n : Fin 32) (b : RimBlock) (bs : List RimBlock) (sof tp : Nat) (s : State), s.dev.rimOn n = true →
    parsePeer (b :: bs) = none →
    Answers (.peerFrame n b bs sof tp) s fun t =>
      t.dev.rd (F.RIM_CNT_CRC n) = (s.dev.rd (F.RIM_CNT_CRC n) + 1) % 2 ^ 16 ∧ t.dev.seen = s.dev.seen ∧
      SameRegsBut s.dev t.dev n [.RIM_CNT n, .PG_ERR (.RIM n)]) ∧
  (∀ (n : Fin 32) (b : RimBlock) (bs : List RimBlock) (c unit : Nat) (time : Option Nat) (sof tp : Nat) (s : State),
    s.dev.rimOn n = true → parsePeer (b :: bs) = some (.frame c unit time) → unit ≠ s.dev.tid →
    Answers (.peerFrame n b bs sof tp) s fun t =>
      t.dev.seen = max s.dev.seen c ∧ t.dev.on (F.RIM_STAT_PEER n) = true ∧
      (s.dev.tandemOn = true → t.dev.bit F.TANDEM_SILENT_RIMS n = false ∧
        mget 0 t.dev.tandem.peerAt n = s.dev.tbAgo sof / nsUnit) ∧
      (s.dev.claim ≠ 0 → s.dev.claim < c → t.dev.scored n ∧ t.dev.bit (F.PG_ERR_BLK (.RIM n)) 2 = true) ∧
      SameOutside s.dev t.dev [.RIM 0, .SAFE, .TANDEM 0, .FC, .PWR]) ∧
  (∀ (n : Fin 32) (b : RimBlock) (bs : List RimBlock) (c sof tp : Nat) (s : State), s.dev.rimOn n = true →
    parsePeer (b :: bs) = some (.pair c) →
    Answers (.peerFrame n b bs sof tp) s fun t =>
      (s.dev.tandemOn = true → t.dev.bit F.TANDEM_SILENT_RIMS n = false ∧
        mget 0 t.dev.tandem.peerAt n = s.dev.tbAgo sof / nsUnit) ∧ SameRegs s.dev t.dev [.TANDEM_SILENT]) ∧
  (∀ (n : Fin 32) (b : RimBlock) (bs : List RimBlock) (c : Nat) (time : Option Nat) (sof tp : Nat) (s : State),
    s.dev.rimOn n = true →
    parsePeer (b :: bs) = some (.frame c s.dev.tid time) → Answers (.peerFrame n b bs sof tp) s fun t => t = s) ∧
  (∀ (l : Fin 1024) (dir : Fin 2) (adt : BitVec 12) (fb : Bool) (s : State), s.dev.tandemOn = true → s.dev.role = 3 →
    Answers (.adtRecord l dir adt fb) s fun t =>
      t.dev.rd (fAdt l (dir.val + 1)) = adt.toNat ∧ t.dev.on (fFb l (dir.val + 1)) = fb ∧
      SameRegs s.dev t.dev [.EDGE_LEG_ADT l]) ∧
  (∀ (mask : BitVec 16) (s : State), s.dev.tandemOn = true → s.dev.role = 3 →
    Answers (.swapRecord mask) s fun t =>
      (∀ g < 16, t.dev.bit F.LOOP_SWAP_REQ g = (s.dev.bit F.LOOP_SWAP_REQ g || bitAt mask.toNat g)) ∧
      (∀ g < 16, ∀ x, bitAt mask.toNat g = true → (s.dev.eng (s.dev.rd (F.LOOP_GRP_CFG_ENG g))).prevStart = some x →
        s.dev.now < x + (s.dev.rd F.TANDEM_LINKDLY_VAL + 999) / 1000 → t.dev.on F.TANDEM_EVT_SWAP_LATE = true) ∧
      SameRegs s.dev t.dev [.LOOP_SWAP, .TANDEM_EVT]) ∧
  (∀ (lane : Fin 2) (lock : Bool) (s : State), s.dev.tandemOn = true →
    Answers (.tandemLaneLockChange lane lock) s fun t =>
      t.dev.on (if lane.val = 0 then F.TANDEM_LINK_L0_LOCK else F.TANDEM_LINK_L1_LOCK) = lock ∧
      SameRegs s.dev t.dev [.TANDEM_LINK])

/-- O37. The mirror (R264 to R267): a valid list is loaded, one of more than 1,024 entries is refused; a due run is
captured and streamed; MDATA writes its bytes of the receive buffer and nothing else; MEND completes an epoch or,
where its CRC fails, discards it with source 35; an apply in time writes the listed memory and nothing else, and an
epoch whose quiet interval has passed is discarded. Where this rests on the model's choices: log entries 69 to 74. -/
def Obligations.Mirror : Prop :=
  (∀ (m : Nat) (v : Word) (l : List MirrorEntry) (s : State), (Instr.mirrorListLoad m v).wf = true →
    Accepts (mctrlWrite s.mem) m .TANDEM_MCTRL v.toNat s.dev → s.dev.rd F.TANDEM_MIRROR_LIST_VAL % 8 = 0 →
    s.dev.rd F.TANDEM_MLIST_CNT_VAL ≤ 1024 →
    s.dev.mirrorError (s.dev.rd F.TANDEM_MIRROR_LIST_VAL) (8 * s.dev.rd F.TANDEM_MLIST_CNT_VAL) false = none →
    readList s.dev s.mem (s.dev.rd F.TANDEM_MIRROR_LIST_VAL) (s.dev.rd F.TANDEM_MLIST_CNT_VAL) = some l →
    (l.map MirrorEntry.bytes).foldl (· + ·) 0 ≤ 1048576 →
    Answers (.mirrorListLoad m v) s fun t =>
      t.dev.tandem.list = l ∧ t.dev.on F.TANDEM_MSTAT_LIST_OK = true ∧
      t.dev.rd F.TANDEM_MSTAT_EBYTES = (l.map MirrorEntry.bytes).foldl (· + ·) 0 ∧
      SameRegs s.dev t.dev [.TANDEM_MSTAT, .PG_ERR (.TANDEM 0)] ∧ t.mem = s.mem) ∧
  (∀ (m : Nat) (v : Word) (s : State), (Instr.mirrorListLoad m v).wf = true →
    Accepts (mctrlWrite s.mem) m .TANDEM_MCTRL v.toNat s.dev → 1024 < s.dev.rd F.TANDEM_MLIST_CNT_VAL →
    Answers (.mirrorListLoad m v) s fun t =>
      t.dev.tandem = s.dev.tandem ∧ t.dev.bit (F.PG_ERR_BLK (.TANDEM 0)) 0 = true ∧
      SameRegs s.dev t.dev [.PG_ERR (.TANDEM 0)] ∧ t.mem = s.mem) ∧
  (∀ (s : State), s.dev.tandemOn = true → s.dev.role = 2 → s.dev.on F.TANDEM_MCFG_MEN = true →
    s.dev.on F.TANDEM_MSTAT_LIST_OK = true → s.dev.on F.TANDEM_LINK_HB_SILENT = false →
    s.dev.rd F.TANDEM_LINK_P_ROLE = 3 → s.dev.quiet = true →
    s.dev.rd (F.LOOP_CNT_RUNS s.dev.refEngine) % max 1 (s.dev.rd F.TANDEM_MCFG_N) = 0 →
    s.dev.tandem.capRun ≠ some (s.dev.eng s.dev.refEngine).runs → s.dev.on F.TANDEM_MSTAT_STREAMING = false →
    s.dev.listError false = none →
    Answers .mirrorCapture s fun t =>
      t.dev.on F.TANDEM_MSTAT_STREAMING = true ∧ t.dev.tandem.sending = true ∧
      t.dev.tandem.epSent = (s.dev.tandem.epSent + 1) % 2 ^ 32 ∧
      t.dev.rd F.TANDEM_EPOCH_SENT = t.dev.tandem.epSent % 2 ^ 16 ∧
      t.dev.tandem.txEpoch = (s.dev.tandem.list.flatMap MirrorEntry.parts).flatMap
        (fun p => readBytes s.dev s.mem 10 p.1 p.2) ∧
      t.dev.tandem.capRun = some (s.dev.eng s.dev.refEngine).runs ∧
      SameRegs s.dev t.dev [.TANDEM_MSTAT, .TANDEM_EPOCH] ∧ t.mem = s.mem) ∧
  (∀ (s : State), s.dev.tandem.sending = true → s.dev.tandemOn = true →
    Answers .mirrorStreamEnd s fun t =>
      let x := s.dev.tandem.txEpoch
      t.dev.on F.TANDEM_MSTAT_STREAMING = false ∧ t.dev.tandem.txEpoch = [] ∧ t.dev.tandem.sending = false ∧
      (s.dev.laneUsed 0 = true ∨ s.dev.laneUsed 1 = true → t.dev.tandem.linkOut.length =
        s.dev.tandem.linkOut.length + (mdataRecs (x.length / 224 + 1) 0 x).length + 1) ∧
      SameRegs s.dev t.dev [.TANDEM_MSTAT] ∧ t.mem = s.mem) ∧
  (∀ (off : BitVec 32) (data : List (BitVec 8)) (s : State), s.memWf → s.dev.tandemOn = true → s.dev.role = 3 →
    s.dev.bufferFits = true → off.toNat + data.length ≤ s.dev.rd F.TANDEM_MSTAT_EBYTES →
    let a := s.dev.halfAt s.dev.tandem.rxHalf + off.toNat
    s.dev.mirrorError a data.length true = none → sramBase ≤ a → a + data.length ≤ sramBase + 0x1800000 →
    Answers (.mdata off data) s fun t =>
      t.dev.on F.TANDEM_MSTAT_STREAMING = true ∧ (∀ i < data.length, memGet t.mem (a + i) = data.getD i 0) ∧
      (∀ x, (x < a ∨ a + data.length ≤ x) → memGet t.mem x = memGet s.mem x) ∧
      SameRegsBut s.dev t.dev 59 [.TANDEM_MSTAT, .KEYS_V_STAT, .PG_STAT (.KEYS 1), .PG_PROG (.KEYS 1)]) ∧
  (∀ (off : BitVec 32) (data : List (BitVec 8)) (s : State), s.dev.tandemOn = true → s.dev.role = 3 →
    s.dev.bufferFits = false →
    Answers (.mdata off data) s fun t =>
      t.dev.bit (F.PG_ERR_BLK (.TANDEM 0)) 1 = true ∧ t.mem = s.mem ∧ SameRegs s.dev t.dev [.PG_ERR (.TANDEM 0)]) ∧
  (∀ (epoch ns sec ebytes crc : BitVec 32) (s : State), s.dev.tandemOn = true → s.dev.role = 3 →
    s.dev.bufferFits = true → ebytes.toNat = s.dev.rd F.TANDEM_MSTAT_EBYTES →
    crc32c (readBytes s.dev s.mem 10 (s.dev.halfAt s.dev.tandem.rxHalf) (s.dev.rd F.TANDEM_MSTAT_EBYTES)) = crc.toNat →
    Answers (.mend epoch ns sec ebytes crc) s fun t =>
      t.dev.tandem.rxReady = true ∧ t.dev.tandem.rxNumber = epoch.toNat ∧ t.dev.tandem.rxNs = ns.toNat ∧
      t.dev.tandem.rxSec = sec.toNat ∧ t.dev.tandem.rxHalf = 1 - s.dev.tandem.rxHalf ∧
      t.dev.on F.TANDEM_MSTAT_STREAMING = false ∧ SameRegs s.dev t.dev [.TANDEM_MSTAT] ∧ t.mem = s.mem) ∧
  (∀ (epoch ns sec ebytes crc : BitVec 32) (s : State), s.dev.tandemOn = true → s.dev.role = 3 →
    s.dev.bufferFits = true → ebytes.toNat ≠ s.dev.rd F.TANDEM_MSTAT_EBYTES →
    Answers (.mend epoch ns sec ebytes crc) s fun t =>
      t.dev.tandem.rxReady = false ∧ t.dev.on F.TANDEM_EVT_MIRROR_CRC = true ∧ t.dev.scored 35 ∧
      t.dev.rd F.TANDEM_MCNT_DISCARDED = satAdd (s.dev.rd F.TANDEM_MCNT_DISCARDED) 1 255 ∧
      SameRegsBut s.dev t.dev 35 [.TANDEM_MCNT, .TANDEM_EVT, .TANDEM_MSTAT] ∧ t.mem = s.mem) ∧
  (∀ (s : State), s.dev.tandemOn = true → s.dev.role = 3 → s.dev.tandem.rxReady = true →
    s.dev.on F.TANDEM_MSTAT_APPLYING = false → -100 ≤ s.dev.startGap (s.dev.eng s.dev.refEngine) →
    s.dev.startGap (s.dev.eng s.dev.refEngine) ≤ 100 → s.dev.quiet = true →
    s.dev.now + s.dev.applyNs + 500 ≤
      (s.dev.eng s.dev.refEngine).prevStart.getD 0 + (s.dev.eng s.dev.refEngine).gap →
    Answers .mirrorApply s fun t =>
      t.dev.on F.TANDEM_MSTAT_APPLYING = true ∧ t.dev.tandem.rxReady = false ∧ t.dev.tandem.applyAt = s.dev.now ∧
      SameRegs s.dev t.dev [.TANDEM_MSTAT]) ∧
  (∀ (s : State), s.dev.tandemOn = true → s.dev.role = 3 → s.dev.tandem.rxReady = true →
    s.dev.on F.TANDEM_MSTAT_APPLYING = false → -100 ≤ s.dev.startGap (s.dev.eng s.dev.refEngine) →
    100 < s.dev.startGap (s.dev.eng s.dev.refEngine) ∨
      s.dev.tandem.quietOver = some (s.dev.eng s.dev.refEngine).runs →
    Answers .mirrorApply s fun t =>
      t.dev.tandem.rxReady = false ∧ t.dev.on F.TANDEM_MSTAT_APPLYING = false ∧
      t.dev.rd F.TANDEM_MCNT_DISCARDED = satAdd (s.dev.rd F.TANDEM_MCNT_DISCARDED) 1 255 ∧
      t.dev.rd F.TANDEM_MSTAT_LAG = satAdd (s.dev.rd F.TANDEM_MSTAT_LAG) 1 15 ∧
        t.dev.on F.TANDEM_EVT_MIRROR_LAG = true ∧
      SameRegsBut s.dev t.dev 35 [.TANDEM_MSTAT, .TANDEM_MCNT, .TANDEM_EVT]) ∧
  (∀ (s : State), s.memWf → s.dev.on F.TANDEM_MSTAT_APPLYING = true → s.dev.listError true = none →
    Answers .mirrorApplyEnd s fun t =>
      t.dev.on F.TANDEM_MSTAT_APPLYING = false ∧ t.dev.rd F.TANDEM_EPOCH_APPLIED = s.dev.tandem.rxNumber % 2 ^ 16 ∧
      t.dev.tandem.epApplied = s.dev.tandem.rxNumber ∧
      t.dev.rd F.TANDEM_MSTAT_LAG = 0 ∧ t.dev.on F.TANDEM_EVT_MIRROR_APPLIED = true ∧ t.dev.tandem.joined = true ∧
      SameOutside s.dev t.dev [.TANDEM 0, .KEYS 0, .FC, .PWR, .SAFE] ∧
      ∀ a, (∀ p ∈ s.dev.tandem.list.flatMap MirrorEntry.parts, ∀ i < p.2, physAddr (p.1 + i) ≠ a) →
        memGet t.mem a = memGet s.mem a)

/-- O38. The fault collector (R273 to R283, R287): an asserted source sets its Scoreboard bit alone; by its class it
asks for SHED or is held, with STATE, LEVEL and the actions of the level; the first is captured with its time. Forces
assert sources; a bit clears only where its source is not asserted, neither by a level nor by an event of that
instant; RELEASE ends the fault state unless a source of class HOLD or above is asserted, and recovery ends it after
`FC.QUIET`. Where this rests on the model's choices: log entries 9, 120, 123 and 124. -/
def Obligations.FaultCollector : Prop :=
  (∀ (n : Fin 64) (s : State),
    Answers (.sourceLatch n) s fun t =>
      t.dev.scored n ∧ (∀ k < 64, k ≠ n.val → (t.dev.scored k ↔ s.dev.scored k)) ∧
      (s.dev.srcClass n = 3 → t.dev.fc.shedReq = true ∧ t.dev.fc.shedSince = s.dev.now ∧
        (s.dev.rd F.PWR_STATE_CUR = 0 → s.dev.on F.PWR_STATE_BUSY = false → t.dev.rd F.PWR_STATE_CUR = 1)) ∧
      (s.dev.srcClass n < 4 → t.dev.held = s.dev.held ∧ t.dev.rd F.FC_STATE_STATE = s.dev.rd F.FC_STATE_STATE) ∧
      (4 ≤ s.dev.srcClass n → bitAt s.dev.held n = false →
        bitAt t.dev.held n = true ∧ t.dev.on F.FC_STATE_STATE = true ∧ t.dev.fc.quietSince = s.dev.now ∧
        t.dev.rd F.FC_STATE_LEVEL = max (s.dev.rd F.FC_STATE_LEVEL) (s.dev.srcClass n) ∧
        t.dev.rd (F.FC_CLASS_HCLASS n) = s.dev.srcClass n ∧
        (6 ≤ s.dev.srcClass n → t.dev.rd F.FC_STATE_STATE = 2) ∧
        (s.dev.rd F.FC_STATE_STATE = 0 → t.dev.loop = s.dev.loop.abortAll) ∧
        (s.dev.srcClass n = 6 → s.dev.rd F.FC_STATE_LEVEL < 6 →
          if s.dev.handoverBlocks then t.dev.fc.reactBlock = true else t.dev.on F.SAFE_CLAIM_CTRL_RESIGN = true) ∧
        (s.dev.srcClass n = 5 → s.dev.rd F.FC_STATE_LEVEL ≤ 5 → t.dev.fc.reactBlock = true) ∧
        (s.dev.srcClass n = 7 → t.dev.fc.reactBlock = true ∧
          t.dev.rd F.SAFE_TRIP_ASSERT = s.dev.rd F.SAFE_TRIP_ASSERT ||| s.dev.rd F.FC_CFG_TRIP_MASK)) ∧
      (s.dev.score = 0 → s.dev.on F.FC_FIRST_VALID = false →
        t.dev.on F.FC_FIRST_VALID = true ∧ t.dev.rd F.FC_FIRST_SOURCE = n ∧ t.dev.rd F.FC_FIRST_NS_NS = s.dev.tbNs) ∧
      t.mem = s.mem ∧ SameRegsBut s.dev t.dev n []) ∧
  (∀ (m : Nat) (s : State), Accepts fcCtrlWrite m .FC_CTRL 1 s.dev → s.dev.on F.FC_STATE_STATE = true →
    s.dev.assertedFrom 4 = false →
    Answers (.fcRelease m) s fun t =>
      t.dev.rd F.FC_STATE_STATE = 0 ∧ t.dev.held = 0 ∧ t.dev.rd F.FC_STATE_LEVEL = 0 ∧ t.dev.fc.recoveries = [] ∧
      t.dev.fc.reactBlock = (s.dev.fc.reactBlock && !s.dev.on F.FC_CFG_AUTO_UNBLOCK) ∧ t.dev.score = s.dev.score ∧
      (s.dev.time.stepCmd = 0 → SameRegs s.dev t.dev [.FC_STATE, .FC_HELD_LO, .FC_HELD_HI, .PG_ERR .FC])) ∧
  (∀ (m : Nat) (s : State), Accepts fcCtrlWrite m .FC_CTRL 1 s.dev → s.dev.on F.FC_STATE_STATE = true →
    s.dev.assertedFrom 4 = true →
    Answers (.fcRelease m) s fun t =>
      t.dev.bit (F.PG_ERR_BLK .FC) 0 = true ∧ SameRegs s.dev t.dev [.PG_ERR .FC] ∧
      t.dev.fc = s.dev.fc) ∧
  (∀ (m : Nat) (s : State), Accepts fcCtrlWrite m .FC_CTRL 1 s.dev → s.dev.rd F.FC_STATE_STATE = 0 →
    Answers (.fcRelease m) s fun t => SameRegs s.dev t.dev [.PG_ERR .FC] ∧ t.dev.fc = s.dev.fc) ∧
  (∀ (m : Nat) (s : State), Accepts fcCtrlWrite m .FC_CTRL 2 s.dev →
    Answers (.fcUnblock m) s fun t =>
      t.dev.fc.reactBlock = (s.dev.fc.reactBlock && s.dev.on F.FC_STATE_STATE) ∧
      (s.dev.time.stepCmd = 0 → SameRegs s.dev t.dev [.PG_ERR .FC])) ∧
  (∀ (m : Nat) (s : State), Accepts fcCtrlWrite m .FC_CTRL 4 s.dev →
    Answers (.swfault m) s fun t => t.dev.scored 63 ∧ (s.dev.time.stepCmd = 0 →
      SameRegsBut s.dev t.dev 63 [.PG_ERR .FC])) ∧
  (∀ (m : Nat) (hi : Bool) (v : Word) (s : State),
    let r := half hi .FC_FORCE_LO .FC_FORCE_HI
    Accepts (forceWrite r) m r v.toNat s.dev →
    Answers (.forceWrite m hi v) s fun t =>
      t.dev.word r = v.toNat ∧
      (∀ i < 32, bitAt v.toNat i = true → s.dev.asserted (i + if hi then 32 else 0) = false →
        t.dev.scored (i + if hi then 32 else 0)) ∧
      (∀ k < 64, s.dev.scored k → t.dev.scored k) ∧ SameOutside s.dev t.dev [.FC, .PWR, .SAFE]) ∧
  (∀ (m : Nat) (hi : Bool) (v : Word) (s : State),
    let r := half hi .SYS_TFORCE_LO .SYS_TFORCE_HI
    Accepts (forceWrite r) m r v.toNat s.dev → s.dev.basicLocked r.page = false →
    Answers (.tforceWrite m hi v) s fun t =>
      t.dev.word r = v.toNat ∧
      (∀ i < 32, bitAt v.toNat i = true → s.dev.asserted (i + if hi then 32 else 0) = false →
        t.dev.scored (i + if hi then 32 else 0)) ∧
      SameOutside s.dev t.dev [.SYS 0, .FC, .PWR, .SAFE]) ∧
  (∀ (m : Nat) (hi : Bool) (v : Word) (s : State), s.dev.canIssue m = true →
    s.dev.allowed m (.reg (half hi .SYS_TFORCE_LO .SYS_TFORCE_HI)) true = true →
      s.dev.on F.FC_STAT_TEST_FORCE_EN = false →
    Answers (.tforceWrite m hi v) s fun t =>
      t.dev.resp = { master := m, code := .violation, data := 0 } ∧ t.dev.scored 58 ∧
      t.dev.word .SYS_TFORCE_LO = s.dev.word .SYS_TFORCE_LO ∧ t.dev.word .SYS_TFORCE_HI = s.dev.word .SYS_TFORCE_HI ∧
      SameOutside s.dev t.dev [.SYS 0, .FC, .PWR, .SAFE]) ∧
  (∀ (m : Nat) (hi : Bool) (v : Word) (s : State),
    let r := half hi .FC_SCORE_LO .FC_SCORE_HI
    Accepts (scoreWrite hi) m r v.toNat s.dev →
    Answers (.scoreClear m hi v) s fun t =>
      (∀ i < 32, bitAt (t.dev.word r) i =
        (bitAt (s.dev.word r) i && (!bitAt v.toNat i || s.dev.asserted (i + if hi then 32 else 0) ||
          s.dev.thisTick.latched.contains (i + if hi then 32 else 0)))) ∧
      SameRegs s.dev t.dev [r, .PG_ERR .FC]) ∧
  (∀ (m : Nat) (n : Fin 64) (v : Word) (s : State), Accepts (classWrite n) m (.FC_CLASS n) v.toNat s.dev →
    Answers (.classWrite m n v) s fun t =>
      t.dev.srcClass n = max (bitsOf v.toNat 0 3) (s.dev.rd (F.FC_CLASS_MIN n)) ∧
      (bitsOf v.toNat 0 3 < s.dev.rd (F.FC_CLASS_MIN n) → t.dev.bit (F.PG_ERR_BLK .FC) 1 = true) ∧
      (s.dev.asserted n = true → t.dev.scored n) ∧
      (s.dev.asserted n = false → SameRegs s.dev t.dev [.FC_CLASS n, .PG_ERR .FC]) ∧
      (s.dev.asserted n = true → s.dev.srcClass n = 3 → t.dev.fc.shedSince = s.dev.now) ∧
      SameRegsBut s.dev t.dev n [.PG_ERR .FC]) ∧
  (∀ (m : Nat) (s : State), Accepts (captureWrite .FC_FIRST none) m .FC_FIRST (2 ^ 31) s.dev →
    (∀ x ∈ s.dev.captures, x.1 = .FC_FIRST → x.2.1 ≠ s.dev.now) →
    Answers (.firstRelease m) s fun t =>
      t.dev.on F.FC_FIRST_VALID = false ∧ t.dev.rd F.FC_FIRST_SOURCE = s.dev.rd F.FC_FIRST_SOURCE ∧
      SameRegs s.dev t.dev [.FC_FIRST, .PG_ERR .FC]) ∧
  (∀ (s : State), s.dev.rd F.FC_STATE_STATE = 1 → s.dev.assertedFrom 4 = false →
    Answers .faultRecovery s fun t =>
      t.dev.rd F.FC_STATE_STATE = 0 ∧ t.dev.held = 0 ∧ t.dev.rd F.FC_STATE_LEVEL = 0 ∧
      t.dev.now = max s.dev.now (s.dev.fc.quietSince + s.dev.quietNs) ∧
      t.dev.fc.recoveries = t.dev.now :: s.dev.fc.recoveries ∧
      t.dev.rd F.FC_RECOVERIES_COUNT = satAdd (s.dev.rd F.FC_RECOVERIES_COUNT) 1 65535 ∧ t.dev.score = s.dev.score ∧
      (s.dev.time.stepCmd = 0 → SameRegs s.dev t.dev [.FC_STATE, .FC_HELD_LO, .FC_HELD_HI, .FC_RECOVERIES]))

/-- O39. Trips, blocks, ALIVE and the cores (R271, R282, R285 to R288, R371): an asserted trip stays for its least
time, and one that a reaction sets in the instant of its clearing stays set; the first write of `TRIP_CFG` enables the
drivers; the block command takes its mask; ALIVE toggles while its conditions hold and a kick restarts its window; a
miscompare halts the pair; a hung core and a cache error latch source 55. Where this rests on the model's choices: log
entries 9, 121, 122 and 125. -/
def Obligations.TripsAliveAndCores : Prop :=
  (∀ (m : Nat) (v : Word) (s : State), Accepts tripWrite m .SAFE_TRIP v.toNat s.dev →
    Answers (.tripWrite m v) s fun t =>
      (∀ i < 8, bitAt v.toNat i = true →
        t.dev.bit F.SAFE_TRIP_ASSERT i = true ∧ t.dev.bit F.SAFE_TRIP_STAT_PEND_CLR i = false ∧
        (s.dev.bit F.SAFE_TRIP_ASSERT i = false → mget 0 t.dev.fc.tripSetAt i = s.dev.now)) ∧
      (∀ i < 8, bitAt s.dev.thisTick.tripped i = true → t.dev.bit F.SAFE_TRIP_ASSERT i = true) ∧
      (∀ i < 8, (m ≠ 4 ∨ s.dev.srcClass 62 < 7) → bitAt s.dev.thisTick.tripped i = false →
        bitAt v.toNat i = false → s.dev.bit F.SAFE_TRIP_ASSERT i = true →
        if s.dev.now < mget 0 s.dev.fc.tripSetAt i + s.dev.rd F.SAFE_TRIP_CFG_MIN * 1000000
        then t.dev.bit F.SAFE_TRIP_ASSERT i = true ∧ t.dev.bit F.SAFE_TRIP_STAT_PEND_CLR i = true
        else t.dev.bit F.SAFE_TRIP_ASSERT i = false) ∧
      (∀ i < 8, (m ≠ 4 ∨ s.dev.srcClass 62 < 7) → bitAt s.dev.thisTick.tripped i = false →
        bitAt v.toNat i = false → s.dev.bit F.SAFE_TRIP_ASSERT i = false →
        t.dev.bit F.SAFE_TRIP_ASSERT i = false) ∧
      (∀ i < 8, m = 4 → bitAt v.toNat i = true → s.dev.bit F.SAFE_TRIP_ASSERT i = false → t.dev.scored 62) ∧
      (m ≠ 4 → SameRegs s.dev t.dev [.SAFE_TRIP, .SAFE_TRIP_STAT, .PG_ERR .SAFE])) ∧
  (∀ (n : Fin 8) (s : State), s.dev.bit F.SAFE_TRIP_STAT_PEND_CLR n = true →
    Answers (.tripMinExpire n) s fun t =>
      t.dev.bit F.SAFE_TRIP_ASSERT n = false ∧ t.dev.bit F.SAFE_TRIP_STAT_PEND_CLR n = false ∧
      t.dev.now = max s.dev.now (mget 0 s.dev.fc.tripSetAt n + s.dev.rd F.SAFE_TRIP_CFG_MIN * 1000000) ∧
      (∀ i < 8, i ≠ n.val → t.dev.bit F.SAFE_TRIP_ASSERT i = s.dev.bit F.SAFE_TRIP_ASSERT i ∧
        t.dev.bit F.SAFE_TRIP_STAT_PEND_CLR i = s.dev.bit F.SAFE_TRIP_STAT_PEND_CLR i) ∧
      SameRegs s.dev t.dev [.SAFE_TRIP, .SAFE_TRIP_STAT]) ∧
  (∀ (m : Nat) (v : Word) (s : State), Accepts tripCfgWrite m .SAFE_TRIP_CFG v.toNat s.dev →
    Answers (.tripCfgWrite m v) s fun t =>
      t.dev.rd F.SAFE_TRIP_CFG_MIN = bitsOf v.toNat 8 8 ∧ t.dev.rd F.SAFE_TRIP_CFG_POL = bitsOf v.toNat 0 8 ∧
      (∀ n < 8, s.dev.domUp domSAFE = true →
        t.dev.tripLevel n = some (s.dev.bit F.SAFE_TRIP_ASSERT n != bitAt v.toNat n)) ∧
      SameRegs s.dev t.dev [.SAFE_TRIP_CFG, .PG_ERR .SAFE]) ∧
  (∀ (m : Nat) (v : Word) (s : State),
    Accepts (landFirstWrite (plainEffect .SAFE_BLOCK)) m .SAFE_BLOCK v.toNat s.dev →
    Answers (.blockCommand m v) s fun t =>
      t.dev.rd F.SAFE_BLOCK_RIMS = v.toNat ∧ (∀ n < 32, bitAt v.toNat n = true → t.dev.blockInForce n = true) ∧
      (s.dev.time.stepCmd = 0 → t.dev.fc = s.dev.fc ∧ SameRegs s.dev t.dev [.SAFE_BLOCK, .PG_ERR .SAFE])) ∧
  (∀ (m : Nat) (v : Word) (s : State), Accepts aliveKickWrite m .SAFE_ALIVE_KICK v.toNat s.dev →
    Answers (.aliveKick m v) s fun t =>
      t.dev.fc.kickAt = s.dev.now ∧ t.dev.fc.aliveOn = true ∧ t.dev.fc.kickLate = false ∧
      SameRegs s.dev t.dev [.PG_ERR .SAFE]) ∧
  (∀ (s : State), s.dev.domUp domSAFE = true → s.dev.aliveHolds s.dev.now = true →
    s.dev.aliveHolds (max s.dev.now (s.dev.fc.aliveAt + s.dev.aliveHalf)) = true →
    Answers .aliveToggle s fun t =>
      t.dev.rd F.SAFE_ALIVE_LEVEL = 1 - s.dev.rd F.SAFE_ALIVE_LEVEL ∧
      t.dev.now = max s.dev.now (s.dev.fc.aliveAt + s.dev.aliveHalf) ∧ t.dev.fc.aliveAt = t.dev.now ∧
      SameRegs s.dev t.dev [.SAFE_ALIVE]) ∧
  (∀ (s : State), s.dev.on F.SAFE_ALIVE_KICK_EN = true → s.dev.fc.kickLate = false →
    Answers .kickExpire s fun t =>
      t.dev.scored 63 ∧ t.dev.fc.kickLate = true ∧
      t.dev.now = max s.dev.now (s.dev.fc.kickAt + max 1 (s.dev.rd F.SAFE_ALIVE_KICK_WIN) * 1000000) ∧
      SameRegsBut s.dev t.dev 63 []) ∧
  (∀ (s : State), s.dev.on F.PROT_STAT_RUNNING = true → s.dev.on F.PROT_STAT_HALTED = false →
    Answers .lockstepMiscompare s fun t =>
      t.dev.on F.PROT_STAT_HALTED = true ∧ t.dev.on F.PROT_STAT_RUNNING = false ∧ t.dev.scored 56 ∧
      t.dev.rd F.PROT_STAT_MISCOMPARES = satAdd (s.dev.rd F.PROT_STAT_MISCOMPARES) 1 65535 ∧ t.dev.canIssue 4 = false ∧
      SameRegsBut s.dev t.dev 56 [.PROT_STAT]) ∧
  (∀ (core : Fin 4) (s : State), s.dev.coreRuns core = true →
    Answers (.svcHang core) s fun t =>
      t.dev.bit F.SYS_SVCFLT_HANG core = true ∧ t.dev.scored 55 ∧
      t.dev.rd F.SYS_SVCFLT_CACHE = s.dev.rd F.SYS_SVCFLT_CACHE ∧ SameRegsBut s.dev t.dev 55 [.SYS_SVCFLT]) ∧
  (∀ (core : Fin 4) (l2 : Bool) (s : State), s.dev.coreRuns core = true →
    Answers (.svcCacheError core l2) s fun t =>
      t.dev.resp = { master := core, code := .data, data := 0 } ∧
      t.dev.bit F.SYS_SVCFLT_CACHE (if l2 then 3 else core) = true ∧ t.dev.scored 55 ∧
      SameRegsBut s.dev t.dev 55 [.SYS_SVCFLT])

/-- O40. Temperatures (R291 to R297): all sensors are sampled together; a sample is judged 2 us later; a sensor out of
range is FAILED and stays so; the maximum of 24 VALID sensors is the greatest reading; source 49 stands from 160
degrees; the shutdown of a latched source 49 goes to HIBERNATE; throttle levels are plain fields. Where this rests on
the model's choices: log entries 9, 114 and 115. -/
def Obligations.Temperatures : Prop :=
  (∀ (l : List (BitVec 16)) (s : State), s.dev.senses = true → s.dev.therm.sampled = false →
    Answers (.thermSample l) s fun t =>
      t.dev.therm.sample = l.map (fun x => x.toInt) ∧ t.dev.therm.sampled = true ∧
      t.dev.now = max s.dev.now (s.dev.therm.sampleAt + 50000) ∧ t.dev.therm.sampleAt = t.dev.now ∧
      t.dev.regs = s.dev.regs) ∧
  (∀ (s : State), s.dev.senses = true → s.dev.therm.sampled = true →
    let r := readingOf s.dev.therm.sample
    Answers .thermJudge s fun t =>
      t.dev.therm.sampled = false ∧ t.dev.now = max s.dev.now (s.dev.therm.sampleAt + 2000) ∧
      (∀ n < 24, (s.dev.rd (F.THERM_TS_STATE n) = 2 ∨ r n < -800 ∨ 2800 < r n) → t.dev.rd (F.THERM_TS_STATE n) = 2) ∧
      (∀ n < 24, -800 ≤ r n → r n ≤ 2800 → t.dev.rdInt (F.THERM_TS_TEMP n) = r n) ∧
      (∀ n < 24, ∀ x : Int, s.dev.rd (F.THERM_TS_STATE n) ≠ 2 → -800 ≤ r n → r n ≤ 2800 →
        (∀ k ∈ neighbours n, s.dev.rd (F.THERM_TS_STATE k) ≠ 2 ∧ r k = x) →
        if (r n - x).natAbs ≤ 320
        then t.dev.rd (F.THERM_TS_STATE n) = 0 ∧ t.dev.rd (F.THERM_TS_DEVCNT n) = 0
        else t.dev.rd (F.THERM_TS_DEVCNT n) = min 16 (s.dev.rd (F.THERM_TS_DEVCNT n) + 1) ∧
          t.dev.rd (F.THERM_TS_STATE n) = if 15 ≤ s.dev.rd (F.THERM_TS_DEVCNT n) then 2 else 1) ∧
      (bitAt t.dev.fc.cond 48 = true ↔ ∃ n < 24, t.dev.rd (F.THERM_TS_STATE n) = 2) ∧
      (bitAt t.dev.fc.cond 49 = true ↔ 2560 ≤ t.dev.rdInt F.THERM_MAX_TEMP) ∧
      ((∀ n < 24, t.dev.rd (F.THERM_TS_STATE n) = 0) →
        (∀ n < 24, r n ≤ t.dev.rdInt F.THERM_MAX_TEMP) ∧ t.dev.rd F.THERM_MAX_SENSOR < 24 ∧
        t.dev.rdInt F.THERM_MAX_TEMP = r (t.dev.rd F.THERM_MAX_SENSOR) ∧ t.dev.on F.THERM_MAX_SUBST = false) ∧
      (s.dev.pwr.cooling = 0 → SameOutside s.dev t.dev [.THERM, .FC, .PWR, .SAFE])) ∧
  (∀ (s : State), s.dev.therm.shutPend = true →
    Answers .shutdownHibernate s fun t =>
      t.dev.on F.THERM_STAT_SHUTDOWN = true ∧ t.dev.therm.shutPend = false ∧
      t.dev.now = max s.dev.now (s.dev.therm.shutAt + 20000) ∧
      (s.dev.rd F.PWR_STATE_CUR ≠ 3 →
        t.dev.on F.PWR_STATE_BUSY = true ∧ t.dev.pwr.target = 3 ∧ t.dev.pwr.cause = 4 ∧ t.dev.pwr.powerBlock = true ∧
        t.dev.pwr.loopsHeld = true) ∧
      SameRegs s.dev t.dev [.THERM_STAT, .PWR_STATE, .PG_PROG .PWR, .PG_STAT .PWR]) ∧
  (∀ (m : Nat) (v : Word) (s : State), Accepts (throttleWrite .THERM_THROTTLE) m .THERM_THROTTLE v.toNat s.dev →
    Answers (.throttleWrite m v) s fun t =>
      t.dev.rd F.THERM_THROTTLE_LEVEL = bitsOf v.toNat 0 3 ∧ t.dev.rd F.THERM_THROTTLE_REQ_EN = bitsOf v.toNat 8 1 ∧
      t.dev.throttle = (if bitAt v.toNat 8 then max (bitsOf v.toNat 0 3) (s.dev.rd F.SYS_THROTTLE_REQ_LEVEL)
        else bitsOf v.toNat 0 3) ∧
      SameRegs s.dev t.dev [.THERM_THROTTLE, .PG_ERR .THERM]) ∧
  (∀ (m : Nat) (v : Word) (s : State), Accepts (throttleWrite .SYS_THROTTLE_REQ) m .SYS_THROTTLE_REQ v.toNat s.dev →
    s.dev.basicLocked (.SYS 0) = false →
    Answers (.throttleReq m v) s fun t =>
      t.dev.rd F.SYS_THROTTLE_REQ_LEVEL = bitsOf v.toNat 0 3 ∧
      SameRegs s.dev t.dev [.SYS_THROTTLE_REQ, .PG_ERR (Reg.SYS_THROTTLE_REQ).page])

/-- O41. Memories and their scrubbers (R300 to R306): a zero-fill leaves zeros in its range and makes it ready; a
scrubber reads its words in order, counts what it corrects and reports what it cannot; a corrected word is written
back; a write of 1 to `ECC_INFO.VALID` releases the capture. Where this rests on the model's choices: log entries 8,
82, 83, 84 and 130. -/
def Obligations.MemoriesAndScrubbers : Prop :=
  (∀ (x : Nat) (s : State), s.dev.memory.clearAt = some x →
    Answers (.sramClearDone false) s fun t =>
      t.dev.now = max s.dev.now (x + s.dev.busNs 786432) ∧ t.dev.memory.sramOk = true ∧ t.dev.memory.clearAt = none ∧
      t.dev.on (F.PG_STAT_READY (.SYS 1)) = true ∧
      (∀ a, sramBase ≤ a → a < sramBase + 0x1800000 → memGet t.mem a = 0) ∧
      (∀ w ∈ t.dev.memory.bad, w < sramBase ∨ sramBase + 0x1800000 ≤ w) ∧
      (∀ a, a < sramBase ∨ sramBase + 0x1800000 ≤ a → memGet t.mem a = memGet s.mem a) ∧
      SameRegs s.dev t.dev [.PG_STAT (.SYS 1), .PG_PROG (.SYS 1)]) ∧
  (∀ (x : Nat) (s : State), s.dev.rst.safeClearAt = some x →
    Answers (.sramClearDone true) s fun t =>
      t.dev.now = max s.dev.now (x + 294912) ∧ t.dev.rst.safeReady = true ∧ t.dev.rst.stgReady = true ∧
      (∀ a, safetyBase ≤ a → a < safetyBase + 0x80000 → memGet t.mem a = 0) ∧
      (∀ a, stagingBase ≤ a → a < stagingBase + 0x10000 →
        memGet t.mem a = if s.dev.rst.stgReady then memGet s.mem a else 0) ∧
      (∀ a, a < safetyBase ∨ stagingBase + 0x10000 ≤ a → memGet t.mem a = memGet s.mem a) ∧
      t.dev.regs = s.dev.regs) ∧
  (∀ (err : Option Bool) (s : State), s.dev.on F.SYS_SCRUB_CFG_EN = true → s.dev.domUp domMEM = true →
    s.dev.busRuns = true → s.dev.memory.sramOk = true →
    let i := if s.dev.memory.scrub < s.dev.scrubWords then s.dev.memory.scrub else 0
    let w := physAddr (scrubAddr i)
    Answers (.scrubStep err) s fun t =>
      t.dev.memory.scrub = (i + 1) % s.dev.scrubWords ∧
      t.dev.now = max s.dev.now (s.dev.memory.scrubAt + s.dev.busNs (max 1 (s.dev.rd F.SYS_SCRUB_CFG_STRIDE))) ∧
      t.dev.rd F.SYS_SCRUB_STAT_PASSES =
        (s.dev.rd F.SYS_SCRUB_STAT_PASSES + if i + 1 = s.dev.scrubWords then 1 else 0) % 2 ^ 16 ∧
      (err = some true → t.dev.scored 52 ∧ w ∈ t.dev.memory.bad ∧
        t.dev.rd F.SYS_ECC_CNT_UNCORR = satAdd (s.dev.rd F.SYS_ECC_CNT_UNCORR) 1 65535) ∧
      (err = some false → w ∉ s.dev.memory.bad →
        t.dev.rd F.SYS_ECC_CNT_CORR = satAdd (s.dev.rd F.SYS_ECC_CNT_CORR) 1 65535 ∧ w ∉ t.dev.memory.fixing) ∧
      (err = none → w ∉ s.dev.memory.bad → w ∉ s.dev.memory.fixing →
        t.dev.memory.bad = s.dev.memory.bad ∧ t.dev.score = s.dev.score ∧
        t.dev.word .SYS_ECC_CNT = s.dev.word .SYS_ECC_CNT) ∧
      SameOutside s.dev t.dev [.SYS 0, .IR 0, .FC, .PWR, .SAFE] ∧ t.mem = s.mem) ∧
  (∀ (err : Option Bool) (s : State), s.dev.domUp domSAFE = true → s.dev.safeRuns = true →
    s.dev.rst.safeReady = true →
    let w := physAddr (safetyScrubAddr s.dev.memory.sscrub)
    Answers (.safetyScrubStep err) s fun t =>
      t.dev.memory.sscrub = (s.dev.memory.sscrub + 1) % 73728 ∧
      t.dev.now = max s.dev.now (s.dev.memory.sscrubAt + 256) ∧
      (err = some true → t.dev.scored 52 ∧ w ∈ t.dev.memory.bad) ∧
      (s.dev.domUp domMEM = true → t.dev.rd F.SYS_SCRUB_STAT_SPASSES =
        (s.dev.rd F.SYS_SCRUB_STAT_SPASSES + if s.dev.memory.sscrub = 73727 then 1 else 0) % 2 ^ 16) ∧
      (err = none → w ∉ s.dev.memory.bad → w ∉ s.dev.memory.fixing →
        SameRegs s.dev t.dev [.SYS_SCRUB_STAT])) ∧
  (∀ (s : State), Answers .eccWriteback s fun t =>
    t.dev.memory.fixing = s.dev.memory.fixing.dropLast ∧ t.dev.memory.bad = s.dev.memory.bad ∧
      t.dev.regs = s.dev.regs) ∧
  (∀ (m : Nat) (s : State),
    Accepts (captureWrite .SYS_ECC_INFO (some F.SYS_ECC_INFO_COUNT)) m .SYS_ECC_INFO (2 ^ 31) s.dev →
    (∀ e ∈ s.dev.captures, e.1 = .SYS_ECC_INFO → e.2.1 ≠ s.dev.now) →
    Answers (.eccRelease m) s fun t =>
      t.dev.rd F.SYS_ECC_INFO_VALID = 0 ∧ t.dev.rd F.SYS_ECC_INFO_COUNT = 0 ∧
      SameRegs s.dev t.dev [.SYS_ECC_INFO, .PG_ERR (.SYS 0)])

/-- O42. The flash interface (R308, R309): an accepted command makes it BUSY and moves the bytes there is room for; a
command while BUSY, a length its KIND does not take, and PROG or ERASE of the booted bank under PROT_BOOTED are
refused with their causes; the FIFO gives and takes four bytes an access; the command ends with DONE, or with TIMEOUT.
Where this rests on the model's choices: log entries 77 to 81. -/
def Obligations.FlashInterface : Prop :=
  (∀ (m : Nat) (v : Word) (data : List (BitVec 8)) (s : State), (Instr.xspiRead m v data).wf = true →
    Accepts (xspiCmdWrite data) m .XSPI_CMD v.toNat s.dev → s.dev.basicLocked .XSPI = false →
    s.dev.on F.XSPI_STAT_BUSY = false → s.dev.xspi.fifo = [] →
    let len := s.dev.rd F.XSPI_LEN_VAL
    xspiLenOk 0 0 0 len = true → min len 256 ≤ data.length →
    Answers (.xspiRead m v data) s fun t =>
      t.dev.on F.XSPI_STAT_BUSY = true ∧ t.dev.xspi.fifo = data.take (min len 256) ∧
      t.dev.rd F.XSPI_STAT_LEVEL = min len 256 ∧
      (∃ c, t.dev.xspi.cmd = some c ∧ c.kind = 0 ∧ c.left = len - min len 256 ∧
        c.addr = some (s.dev.rd F.XSPI_ADDR_VAL)) ∧
      SameRegs s.dev t.dev [.XSPI_CMD, .XSPI_STAT, .PG_ERR .XSPI]) ∧
  (∀ (m : Nat) (v : Word) (data : List (BitVec 8)) (s : State), (Instr.xspiRegRd m v data).wf = true →
    Accepts (xspiCmdWrite data) m .XSPI_CMD v.toNat s.dev → s.dev.basicLocked .XSPI = false →
    s.dev.on F.XSPI_STAT_BUSY = false → s.dev.xspi.fifo = [] →
    let len := s.dev.rd F.XSPI_LEN_VAL
    1 ≤ len → len ≤ 8 → len ≤ data.length →
    Answers (.xspiRegRd m v data) s fun t =>
      t.dev.on F.XSPI_STAT_BUSY = true ∧ t.dev.xspi.fifo = data.take len ∧ t.dev.rd F.XSPI_STAT_LEVEL = len ∧
      (∃ c, t.dev.xspi.cmd = some c ∧ c.kind = 3 ∧ c.left = 0 ∧
        c.addr = if bitAt v.toNat 27 then some (s.dev.rd F.XSPI_ADDR_VAL) else none) ∧
      SameRegs s.dev t.dev [.XSPI_CMD, .XSPI_STAT, .PG_ERR .XSPI]) ∧
  (∀ (m : Nat) (v : Word) (s : State), (Instr.xspiProg m v).wf = true →
    Accepts (xspiCmdWrite []) m .XSPI_CMD v.toNat s.dev → s.dev.basicLocked .XSPI = false →
    s.dev.on F.XSPI_STAT_BUSY = false →
    let len := s.dev.rd F.XSPI_LEN_VAL
    let addr := s.dev.rd F.XSPI_ADDR_VAL
    let n := min len s.dev.xspi.fifo.length
    xspiLenOk 1 addr (s.dev.rd F.XSPI_CFG_PAGE) len = true →
    (s.dev.on F.XSPI_CFG_PROT_BOOTED = false ∨ s.dev.inBooted addr len = false) →
    Answers (.xspiProg m v) s fun t =>
      t.dev.on F.XSPI_STAT_BUSY = true ∧ t.dev.xspi.fifo = s.dev.xspi.fifo.drop n ∧
      (∃ c, t.dev.xspi.cmd = some c ∧ c.kind = 1 ∧ c.left = len - n ∧ c.sent = s.dev.xspi.fifo.take n ∧
        c.addr = some addr) ∧ SameRegs s.dev t.dev [.XSPI_CMD, .XSPI_STAT, .PG_ERR .XSPI]) ∧
  (∀ (m : Nat) (v : Word) (s : State), (Instr.xspiProg m v).wf = true →
    Accepts (xspiCmdWrite []) m .XSPI_CMD v.toNat s.dev → s.dev.basicLocked .XSPI = false →
    s.dev.on F.XSPI_STAT_BUSY = false →
    let len := s.dev.rd F.XSPI_LEN_VAL
    let addr := s.dev.rd F.XSPI_ADDR_VAL
    xspiLenOk 1 addr (s.dev.rd F.XSPI_CFG_PAGE) len = true → s.dev.on F.XSPI_CFG_PROT_BOOTED = true →
    s.dev.inBooted addr len = true →
    Answers (.xspiProg m v) s fun t =>
      t.dev.bit (F.PG_ERR_BLK .XSPI) 1 = true ∧ t.dev.xspi = s.dev.xspi ∧
      SameRegs s.dev t.dev [.XSPI_CMD, .PG_ERR .XSPI]) ∧
  (∀ (m : Nat) (v : Word) (s : State), (Instr.xspiErase m v).wf = true →
    Accepts (xspiCmdWrite []) m .XSPI_CMD v.toNat s.dev → s.dev.basicLocked .XSPI = false →
    s.dev.on F.XSPI_STAT_BUSY = false →
    let addr := s.dev.rd F.XSPI_ADDR_VAL
    Answers (.xspiErase m v) s fun t =>
      if s.dev.on F.XSPI_CFG_PROT_BOOTED = true ∧ s.dev.inBooted addr 1 = true
      then t.dev.bit (F.PG_ERR_BLK .XSPI) 1 = true ∧ t.dev.xspi = s.dev.xspi ∧ SameRegs s.dev t.dev [.XSPI_CMD,
        .PG_ERR .XSPI]
      else t.dev.on F.XSPI_STAT_BUSY = true ∧ t.dev.xspi.fifo = s.dev.xspi.fifo ∧
        (∃ c, t.dev.xspi.cmd = some c ∧ c.kind = 2 ∧ c.left = 0 ∧ c.addr = some addr) ∧
        SameRegs s.dev t.dev [.XSPI_CMD, .XSPI_STAT, .PG_ERR .XSPI]) ∧
  (∀ (m : Nat) (v : Word) (s : State), (Instr.xspiRegWr m v).wf = true →
    Accepts (xspiCmdWrite []) m .XSPI_CMD v.toNat s.dev → s.dev.basicLocked .XSPI = false →
    s.dev.on F.XSPI_STAT_BUSY = false → s.dev.rd F.XSPI_LEN_VAL ≤ 8 →
    let n := min (s.dev.rd F.XSPI_LEN_VAL) s.dev.xspi.fifo.length
    Answers (.xspiRegWr m v) s fun t =>
      t.dev.on F.XSPI_STAT_BUSY = true ∧ t.dev.xspi.fifo = s.dev.xspi.fifo.drop n ∧
      (∃ c, t.dev.xspi.cmd = some c ∧ c.kind = 4 ∧ c.sent = s.dev.xspi.fifo.take n ∧
        c.left = s.dev.rd F.XSPI_LEN_VAL - n) ∧ SameRegs s.dev t.dev [.XSPI_CMD, .XSPI_STAT, .PG_ERR .XSPI]) ∧
  (∀ (m : Nat) (v : Word) (data : List (BitVec 8)) (s : State) (c : Instr) (kind : Nat), c.wf = true →
    Accepts (xspiCmdWrite data) m .XSPI_CMD v.toNat s.dev → s.dev.basicLocked .XSPI = false →
    s.dev.on F.XSPI_STAT_BUSY = false →
    xspiLenOk kind (s.dev.rd F.XSPI_ADDR_VAL) (s.dev.rd F.XSPI_CFG_PAGE) (s.dev.rd F.XSPI_LEN_VAL) = false →
    (c = .xspiRead m v data ∧ kind = 0) ∨ (c = .xspiRegRd m v data ∧ kind = 3) →
    Answers c s fun t => t.dev.bit (F.PG_ERR_BLK .XSPI) 2 = true ∧ t.dev.xspi = s.dev.xspi ∧
      SameRegs s.dev t.dev [.XSPI_CMD, .PG_ERR .XSPI]) ∧
  (∀ (m : Nat) (v : Word) (s : State) (c : Instr) (kind : Nat), c.wf = true →
    Accepts (xspiCmdWrite []) m .XSPI_CMD v.toNat s.dev → s.dev.basicLocked .XSPI = false →
    s.dev.on F.XSPI_STAT_BUSY = false →
    xspiLenOk kind (s.dev.rd F.XSPI_ADDR_VAL) (s.dev.rd F.XSPI_CFG_PAGE) (s.dev.rd F.XSPI_LEN_VAL) = false →
    (c = .xspiProg m v ∧ kind = 1) ∨ (c = .xspiRegWr m v ∧ kind = 4) →
    Answers c s fun t => t.dev.bit (F.PG_ERR_BLK .XSPI) 2 = true ∧ t.dev.xspi = s.dev.xspi ∧
      SameRegs s.dev t.dev [.XSPI_CMD, .PG_ERR .XSPI]) ∧
  (∀ (m : Nat) (v : Word) (data : List (BitVec 8)) (s : State),
    Accepts (xspiCmdWrite data) m .XSPI_CMD v.toNat s.dev → s.dev.on F.XSPI_STAT_BUSY = true →
    (∀ c, c = Instr.xspiRead m v data ∨ c = .xspiRegRd m v data →
      Answers c s fun t => t.dev.bit (F.PG_ERR_BLK .XSPI) 0 = true ∧ t.dev.xspi = s.dev.xspi ∧
        SameRegs s.dev t.dev [.PG_ERR .XSPI])) ∧
  (∀ (m : Nat) (v : Word) (s : State),
    Accepts (xspiCmdWrite []) m .XSPI_CMD v.toNat s.dev → s.dev.on F.XSPI_STAT_BUSY = true →
    (∀ c, c = Instr.xspiProg m v ∨ c = .xspiErase m v ∨ c = .xspiRegWr m v →
      Answers c s fun t => t.dev.bit (F.PG_ERR_BLK .XSPI) 0 = true ∧ t.dev.xspi = s.dev.xspi ∧
        SameRegs s.dev t.dev [.PG_ERR .XSPI])) ∧
  (∀ (m : Nat) (s : State), Reads m .XSPI_DATA s.dev → s.dev.xspi.cmd = none → 4 ≤ s.dev.xspi.fifo.length →
    s.dev.xspi.fifo.length ≤ 256 →
    Answers (.xspiDataPop m) s fun t =>
      t.dev.resp = { master := m, code := .okay, data := ofLeBytes (s.dev.xspi.fifo.take 4) } ∧
      t.dev.xspi.fifo = s.dev.xspi.fifo.drop 4 ∧ t.dev.rd F.XSPI_STAT_LEVEL = s.dev.xspi.fifo.length - 4 ∧
      SameRegs s.dev t.dev [.XSPI_STAT]) ∧
  (∀ (m : Nat) (s : State), Reads m .XSPI_DATA s.dev → s.dev.xspi.fifo.length < 4 →
    Answers (.xspiDataPop m) s fun t =>
      t.dev.resp = { master := m, code := .okay, data := 0 } ∧ t.dev.bit (F.PG_ERR_BLK .XSPI) 3 = true ∧
      t.dev.xspi = s.dev.xspi ∧ SameRegs s.dev t.dev [.PG_ERR .XSPI]) ∧
  (∀ (m : Nat) (v : Word) (s : State), Accepts xspiDataWrite m .XSPI_DATA v.toNat s.dev → s.dev.xspi.cmd = none →
    Answers (.xspiDataPush m v) s fun t =>
      if s.dev.xspi.fifo.length ≤ 252
      then t.dev.xspi.fifo = s.dev.xspi.fifo ++ leBytes 4 v.toNat ∧
        t.dev.rd F.XSPI_STAT_LEVEL = s.dev.xspi.fifo.length + 4 ∧ SameRegs s.dev t.dev [.XSPI_STAT, .PG_ERR .XSPI]
      else t.dev.xspi = s.dev.xspi ∧ t.dev.bit (F.PG_ERR_BLK .XSPI) 4 = true ∧
        SameRegs s.dev t.dev [.PG_ERR .XSPI]) ∧
  (∀ (c : XspiCmd) (s : State), s.dev.xspi.cmd = some c → c.left = 0 →
    Answers .xspiCmdDone s fun t =>
      t.dev.on F.XSPI_STAT_BUSY = false ∧ t.dev.on F.XSPI_STAT_DONE = true ∧ t.dev.xspi.cmd = none ∧
      (s.dev.domUp domMEM = true → t.dev.on (F.IR_SRC_ROUTE_PEND 132) = true) ∧
      SameRegs s.dev t.dev [.XSPI_STAT, .IR_SRC_ROUTE 132]) ∧
  (∀ (c : XspiCmd) (s : State), s.dev.xspi.cmd = some c → c.left = 0 → (c.kind = 1 ∨ c.kind = 2) →
    Answers .xspiPollTimeout s fun t =>
      t.dev.on F.XSPI_STAT_BUSY = false ∧ t.dev.on F.XSPI_STAT_TIMEOUT = true ∧
      t.dev.on F.XSPI_STAT_DONE = s.dev.on F.XSPI_STAT_DONE ∧ t.dev.xspi.cmd = none ∧
      t.dev.now = max s.dev.now (c.pollAt + 4000000000) ∧ SameRegs s.dev t.dev [.XSPI_STAT, .IR_SRC_ROUTE 132])

/-- O43. DMA commands and arbitration (R313, R314, R315, R316, R319): START of an idle channel goes to FETCH and is
refused for a running one, with all that its word asks for; a trigger starts a waiting descriptor or is kept, and a
second one is counted; an abort goes to the write-back where no burst is in flight; the engine serves channels below
their floor first, then by priority; the end of a window judges every floor. Where this rests on the model's choices:
log entries 85 and 88. -/
def Obligations.DmaCommandsAndChoice : Prop :=
  (∀ (m : Nat) (h : Fin 32) (v : Word) (s : State), (Instr.dmaStart m h v).wf = true →
    Accepts (dmaCtrlWrite h) m (.DMA_CH_CTRL h) v.toNat s.dev → s.dev.on (F.DMA_CH_STAT_RUN h) = false →
    (bitAt v.toNat 1 = false ∨ s.dev.chState h = 0) →
    Answers (.dmaStart m h v) s fun t =>
      t.dev.on (F.DMA_CH_STAT_RUN h) = true ∧ t.dev.chState h = 1 ∧ t.dev.rd (F.DMA_CH_STAT_HOPS h) = 0 ∧
      (t.dev.chan h).at_ = s.dev.rd (F.DMA_CH_DESC_ADDR h) ∧ (t.dev.chan h).desc = none ∧ (t.dev.chan h).abort = false ∧
      (∀ k < 32, k ≠ h.val → t.dev.chan k = s.dev.chan k) ∧
      t.dev.on (F.DMA_CH_STAT_TRGPEND h) = (s.dev.on (F.DMA_CH_STAT_TRGPEND h) || bitAt v.toNat 2) ∧
      (bitAt v.toNat 2 = false → t.dev.rd (F.DMA_CH_CNT_TRGOVR h) = s.dev.rd (F.DMA_CH_CNT_TRGOVR h)) ∧
      SameRegs s.dev t.dev [.DMA_CH_CTRL h, .DMA_CH_STAT h, .DMA_CH_CNT h, .PG_ERR (chanPage h)]) ∧
  (∀ (m : Nat) (h : Fin 32) (v : Word) (c : Instr) (s : State),
    Accepts (dmaCtrlWrite h) m (.DMA_CH_CTRL h) v.toNat s.dev → s.dev.on (F.DMA_CH_STAT_RUN h) = true →
    bitAt v.toNat 0 = true → c = .dmaStart m h v ∨ c = .dmaSwtrig m h v ∨ c = .dmaAbort m h v →
    Answers c s fun t =>
      t.dev.bit (F.PG_ERR_BLK (chanPage h)) 0 = true ∧ t.dev.dma = s.dev.dma ∧
      SameRegs s.dev t.dev [.PG_ERR (chanPage h)]) ∧
  (∀ (m : Nat) (h : Fin 32) (v : Word) (x : Desc) (s : State), (Instr.dmaSwtrig m h v).wf = true →
    Accepts (dmaCtrlWrite h) m (.DMA_CH_CTRL h) v.toNat s.dev → bitAt v.toNat 0 = false → bitAt v.toNat 1 = false →
    s.dev.chState h = 2 → (s.dev.chan h).desc = some x →
    Answers (.dmaSwtrig m h v) s fun t =>
      t.dev.chState h = 3 ∧ (t.dev.chan h).src = x.src ∧ (t.dev.chan h).dst = x.dst ∧ (t.dev.chan h).toIssue = x.count ∧
      SameRegs s.dev t.dev [.DMA_CH_CTRL h, .DMA_CH_STAT h, .PG_ERR (chanPage h)]) ∧
  (∀ (m : Nat) (h : Fin 32) (v : Word) (s : State), (Instr.dmaSwtrig m h v).wf = true →
    Accepts (dmaCtrlWrite h) m (.DMA_CH_CTRL h) v.toNat s.dev → bitAt v.toNat 0 = false → bitAt v.toNat 1 = false →
    s.dev.chState h ≠ 2 →
    Answers (.dmaSwtrig m h v) s fun t =>
      t.dev.on (F.DMA_CH_STAT_TRGPEND h) = true ∧
      t.dev.rd (F.DMA_CH_CNT_TRGOVR h) = satAdd (s.dev.rd (F.DMA_CH_CNT_TRGOVR h))
        (if s.dev.on (F.DMA_CH_STAT_TRGPEND h) then 1 else 0) 255 ∧
      t.dev.dma = s.dev.dma ∧
      SameRegs s.dev t.dev [.DMA_CH_CTRL h, .DMA_CH_STAT h, .DMA_CH_CNT h, .PG_ERR (chanPage h)]) ∧
  (∀ (m : Nat) (h : Fin 32) (v : Word) (s : State), (Instr.dmaAbort m h v).wf = true →
    Accepts (dmaCtrlWrite h) m (.DMA_CH_CTRL h) v.toNat s.dev → bitAt v.toNat 0 = false → bitAt v.toNat 2 = false →
    Answers (.dmaAbort m h v) s fun t =>
      (s.dev.chState h = 0 → t.dev.dma = s.dev.dma ∧ t.dev.chState h = 0) ∧
      (s.dev.chState h = 1 → (t.dev.chan h).abort = true ∧ t.dev.chState h = 1) ∧
      (s.dev.chState h = 2 → (t.dev.chan h).abort = true ∧ t.dev.chState h = 4) ∧
      (s.dev.chState h = 3 → (t.dev.chan h).abort = true ∧ (t.dev.chan h).bursts = (s.dev.chan h).bursts ∧
        t.dev.chState h = if (s.dev.chan h).bursts.isEmpty then 4 else 3) ∧
      (s.dev.chState h = 4 → (t.dev.chan h).lateAbort = true ∧ (t.dev.chan h).abort = (s.dev.chan h).abort ∧
        t.dev.chState h = 4) ∧
      (s.dev.chState h ≠ 0 → t.dev.on (F.DMA_CH_CTRL_ABORT h) = true) ∧
      SameRegs s.dev t.dev [.DMA_CH_CTRL h, .DMA_CH_STAT h, .PG_ERR (chanPage h)]) ∧
  (∀ (h : Nat) (x : Desc) (s : State), s.dev.inFlight < 8 → s.dev.dmaClocked = true → s.dev.nextChan = some h →
    (s.dev.chan h).desc = some x →
    Answers .dmaBurst s fun t =>
      let n := (s.dev.chan h).burstLen
      (∀ k ∈ s.dev.mayIssue, s.dev.belowFloor h = s.dev.belowFloor k →
        s.dev.rd (F.DMA_CH_CTRL_PRIO k) ≤ s.dev.rd (F.DMA_CH_CTRL_PRIO h)) ∧
      (s.dev.belowFloor h = false → ∀ k ∈ s.dev.mayIssue, s.dev.belowFloor k = false) ∧
      (t.dev.chan h).bursts = (s.dev.chan h).bursts ++ [{ src := (s.dev.chan h).src, dst := (s.dev.chan h).dst, len :=
        n }] ∧
      (t.dev.chan h).toIssue = (s.dev.chan h).toIssue - n ∧ (t.dev.chan h).moved = (s.dev.chan h).moved + n ∧
      (∀ k, k ≠ h → (t.dev.chan k).bursts = (s.dev.chan k).bursts) ∧ t.dev.regs = s.dev.regs ∧ t.mem = s.mem) ∧
  (∀ (s : State), s.dev.dmaClocked = true →
    Answers .dmaWindowEnd s fun t =>
      t.dev.now = max s.dev.now (s.dev.dma.winAt + 1000 * max 1 (s.dev.rd F.DMA_CFG_WIN)) ∧
      t.dev.dma.winAt = t.dev.now ∧ t.dev.dma.inWin = 0 ∧ t.mem = s.mem ∧
      SameOutside s.dev t.dev [.DMA 0, .IR 0, .FC, .PWR, .SAFE] ∧
      ∀ h < 32, (t.dev.chan h).moved = 0 ∧ (t.dev.chan h).bursts = (s.dev.chan h).bursts ∧
        t.dev.on (F.DMA_CH_STAT_FLOOR_MISS h) =
          (decide (0 < s.dev.dma.inWin) && (s.dev.chan h).always && s.dev.belowFloor h) ∧
        (t.dev.on (F.DMA_CH_STAT_FLOOR_MISS h) = true → t.dev.on (F.DMA_CH_EVT_FLOOR h) = true ∧ t.dev.scored 54))

/-- O44. What the DMA engine moves (R310 to R312, R315 to R318): a fetched descriptor is taken up, one that breaks a
rule goes to its write-back, and a limit of hops or a bad place ends the chain; a read beat takes its bytes off the
count; a write beat stores the bytes read, and those alone; the write-back stores STATUS and CRC, and leads to the
next descriptor or the end of the chain. Where this rests on the model's choices: log entries 58 and 90 to 93. -/
def Obligations.DmaMoves : Prop :=
  (∀ (h : Fin 32) (errs : List EccErr) (s : State), s.dev.chState h = 1 → s.dev.dmaClocked = true →
    s.dev.canIssue (chanMaster h) = true → s.dev.rd (F.DMA_CH_STAT_HOPS h) = s.dev.hopLimit h →
    Answers (.dmaFetch h errs) s fun t =>
      t.dev.on (F.DMA_CH_STAT_RUN h) = false ∧ t.dev.chState h = 0 ∧ t.dev.rd (F.DMA_CH_STAT_CODE h) = 7 ∧
      t.dev.on (F.DMA_CH_EVT_ERR h) = true ∧ t.dev.scored 54 ∧ t.mem = s.mem ∧
      SameOutside s.dev t.dev [.DMA 0, .IR 0, .FC, .PWR, .SAFE]) ∧
  (∀ (h : Fin 32) (errs : List EccErr) (s : State), s.dev.chState h = 1 → s.dev.dmaClocked = true →
    s.dev.canIssue (chanMaster h) = true → s.dev.rd (F.DMA_CH_STAT_HOPS h) ≠ s.dev.hopLimit h →
    descPlace (s.dev.chan h).at_ = false →
    Answers (.dmaFetch h errs) s fun t =>
      t.dev.on (F.DMA_CH_STAT_RUN h) = false ∧ t.dev.chState h = 0 ∧ t.dev.rd (F.DMA_CH_STAT_CODE h) = 8 ∧
      t.dev.on (F.DMA_CH_EVT_ERR h) = true ∧ t.mem = s.mem ∧ SameOutside s.dev t.dev [.DMA 0, .IR 0]) ∧
  (∀ (h : Fin 32) (s : State), s.dev.chState h = 1 → s.dev.dmaClocked = true →
    s.dev.canIssue (chanMaster h) = true → s.dev.rd (F.DMA_CH_STAT_HOPS h) ≠ s.dev.hopLimit h →
    let a := (s.dev.chan h).at_
    let x := Desc.ofBytes (readBytes s.dev s.mem (chanMaster h) a 32)
    s.dev.sramOpen a 32 →
    Answers (.dmaFetch h []) s fun t =>
      (t.dev.chan h).desc = some x ∧ t.dev.rd (F.DMA_CH_CUR_ADDR h) = a ∧
      t.dev.rd (F.DMA_CH_STAT_HOPS h) = (s.dev.rd (F.DMA_CH_STAT_HOPS h) + 1) % 2 ^ 16 ∧
      t.dev.rd (F.DMA_CH_CNT_CNT h) = x.count % 2 ^ 24 ∧
      (x.ok = false → t.dev.chState h = 4 ∧ (t.dev.chan h).err = 8) ∧
      (x.ok = true → (s.dev.chan h).abort = true → t.dev.chState h = 4) ∧
      (x.ok = true → (s.dev.chan h).abort = false → bitAt x.dctrl 5 = false →
        t.dev.chState h = 3 ∧ (t.dev.chan h).toIssue = x.count) ∧
      (x.ok = true → (s.dev.chan h).abort = false → bitAt x.dctrl 5 = true →
        t.dev.chState h = (if s.dev.on (F.DMA_CH_STAT_TRGPEND h) then 3 else 2) ∧
        t.dev.on (F.DMA_CH_STAT_TRGPEND h) = false) ∧
      (x.alg ≠ 0 → bitAt x.dctrl 4 = false → x.ok = true → (s.dev.chan h).abort = false →
        (t.dev.chan h).crc = some x.seed) ∧
      SameRegs s.dev t.dev [.DMA_CH_STAT h, .DMA_CH_CUR h, .DMA_CH_CNT h] ∧ t.mem = s.mem) ∧
  (∀ (h : Fin 32) (n : Nat) (x : Desc) (b : Burst) (q : List Burst) (s : State), s.dev.chState h = 3 →
    s.dev.dmaClocked = true → s.dev.canIssue (chanMaster h) = true → (s.dev.chan h).desc = some x →
    (s.dev.chan h).bursts = b :: q → b.reading = true → (s.dev.chan h).err = 0 →
    let a := if bitAt x.dctrl 0 then b.src + b.data.length else b.src
    beatOk (bitAt x.dctrl 0) a n (b.len - b.data.length) = true → s.dev.sramOpen a n →
    let l := readBytes s.dev s.mem (chanMaster h) a n
    Answers (.dmaReadBeat h n []) s fun t =>
      (t.dev.chan h).bursts = { b with data := b.data ++ l } :: q ∧
      t.dev.rd (F.DMA_CH_CNT_CNT h) = s.dev.rd (F.DMA_CH_CNT_CNT h) - n ∧ t.dev.chState h = 3 ∧
      (t.dev.chan h).crc = (if x.alg = 0 then (s.dev.chan h).crc else (s.dev.chan h).crc.map fun k => crcBytes x.alg k l) ∧
      t.mem = s.mem ∧ SameRegs s.dev t.dev [.DMA_CH_CNT h]) ∧
  (∀ (h : Fin 32) (n : Nat) (errs : List EccErr) (x : Desc) (b : Burst) (q : List Burst) (s : State),
    s.dev.chState h = 3 → s.dev.dmaClocked = true → s.dev.canIssue (chanMaster h) = true →
    (s.dev.chan h).desc = some x → (s.dev.chan h).bursts = b :: q → b.reading = true → (s.dev.chan h).err = 0 →
    let a := if bitAt x.dctrl 0 then b.src + b.data.length else b.src
    beatOk (bitAt x.dctrl 0) a n (b.len - b.data.length) = true → targetAt a = none →
    Answers (.dmaReadBeat h n errs) s fun t =>
      (t.dev.chan h).err = 1 ∧ (t.dev.chan h).errCnt = s.dev.rd (F.DMA_CH_CNT_CNT h) ∧
      (t.dev.chan h).bursts = q.filter Burst.reading ∧ t.dev.scored 58 ∧
      SameOutside s.dev t.dev [.DMA 0, .SYS 0, .FC, .PWR, .SAFE] ∧ t.mem = s.mem) ∧
  (∀ (h : Fin 32) (n : Nat) (x : Desc) (b : Burst) (q : List Burst) (s : State), s.memWf → s.dev.chState h = 3 →
    s.dev.dmaClocked = true → s.dev.canIssue (chanMaster h) = true → (s.dev.chan h).desc = some x →
    (s.dev.chan h).bursts = b :: q → b.writing = true → (s.dev.chan h).err = 0 →
    let a := if bitAt x.dctrl 1 then b.dst + b.written else b.dst
    beatOk (bitAt x.dctrl 1) a n (b.data.length - b.written) = true → s.dev.sramOpen a n →
    Answers (.dmaWriteResponse h n []) s fun t =>
      (t.dev.chan h).bursts = (if b.written + n = b.len then q else { b with written := b.written + n } :: q) ∧
      (∀ i < n, memGet t.mem (a + i) = b.data.getD (b.written + i) 0) ∧
      (∀ i, (i < a ∨ a + n ≤ i) → memGet t.mem i = memGet s.mem i) ∧
      (b.written + n = b.len → q = [] → (s.dev.chan h).toIssue = 0 → t.dev.chState h = 4) ∧
      SameOutside s.dev t.dev [.DMA 0, .IR 0, .KEYS 0, .FC, .PWR, .SAFE]) ∧
  (∀ (h : Fin 32) (x : Desc) (s : State), s.memWf → s.dev.chState h = 4 → s.dev.dmaClocked = true →
    s.dev.canIssue (chanMaster h) = true → (s.dev.chan h).desc = some x → (s.dev.chan h).err = 0 →
    (s.dev.chan h).abort = false → (s.dev.chan h).lateAbort = false →
    let a := s.dev.rd (F.DMA_CH_CUR_ADDR h) + 0x18
    s.dev.sramOpen a 8 →
    Answers (.dmaWriteback h []) s fun t =>
      (∀ i < 8, memGet t.mem (a + i) =
        (leBytes 4 (2 ^ 31 + if x.alg = 0 then 0 else 2 ^ 28) ++ leBytes 4 (s.dev.descCrc h x)).getD i 0) ∧
      (∀ i, (i < a ∨ a + 8 ≤ i) → memGet t.mem i = memGet s.mem i) ∧
      t.dev.rd (F.DMA_CH_STAT_CODE h) = 0 ∧
      (bitAt x.dctrl 6 = true → t.dev.on (F.DMA_CH_EVT_DONE h) = true) ∧
      (x.next = 0 → t.dev.on (F.DMA_CH_STAT_RUN h) = false ∧ t.dev.chState h = 0 ∧
        t.dev.on (F.DMA_CH_EVT_CHAIN_END h) = true) ∧
      (x.next ≠ 0 → t.dev.chState h = 1 ∧ (t.dev.chan h).at_ = x.next ∧
        t.dev.on (F.DMA_CH_STAT_RUN h) = s.dev.on (F.DMA_CH_STAT_RUN h)) ∧
      SameOutside s.dev t.dev [.DMA 0, .IR 0, .KEYS 0, .FC, .PWR, .SAFE]) ∧
  (∀ (h : Fin 32) (x : Desc) (s : State), s.memWf → s.dev.chState h = 4 → s.dev.dmaClocked = true →
    s.dev.canIssue (chanMaster h) = true → (s.dev.chan h).desc = some x → (s.dev.chan h).err < 16 →
    ((s.dev.chan h).err ≠ 0 ∨ (s.dev.chan h).abort = true) →
    let a := s.dev.rd (F.DMA_CH_CUR_ADDR h) + 0x18
    s.dev.sramOpen a 8 →
    Answers (.dmaWriteback h []) s fun t =>
      (∀ i, (i < a ∨ a + 8 ≤ i) → memGet t.mem i = memGet s.mem i) ∧
      t.dev.on (F.DMA_CH_STAT_RUN h) = false ∧ t.dev.chState h = 0 ∧
      ((s.dev.chan h).err ≠ 0 → t.dev.scored 54 ∧ t.dev.rd (F.DMA_CH_STAT_CODE h) = (s.dev.chan h).err ∧
        t.dev.on (F.DMA_CH_EVT_ERR h) = true) ∧
      ((s.dev.chan h).err = 0 → t.dev.rd (F.DMA_CH_STAT_CODE h) = 6 ∧ t.dev.on (F.DMA_CH_EVT_ABORTED h) = true) ∧
      SameOutside s.dev t.dev [.DMA 0, .IR 0, .KEYS 0, .FC, .PWR, .SAFE])

/-- O45. Station ports and their receive queues (R322 to R325, R328 to R331): the link follows lock and
auto-negotiation; its loss latches a source; outside a ring a frame with an error is counted and nothing else; a
unicast host frame joins the queue or is dropped where it does not fit; a duplicate is discarded; a ring frame goes on
to the other port; reads pop the queue. Where this rests on the model's choices: log entries 98, 99 and 103. -/
def Obligations.StationReceive : Prop :=
  (∀ (x : Fin 2) (lock aneg : Bool) (s : State), s.dev.domUp domSTATION = true →
    let up := lock && (!(s.dev.on (F.STATION_PORT_CFG_MODE x) && s.dev.on (F.STATION_PORT_CFG_ANEG x)) || aneg)
    Answers (.stationLinkChange x lock aneg) s fun t =>
      t.dev.on (F.STATION_PORT_STAT_RXLOCK x) = lock ∧ t.dev.on (F.STATION_PORT_STAT_ANEG_DONE x) = aneg ∧
      t.dev.on (F.STATION_PORT_STAT_LINK x) = up ∧
      (s.dev.on (F.STATION_PORT_STAT_LINK x) ≠ up → t.dev.on (F.STATION_PORT_EVT_LINK_CHANGE x) = true) ∧
      SameRegs s.dev t.dev [.STATION_PORT_STAT x, .STATION_PORT_EVT x]) ∧
  (∀ (x : Fin 2) (s : State), s.dev.portOn x = true → s.dev.on (F.STATION_PORT_STAT_RXLOCK x) = false →
    Answers (.stationLinkLoss x) s fun t =>
      t.dev.scored (32 + x) ∧ t.dev.now = max s.dev.now ((s.dev.sport x).lockAt + 1000001) ∧
      SameRegsBut s.dev t.dev (32 + x) []) ∧
  (∀ (x : Fin 2) (l : List (BitVec 8)) (ok : Bool) (ago : Nat) (s : State), s.dev.portOn x = true →
    s.dev.redMode ≠ 2 → (l.length < 60 ∨ 2044 < l.length ∨ ok = false) →
    Answers (.stationFrameRx x l ok ago) s fun t =>
      t.dev.rd (F.STATION_PORT_CNT0_RXERR x) = satAdd (s.dev.rd (F.STATION_PORT_CNT0_RXERR x)) 1 65535 ∧
      t.dev.station = s.dev.station ∧ SameRegs s.dev t.dev [.STATION_PORT_CNT0 x]) ∧
  (∀ (x : Fin 2) (l : List (BitVec 8)) (ago : Nat) (s : State), s.dev.portOn x = true → s.dev.redundant = false →
    60 ≤ l.length → l.length ≤ 2044 → etherType l ∉ [0x8808, 0x88BA, 0x88B8, 0x88F7, 0x88FB] →
    etherType l ≠ s.dev.rd F.STATION_RRA_CFG_ETYPE → destMac l = s.dev.portMac x →
    Answers (.stationFrameRx x l true ago) s fun t =>
      t.dev.rd (F.STATION_PORT_CNT0_RXOK x) = (s.dev.rd (F.STATION_PORT_CNT0_RXOK x) + 1) % 2 ^ 16 ∧
      (if hostQueue < (s.dev.sport x).rxUsed + l.length + 16
        then (t.dev.sport x).rx = (s.dev.sport x).rx ∧ t.dev.on (F.STATION_PORT_EVT_RXOVF x) = true ∧
          t.dev.rd (F.STATION_PORT_CNT1_RXDROP x) = satAdd (s.dev.rd (F.STATION_PORT_CNT1_RXDROP x)) 1 65535
        else (t.dev.sport x).rx = (s.dev.sport x).rx ++
            [{ cls := 0, red := false, vlan := hasVlan l, ts := s.dev.rxStamp x ago, bytes := l }] ∧
          t.dev.on (F.STATION_PORT_EVT_RX x) = true) ∧
      SameRegs s.dev t.dev [.STATION_PORT_CNT0 x, .STATION_PORT_CNT1 x, .STATION_PORT_FIFO x, .STATION_PORT_EVT x]) ∧
  (∀ (x : Fin 2) (l : List (BitVec 8)) (ago : Nat) (s : State), s.dev.portOn x = true →
    s.dev.rd F.STATION_RED_CFG_MODE = 1 → 60 ≤ l.length → l.length ≤ 2044 → hasPrp l = true →
    s.dev.twinOf x (srcMac l * 2 ^ 16 + prpSeq l) = none → s.dev.isDup x (srcMac l * 2 ^ 16 + prpSeq l) = true →
    Answers (.stationFrameRx x l true ago) s fun t =>
      t.dev.rd F.STATION_RED_CNT0_DUP = satAdd (s.dev.rd F.STATION_RED_CNT0_DUP) 1 65535 ∧
      t.dev.station = s.dev.station ∧ SameRegs s.dev t.dev [.STATION_RED_CNT0, .STATION_PORT_CNT0 x]) ∧
  (∀ (x : Fin 2) (l : List (BitVec 8)) (ago : Nat) (s : State), s.dev.portOn x = true →
    s.dev.rd F.STATION_RED_CFG_MODE = 2 → 60 ≤ l.length → l.length ≤ 2044 → hasHsr l = true →
    srcMac l ≠ s.dev.portMac 0 → destMac l ≠ s.dev.portMac 0 → s.dev.neverForward l = false →
    (∀ e ∈ s.dev.alive s.dev.station.fwds, e.1 ≠ srcMac l * 2 ^ 16 + hsrSeq l ∨ e.2.1 ≠ x.val) →
    (s.dev.sport (1 - x.val)).fwd.foldl (fun n f => n + f.bytes.length) l.length ≤ 8192 →
    Answers (.stationFrameRx x l true ago) s fun t =>
      (t.dev.sport (1 - x.val)).fwd = (s.dev.sport (1 - x.val)).fwd ++ [⟨l, s.dev.rxStamp x ago, false⟩] ∧
      SameOutside s.dev t.dev [.STATION 0, .IR 0]) ∧
  (∀ (m : Nat) (x : Fin 2) (f : RxFrame) (q : List RxFrame) (s : State), Reads m (.STATION_PORT_RXD0 x) s.dev →
    (s.dev.sport x).rx = f :: q →
    Answers (.rxDescPop m x) s fun t =>
      t.dev.resp = { master := m, code := .okay, data := f.word 0 } ∧ (t.dev.sport x).rx = q ∧
      (t.dev.sport x).cur = f.bytes ∧ (∀ i, t.dev.rxWord m x i = f.word i) ∧
      (∀ k i, k ≠ m → t.dev.rxWord k x i = s.dev.rxWord k x i) ∧ SameRegs s.dev t.dev [.STATION_PORT_FIFO x]) ∧
  (∀ (m : Nat) (x : Fin 2) (s : State), Reads m (.STATION_PORT_RXD0 x) s.dev → (s.dev.sport x).rx = [] →
    Answers (.rxDescPop m x) s fun t =>
      t.dev.resp = { master := m, code := .okay, data := 0 } ∧ (t.dev.sport x).cur = [] ∧
      (∀ i, t.dev.rxWord m x i = 0) ∧ t.dev.regs = s.dev.regs) ∧
  (∀ (m : Nat) (x : Fin 2) (s : State), Reads m (.STATION_PORT_RXDATA x) s.dev →
    Answers (.rxDataRead m x) s fun t =>
      t.dev.resp = { master := m, code := .okay, data := ofLeBytes ((s.dev.sport x).cur.take 4) } ∧
      (t.dev.sport x).cur = (s.dev.sport x).cur.drop 4 ∧ (t.dev.sport x).rx = (s.dev.sport x).rx ∧
      ((s.dev.sport x).cur = [] → t.dev.bit (F.PG_ERR_BLK (.STATION x)) 1 = true) ∧
      SameRegs s.dev t.dev [.PG_ERR (.STATION x)])

/-- O46. Sampled values and GOOSE subscriptions (R332 to R336): the oldest ASDU that waits is rejected and counted, or
written to the ring with its counts; the time-outs take LIVE away and latch the source that SRCSEL names, while the
page of that port is enabled; an accepted GOOSE message gives its bits, and a change of stNum an event. Where this
rests on the model's choices: log entries 95, 96 and 97. -/
def Obligations.SampledValuesAndGoose : Prop :=
  (∀ (j : SvJob) (q : List SvJob) (s : State), s.dev.station.svJobs = j :: q → j.sub < 32 → s.dev.svReject j = true →
    Answers .svAsdu s fun t =>
      t.dev.station = { s.dev.station with svJobs := q } ∧
      t.dev.rd (F.STATION_SUB_STAT_REJECT j.sub) = satAdd (s.dev.rd (F.STATION_SUB_STAT_REJECT j.sub)) 1 255 ∧
      SameRegs s.dev t.dev [.STATION_SUB_STAT j.sub]) ∧
  (∀ (j : SvJob) (q : List SvJob) (s : State), s.dev.station.svJobs = j :: q → j.sub < 32 → s.dev.svReject j = false →
    Answers .svAsdu s fun t =>
      let e := s.dev.rd (F.STATION_SUB_STAT_WIDX j.sub)
      t.dev.station.svJobs = q ∧ t.dev.on (F.STATION_SUB_STAT_LIVE j.sub) = true ∧
      t.dev.bit F.STATION_SV_LIVE_SUB j.sub = true ∧ t.dev.bit F.STATION_SV_EVT_SUB j.sub = true ∧
      t.dev.rd (F.STATION_SUB_STAT_SMPCNT j.sub) = j.smpCnt % 2 ^ 16 ∧
      t.dev.rd (F.STATION_SUB_STAT_WIDX j.sub) = (e + 1) % 4 ∧
      t.dev.rd (F.STATION_SUB_LOST_LOST j.sub) = (s.dev.rd (F.STATION_SUB_LOST_LOST j.sub) +
        if bitAt s.dev.station.svSeen j.sub then s.dev.svDist j - 1 else 0) % 2 ^ 24 ∧
      (∀ i < 14, t.dev.rd (F.STATION_SUB_RING_VAL j.sub (32 * e + 4 + i)) = j.value i ∧
        t.dev.rd (F.STATION_SUB_RING_VAL j.sub (32 * e + 18 + i)) = j.quality i) ∧
      t.dev.rd (F.STATION_SUB_RING_VAL j.sub (32 * e + 1)) = j.ts / nsUnit % 1000000000 ∧
      bitAt t.dev.station.svSeen j.sub = true ∧ mget 0 t.dev.station.svFrom j.sub = s.dev.now ∧
      SameOutside s.dev t.dev [.STATION 0, .IR 0]) ∧
  (∀ (k : Fin 32) (s : State), s.dev.on (F.STATION_SUB_CFG_EN k) = true → mhas s.dev.station.svFrom k = true →
    Answers (.svTimeout k) s fun t =>
      t.dev.on (F.STATION_SUB_STAT_LIVE k) = false ∧ t.dev.bit F.STATION_SV_LIVE_SUB k = false ∧
      t.dev.bit F.STATION_SV_TEVT_SUB k = true ∧ bitAt t.dev.station.svSeen k = false ∧
      (let n := b2n (s.dev.on (F.STATION_SUB_CFG_SRCSEL k))
       if s.dev.enabled (.STATION n) then t.dev.scored (32 + n) else t.dev.score = s.dev.score) ∧
      t.dev.now = max s.dev.now
        (mget 0 s.dev.station.svFrom k + 1000 * max 1 (s.dev.rd (F.STATION_SUB_TIMING_TIMEOUT k)) + 1) ∧
      SameOutside s.dev t.dev [.STATION 0, .IR 0, .FC, .PWR, .SAFE]) ∧
  (∀ (j : GooseJob) (q : List GooseJob) (s : State), s.dev.station.gJobs = j :: q → j.sub < 16 →
    (j.ok = false ∨ j.confRev ≠ s.dev.rd (F.STATION_GSUB_CONFREV_VAL j.sub) ∨
      (j.sim = true ∧ s.dev.on (F.STATION_GSUB_CFG_SIM_EN j.sub) = false)) →
    Answers .gooseMessage s fun t =>
      t.dev.station = { s.dev.station with gJobs := q } ∧
      t.dev.rd (F.STATION_GSUB_STAT_REJECT j.sub) = satAdd (s.dev.rd (F.STATION_GSUB_STAT_REJECT j.sub)) 1 255 ∧
      SameRegs s.dev t.dev [.STATION_GSUB_STAT j.sub]) ∧
  (∀ (j : GooseJob) (q : List GooseJob) (s : State), s.dev.station.gJobs = j :: q → j.sub < 16 → j.ok = true →
    j.confRev = s.dev.rd (F.STATION_GSUB_CONFREV_VAL j.sub) →
    (j.sim = false ∨ s.dev.on (F.STATION_GSUB_CFG_SIM_EN j.sub) = true) →
    Answers .gooseMessage s fun t =>
      t.dev.station.gJobs = q ∧ t.dev.on (F.STATION_GSUB_STAT_LIVE j.sub) = true ∧
      t.dev.on (F.STATION_GSUB_STAT_SIM j.sub) = j.sim ∧ t.dev.on (F.STATION_GSUB_STAT_NDS j.sub) = j.nds ∧
      mget 0 t.dev.station.gDead j.sub = j.at_ + 1000000 * j.tal ∧
      t.dev.rd (F.STATION_GSUB_BITS_BITS j.sub) =
        (if j.nds then s.dev.rd (F.STATION_GSUB_BITS_BITS j.sub) else j.bits % 2 ^ 32) ∧
      (j.nds = false → mget 0 t.dev.station.gStNum j.sub = j.stNum) ∧
      (j.nds = false → mhas s.dev.station.gStNum j.sub = true → mget 0 s.dev.station.gStNum j.sub ≠ j.stNum →
        t.dev.bit F.STATION_GOOSE_EVT_CHANGE j.sub = true) ∧
      (mhas s.dev.station.gStNum j.sub = true → mget 0 s.dev.station.gStNum j.sub = j.stNum →
        t.dev.rd F.STATION_GOOSE_EVT_CHANGE = s.dev.rd F.STATION_GOOSE_EVT_CHANGE) ∧
      SameOutside s.dev t.dev [.STATION 0, .IR 0]) ∧
  (∀ (k : Fin 16) (s : State), s.dev.on (F.STATION_GSUB_CFG_EN k) = true → mhas s.dev.station.gDead k = true →
    Answers (.gooseTimeout k) s fun t =>
      t.dev.on (F.STATION_GSUB_STAT_LIVE k) = false ∧
      t.dev.rd (F.STATION_GSUB_BITS_BITS k) = s.dev.rd (F.STATION_GSUB_DEFAULT_VAL k) ∧
      t.dev.bit F.STATION_GOOSE_EVT_TIMEOUT k = true ∧ mhas t.dev.station.gDead k = false ∧
      (let n := b2n (s.dev.on (F.STATION_GSUB_CFG_SRCSEL k))
       if s.dev.enabled (.STATION n) then t.dev.scored (32 + n) else t.dev.score = s.dev.score) ∧
      t.dev.now = max s.dev.now (mget 0 s.dev.station.gDead k + 1) ∧
      SameOutside s.dev t.dev [.STATION 0, .IR 0, .FC, .PWR, .SAFE])

/-- O47. Station transmission and publications (R326, R327, R329, R331, R337 to R339): pushed bytes make up a frame
that joins its queue, publications leave before forwarded frames and these before responses and host frames; setting
EN parses the template; a state change raises stNum, a retransmission sqNum, with a growing interval. Where this rests
on the model's choices: log entries 100 to 105. -/
def Obligations.StationTransmit : Prop :=
  (∀ (m : Nat) (x : Fin 2) (v : Word) (s : State), Accepts (txd0Write x) m (.STATION_PORT_TXD0 x) v.toNat s.dev →
    s.dev.basicLocked (Reg.STATION_PORT_TXD0 x).page = false →
    Answers (.txDescWrite m x v) s fun t =>
      (t.dev.sport x).open_ = some { d0 := v.toNat } ∧ (t.dev.sport x).tx = (s.dev.sport x).tx ∧
      ((s.dev.sport x).open_ ≠ none →
        t.dev.on (F.STATION_PORT_EVT_TXERR x) = true ∧ t.dev.bit (F.PG_ERR_BLK (.STATION x)) 2 = true) ∧
      SameRegs s.dev t.dev [.STATION_PORT_TXD0 x, .STATION_PORT_FIFO x, .STATION_PORT_EVT x, .PG_ERR (.STATION x)]) ∧
  (∀ (m : Nat) (x : Fin 2) (v : Word) (f : TxFrame) (s : State),
    Accepts (txDataWrite x) m (.STATION_PORT_TXDATA x) v.toNat s.dev → (s.dev.sport x).open_ = some f →
    (s.dev.sport x).txUsed + 4 ≤ hostQueue →
    (bitAt f.d0 18 = false ∨ s.dev.redundant = false ∨ f.bytes.length + 4 < bitsOf f.d0 0 12) →
    Answers (.txDataPush m x v) s fun t =>
      let b := f.bytes ++ leBytes 4 v.toNat
      SameRegs s.dev t.dev [.STATION_PORT_FIFO x, .PG_ERR (.STATION x)] ∧
      if bitsOf f.d0 0 12 ≤ b.length
      then (t.dev.sport x).open_ = none ∧ (t.dev.sport x).tx = (s.dev.sport x).tx ++
        [{ f with bytes := b.take (bitsOf f.d0 0 12), d1 := s.dev.word (.STATION_PORT_TXD1 x)
                  d2 := s.dev.word (.STATION_PORT_TXD2 x) }]
      else (t.dev.sport x).open_ = some { f with bytes := b } ∧ (t.dev.sport x).tx = (s.dev.sport x).tx) ∧
  (∀ (m : Nat) (x : Fin 2) (v : Word) (s : State),
    Accepts (txDataWrite x) m (.STATION_PORT_TXDATA x) v.toNat s.dev → (s.dev.sport x).open_ = none →
    Answers (.txDataPush m x v) s fun t =>
      t.dev.station = s.dev.station ∧ SameRegs s.dev t.dev [.PG_ERR (.STATION x)]) ∧
  (∀ (m : Nat) (x : Fin 2) (v : Word) (f : TxFrame) (s : State),
    Accepts (txDataWrite x) m (.STATION_PORT_TXDATA x) v.toNat s.dev → (s.dev.sport x).open_ = some f →
    hostQueue < (s.dev.sport x).txUsed + 4 →
    Answers (.txDataPush m x v) s fun t =>
      (t.dev.sport x).open_ = none ∧ (t.dev.sport x).tx = (s.dev.sport x).tx ∧
      t.dev.on (F.STATION_PORT_EVT_TXERR x) = true ∧ t.dev.bit (F.PG_ERR_BLK (.STATION x)) 2 = true ∧
      SameRegs s.dev t.dev [.STATION_PORT_FIFO x, .STATION_PORT_EVT x, .PG_ERR (.STATION x)]) ∧
  (∀ (m : Nat) (x : Fin 2) (v : Word) (f : TxFrame) (s : State),
    Accepts (txDataWrite x) m (.STATION_PORT_TXDATA x) v.toNat s.dev → (s.dev.sport x).open_ = some f →
    (s.dev.sport x).txUsed + 4 ≤ hostQueue → bitAt f.d0 18 = true → s.dev.redundant = true →
    bitsOf f.d0 0 12 ≤ f.bytes.length + 4 →
    Answers (.txDataPush m x v) s fun t =>
      SameRegs s.dev t.dev [.STATION_PORT_FIFO x, .STATION_RED_SEQ, .PG_ERR (.STATION x)] ∧
      ∃ g : TxFrame, (t.dev.sport x).tx = (s.dev.sport x).tx ++ [g] ∧
        g.bytes = (f.bytes ++ leBytes 4 v.toNat).take (bitsOf f.d0 0 12) ∧
        g.seq = some (s.dev.rd F.STATION_RED_SEQ_SEQ) ∧ (t.dev.sport x).open_ = none ∧
        (t.dev.sport (1 - x.val)).tx = (s.dev.sport (1 - x.val)).tx ++ [{ g with own := false }] ∧
        t.dev.rd F.STATION_RED_SEQ_SEQ = (s.dev.rd F.STATION_RED_SEQ_SEQ + 1) % 2 ^ 16) ∧
  (∀ (x : Fin 2) (ago : Nat) (u : Nat) (p : Pub) (s : State), s.dev.portSends x = true → s.dev.nextPub x = some (u, p) →
    Answers (.stationTx x ago) s fun t =>
      (∃ p', t.dev.pub u = some p' ∧ p'.due = clearBitAt p.due x ∧ p'.fresh = false ∧ p'.stNum = p.stNum ∧
        p'.sqNum = p.sqNum) ∧
      (s.dev.redundant = false → (t.dev.sport x).last = padTo 60 (s.dev.pubFrame u p)) ∧
      t.dev.rd (F.STATION_PUB_STNUM_STNUM u) = p.stNum % 2 ^ 32 ∧
        t.dev.rd (F.STATION_PUB_SQNUM_SQNUM u) = p.sqNum % 2 ^ 32 ∧
      t.dev.rd (F.STATION_PORT_CNT1_TXOK x) = (s.dev.rd (F.STATION_PORT_CNT1_TXOK x) + 1) % 2 ^ 16 ∧
      (t.dev.sport x).tx = (s.dev.sport x).tx ∧ (t.dev.sport x).fwd = (s.dev.sport x).fwd ∧
      SameRegs s.dev t.dev [.STATION_PUB_STNUM u, .STATION_PUB_SQNUM u, .STATION_PORT_CNT1 x, .STATION_RED_SEQ]) ∧
  (∀ (x : Fin 2) (ago : Nat) (f : TxFrame) (q : List TxFrame) (s : State), s.dev.portSends x = true →
    s.dev.nextPub x = none → (s.dev.sport x).fwd = [] → (s.dev.sport x).rsp = [] → (s.dev.sport x).tx = f :: q →
    Answers (.stationTx x ago) s fun t =>
      (t.dev.sport x).lastBad = false ∧ (t.dev.sport x).tx = q ∧
      t.dev.rd (F.STATION_PORT_CNT1_TXOK x) = (s.dev.rd (F.STATION_PORT_CNT1_TXOK x) + 1) % 2 ^ 16 ∧
      (f.seq = none → (s.dev.enabled (.TIME 1) = false ∨ bitAt f.d0 17 = false) →
        (t.dev.sport x).last = padTo 60 f.bytes) ∧
      SameRegs s.dev t.dev
        [.STATION_PORT_CNT1 x, .STATION_PORT_EVT x, .STATION_PORT_FIFO x, .TIME_PORT_TSQ_STAT x]) ∧
  (∀ (x : Fin 2) (ago : Nat) (r : List (BitVec 8) × Option Nat) (q : List (List (BitVec 8) × Option Nat)) (s : State),
    s.dev.portSends x = true → s.dev.nextPub x = none → (s.dev.sport x).fwd = [] → (s.dev.sport x).rsp = r :: q →
    Answers (.stationTx x ago) s fun t =>
      (t.dev.sport x).rsp = q ∧ (t.dev.sport x).tx = (s.dev.sport x).tx ∧
      (r.2 = none → (t.dev.sport x).last = padTo 60 r.1) ∧ SameRegs s.dev t.dev [.STATION_PORT_CNT1 x]) ∧
  (∀ (x : Fin 2) (ago : Nat) (f : FwdFrame) (q : List FwdFrame) (s : State), s.dev.portSends x = true →
    s.dev.nextPub x = none → (s.dev.sport x).fwd = f :: q →
    Answers (.stationTx x ago) s fun t =>
      (s.dev.tcOn = false → (t.dev.sport x).last = padTo 60 f.bytes) ∧ (t.dev.sport x).lastBad = f.bad ∧
      (t.dev.sport x).fwd = q ∧ (t.dev.sport x).tx = (s.dev.sport x).tx ∧
      t.dev.rd (F.STATION_PORT_CNT1_TXOK x) = (s.dev.rd (F.STATION_PORT_CNT1_TXOK x) + 1) % 2 ^ 16 ∧
      SameRegs s.dev t.dev [.STATION_PORT_CNT1 x, .TIME_PORT_TC_CNT x]) ∧
  (∀ (x : Fin 2) (ago : Nat) (f : FwdFrame) (q : List FwdFrame) (s : State), s.dev.portSends x = true →
    s.dev.nextPub x = none → (s.dev.sport x).fwd = f :: q →
    Answers (.hsrForward x ago) s fun t =>
      (s.dev.tcOn = false → (t.dev.sport x).last = padTo 60 f.bytes) ∧ (t.dev.sport x).lastBad = f.bad ∧
      (t.dev.sport x).fwd = q ∧ SameRegs s.dev t.dev [.STATION_PORT_CNT1 x, .TIME_PORT_TC_CNT x]) ∧
  (∀ (s : State), s.dev.redundant = true → s.dev.rd F.STATION_RED_CFG_LIFE ≠ 0 →
    (s.dev.portOn 0 = true ∨ s.dev.portOn 1 = true) →
    Answers .redSupervision s fun t =>
      (∃ f : TxFrame,
        (∀ x < 2, (t.dev.sport x).tx = if s.dev.portOn x then (s.dev.sport x).tx ++ [f] else (s.dev.sport x).tx) ∧
        destMac f.bytes = 0x01154E000100 ∧ srcMac f.bytes = s.dev.portMac 0) ∧
      t.dev.now = max s.dev.now (s.dev.station.supAt + 1000000 * s.dev.rd F.STATION_RED_CFG_LIFE) ∧
      t.dev.station.supAt = t.dev.now ∧ t.dev.regs = s.dev.regs) ∧
  (∀ (m : Nat) (u : Fin 16) (v : Word) (s : State), (Instr.goosePubEnable m u v).wf = true →
    Accepts (pubCtrlWrite u) m (.STATION_PUB_CTRL u) v.toNat s.dev →
    s.dev.basicLocked (Reg.STATION_PUB_CTRL u).page = false → s.dev.on (F.STATION_PUB_CTRL_EN u) = false →
    let n := bitsOf v.toNat 23 9
    let nb := bitsOf v.toNat 8 6
    Answers (.goosePubEnable m u v) s fun t =>
      if tplOk (s.dev.template u n) n nb && decide (nb ≤ 32)
      then t.dev.on (F.STATION_PUB_CTRL_EN u) = true ∧
        (∃ p, t.dev.pub u = some p ∧ p.tlen = n ∧ p.nb = nb ∧ p.stNum = 1 ∧ p.sqNum = 0 ∧ p.t = s.dev.tbVal ∧
          p.interval = s.dev.pubMin u) ∧
        SameRegs s.dev t.dev [.STATION_PUB_CTRL u, .PG_ERR (Reg.STATION_PUB_CTRL u).page]
      else t.dev.on (F.STATION_PUB_CTRL_EN u) = false ∧ t.dev.bit (F.PG_ERR_BLK (.STATION (13 + u / 8))) 0 = true ∧
        t.dev.station = s.dev.station) ∧
  (∀ (m : Nat) (u : Fin 16) (v : Word) (s : State), (Instr.goosePubDisable m u v).wf = true →
    Accepts (pubCtrlWrite u) m (.STATION_PUB_CTRL u) v.toNat s.dev →
    s.dev.basicLocked (Reg.STATION_PUB_CTRL u).page = false →
    Answers (.goosePubDisable m u v) s fun t =>
      t.dev.on (F.STATION_PUB_CTRL_EN u) = false ∧ t.dev.pub u = none ∧
      SameRegs s.dev t.dev [.STATION_PUB_CTRL u, .PG_ERR (Reg.STATION_PUB_CTRL u).page]) ∧
  (∀ (m : Nat) (u : Fin 16) (v : Word) (p : Pub) (s : State),
    Accepts (pubDataWrite u) m (.STATION_PUB_DATA u) v.toNat s.dev →
    s.dev.basicLocked (Reg.STATION_PUB_DATA u).page = false → s.dev.pub u = some p →
    Answers (.gooseStateChange m u v) s fun t =>
      t.dev.rd (F.STATION_PUB_DATA_DATA u) = v.toNat ∧
      (v.toNat = s.dev.word (.STATION_PUB_DATA u) → t.dev.station = s.dev.station) ∧
      (v.toNat ≠ s.dev.word (.STATION_PUB_DATA u) →
        t.dev.pub u = some { p with
          stNum := if p.fresh then p.stNum else if p.stNum = 4294967295 then 1 else p.stNum + 1
          sqNum := 0, t := s.dev.tbVal, interval := s.dev.pubMin u, from_ := s.dev.now, due := s.dev.pubPorts u
          seq := none, fresh := true }) ∧
      SameRegs s.dev t.dev [.STATION_PUB_DATA u, .PG_ERR (Reg.STATION_PUB_DATA u).page]) ∧
  (∀ (u : Fin 16) (p : Pub) (s : State), s.dev.pub u = some p →
    Answers (.gooseRetransmit u) s fun t =>
      t.dev.now = max s.dev.now (p.from_ + 1000 * p.interval) ∧
      t.dev.pub u = some { p with
        sqNum := if p.sqNum = 4294967295 then 1 else p.sqNum + 1
        interval := min (2 * p.interval) (s.dev.pubMax u)
        from_ := t.dev.now, due := s.dev.pubPorts u, seq := none } ∧
      t.dev.regs = s.dev.regs)

/-- O48. Remote register access (R340 to R342): setting EN opens a session; a request is dropped for a wrong header,
an unknown session, a stale SEQ or a bad TAG, 16 of which in a row close the session, and is queued otherwise; its
items run in order inside the session's window; its response leaves when all have run. Where this rests on the model's
choices: log entries 106, 107 and 108. -/
def Obligations.RemoteRegisterAccess : Prop :=
  (∀ (m : Nat) (j : Fin 8) (v : Word) (s : State), (Instr.rraSessionEnable m j v).wf = true →
    Accepts (sesCtrlWrite j) m (.STATION_SES_CTRL j) v.toNat s.dev →
    s.dev.basicLocked (Reg.STATION_SES_CTRL j).page = false → s.dev.on (F.STATION_SES_CTRL_EN j) = false →
    Answers (.rraSessionEnable m j v) s fun t =>
      t.dev.on (F.STATION_SES_CTRL_EN j) = true ∧ t.dev.rd (F.STATION_SES_CTRL_SID j) = bitsOf v.toNat 16 16 ∧
      t.dev.rd64 (F.STATION_SES_SEQ_LO_SEQ j) (F.STATION_SES_SEQ_HI_SEQ j) = 0 ∧
      t.dev.rd (F.STATION_SES_STAT_STRIKES j) = 0 ∧ t.dev.station = s.dev.station ∧
      SameRegs s.dev t.dev
        [.STATION_SES_CTRL j, .STATION_SES_STAT j, .STATION_SES_SEQ_LO j, .STATION_SES_SEQ_HI j,
          .PG_ERR (.STATION 15)]) ∧
  (∀ (m : Nat) (j : Fin 8) (v : Word) (s : State), (Instr.rraSessionEnable m j v).wf = true →
    Accepts (sesCtrlWrite j) m (.STATION_SES_CTRL j) v.toNat s.dev →
    s.dev.basicLocked (Reg.STATION_SES_CTRL j).page = false → s.dev.on (F.STATION_SES_CTRL_EN j) = true →
    Answers (.rraSessionEnable m j v) s fun t =>
      t.dev.rd (F.STATION_SES_CTRL_SID j) = s.dev.rd (F.STATION_SES_CTRL_SID j) ∧
      (bitsOf v.toNat 16 16 ≠ s.dev.rd (F.STATION_SES_CTRL_SID j) → t.dev.bit (F.PG_ERR_BLK (.STATION 15)) 0 = true) ∧
      SameRegs s.dev t.dev [.STATION_SES_CTRL j, .PG_ERR (.STATION 15)]) ∧
  (∀ (f : RraFrame) (q : List RraFrame) (s : State), s.dev.station.rraIn = f :: q →
    (beAt f.data 0 1 ≠ 1 ∨ beAt f.data 1 1 ≠ 1) →
    Answers .rraRequest s fun t =>
      t.dev.station = { s.dev.station with rraIn := q } ∧ t.dev.on F.STATION_RRA_EVT_REJECT = true ∧
      SameRegs s.dev t.dev [.STATION_RRA_EVT, .IR_SRC_ROUTE 122]) ∧
  (∀ (f : RraFrame) (q : List RraFrame) (s : State), s.dev.station.rraIn = f :: q → beAt f.data 0 1 = 1 →
    beAt f.data 1 1 = 1 → s.dev.sesOf (beAt f.data 2 2) (ofBeBytes f.src) = none →
    Answers .rraRequest s fun t =>
      t.dev.station = { s.dev.station with rraIn := q } ∧
      t.dev.rd F.STATION_RRA_CNT_NOSES = satAdd (s.dev.rd F.STATION_RRA_CNT_NOSES) 1 65535 ∧
      t.dev.on F.STATION_RRA_EVT_REJECT = true ∧
      SameRegs s.dev t.dev [.STATION_RRA_CNT, .STATION_RRA_EVT, .IR_SRC_ROUTE 122]) ∧
  (∀ (f : RraFrame) (q : List RraFrame) (j : Nat) (s : State), s.dev.station.rraIn = f :: q → beAt f.data 0 1 = 1 →
    beAt f.data 1 1 = 1 → s.dev.sesOf (beAt f.data 2 2) (ofBeBytes f.src) = some j →
    let n := beAt f.data 12 2
    let seq := beAt f.data 4 8
    let last := s.dev.rd64 (F.STATION_SES_SEQ_LO_SEQ j) (F.STATION_SES_SEQ_HI_SEQ j)
    let good := Config.gmac (s.dev.sesKey j) (s.dev.sesIv j false seq) (f.data.take (16 + 12 * n)) =
      BitVec.ofNat 128 (beAt f.data (16 + 12 * n) 16)
    Answers .rraRequest s fun t =>
      t.dev.station.rraIn = q ∧
      (seq ≤ last → t.dev.station.rraQ = s.dev.station.rraQ ∧ t.dev.on F.STATION_RRA_EVT_REJECT = true ∧
        t.dev.rd (F.STATION_SES_STAT_REPLAY j) = satAdd (s.dev.rd (F.STATION_SES_STAT_REPLAY j)) 1 255) ∧
      (last < seq → 1 ≤ n → n ≤ 32 → 32 + 12 * n ≤ f.data.length → ¬ good →
        t.dev.station.rraQ = s.dev.station.rraQ ∧ t.dev.on F.STATION_RRA_EVT_REJECT = true ∧
        t.dev.rd (F.STATION_SES_STAT_BADTAG j) = satAdd (s.dev.rd (F.STATION_SES_STAT_BADTAG j)) 1 255 ∧
        (s.dev.rd (F.STATION_SES_STAT_STRIKES j) = 15 →
          t.dev.on (F.STATION_SES_CTRL_EN j) = false ∧ t.dev.scored 59 ∧
            t.dev.on F.STATION_RRA_EVT_SES_CLOSED = true)) ∧
      (last < seq → 1 ≤ n → n ≤ 32 → 32 + 12 * n ≤ f.data.length → good →
        t.dev.rd64 (F.STATION_SES_SEQ_LO_SEQ j) (F.STATION_SES_SEQ_HI_SEQ j) = seq ∧
        t.dev.rd (F.STATION_SES_STAT_STRIKES j) = 0 ∧
        (4 ≤ s.dev.station.rraQ.length → t.dev.station.rraQ = s.dev.station.rraQ ∧
          t.dev.rd F.STATION_RRA_CNT_BUSY = satAdd (s.dev.rd F.STATION_RRA_CNT_BUSY) 1 65535) ∧
        (s.dev.station.rraQ.length < 4 → t.dev.station.rraQ = s.dev.station.rraQ ++
          [{ port := f.port, red := f.red, src := f.src, ses := j, sid := beAt f.data 2 2, seq,
             todo := rraItems f.data n }])) ∧
      SameOutside s.dev t.dev [.STATION 0, .IR 0, .FC, .PWR, .SAFE]) ∧
  (∀ (errs : List EccErr) (q : RraReq) (rest : List RraReq) (a v kind : Nat) (todo : List (Nat × Nat × Nat)) (s : State),
    s.dev.station.rraQ = q :: rest → q.todo = (a, v, kind) :: todo → q.failed = true →
    s.dev.on (F.STATION_SES_CTRL_STOP_ON_ERR q.ses) = true →
    Answers (.rraItem errs) s fun t =>
      t.dev.station.rraQ = { q with todo, done := q.done ++ [(a, v, kind, 6)] } :: rest ∧ t.mem = s.mem ∧
      t.dev.regs = s.dev.regs) ∧
  (∀ (errs : List EccErr) (q : RraReq) (rest : List RraReq) (a v kind : Nat) (todo : List (Nat × Nat × Nat)) (s : State),
    s.dev.station.rraQ = q :: rest → q.todo = (a, v, kind) :: todo →
    (q.failed = false ∨ s.dev.on (F.STATION_SES_CTRL_STOP_ON_ERR q.ses) = false) →
    s.dev.sesAllows q.ses a (kind == 1) = false →
    Answers (.rraItem errs) s fun t =>
      t.dev.station.rraQ = { q with todo, done := q.done ++ [(a, v, kind, 2)], failed := true } :: rest ∧
      t.dev.scored 58 ∧ t.mem = s.mem ∧ SameRegsBut s.dev t.dev 58 []) ∧
  (∀ (errs : List EccErr) (q : RraReq) (rest : List RraReq) (a v : Nat) (todo : List (Nat × Nat × Nat)) (s u : State),
    s.dev.station.rraQ = q :: rest → q.todo = (a, v, 1) :: todo →
    (q.failed = false ∨ s.dev.on (F.STATION_SES_CTRL_STOP_ON_ERR q.ses) = false) → s.dev.sesAllows q.ses a true = true →
    s.dev.canIssue 11 = true →
    busWrite 11 a 4 v errs s = .next u → u.dev.resp.code = .okay →
    Answers (.rraItem errs) s fun t =>
      t.mem = u.mem ∧ t.dev.regs = u.dev.regs ∧
      t.dev.station.rraQ = { q with todo, done := q.done ++ [(a, v, 1, 0)] } :: rest) ∧
  (∀ (errs : List EccErr) (q : RraReq) (rest : List RraReq) (a v kind : Nat) (todo : List (Nat × Nat × Nat)) (s : State),
    s.dev.station.rraQ = q :: rest → q.todo = (a, v, kind) :: todo →
    (q.failed = false ∨ s.dev.on (F.STATION_SES_CTRL_STOP_ON_ERR q.ses) = false) →
    s.dev.sesAllows q.ses a false = true → kind ≠ 1 → s.dev.canIssue 11 = true →
    let u := busRead 11 a 4 errs s.mem s.dev
    u.resp.code = .okay →
    Answers (.rraItem errs) s fun t =>
      t.mem = s.mem ∧ t.dev.regs = u.regs ∧
      t.dev.station.rraQ = { q with todo, done := q.done ++ [(a, u.resp.data, kind, 0)] } :: rest) ∧
  (∀ (q : RraReq) (rest : List RraReq) (s : State), s.dev.station.rraQ = q :: rest → q.todo = [] →
    (q.red = false ∨ s.dev.redundant = false) →
    Answers .rraResponse s fun t =>
      t.dev.station.rraQ = rest ∧ t.dev.on F.STATION_RRA_EVT_DONE = true ∧
      t.dev.rd (F.STATION_SES_STAT_DONE q.ses) = (s.dev.rd (F.STATION_SES_STAT_DONE q.ses) + 1) % 256 ∧
      (t.dev.sport q.port).rsp = (s.dev.sport q.port).rsp ++ [(q.src ++ beBytes 6 (s.dev.portMac q.port) ++
        beBytes 2 (s.dev.rd F.STATION_RRA_CFG_ETYPE) ++ s.dev.rraPayload q, none)] ∧
      SameRegs s.dev t.dev [.STATION_SES_STAT q.ses, .STATION_RRA_EVT, .IR_SRC_ROUTE 122]) ∧
  (∀ (q : RraReq) (rest : List RraReq) (s : State), s.dev.station.rraQ = q :: rest → q.todo = [] → q.red = true →
    s.dev.redundant = true →
    Answers .rraResponse s fun t =>
      t.dev.station.rraQ = rest ∧ t.dev.on F.STATION_RRA_EVT_DONE = true ∧
      t.dev.rd F.STATION_RED_SEQ_SEQ = (s.dev.rd F.STATION_RED_SEQ_SEQ + 1) % 2 ^ 16 ∧
      (∀ x < 2, (t.dev.sport x).rsp = (s.dev.sport x).rsp ++ [(q.src ++ beBytes 6 (s.dev.portMac q.port) ++
        beBytes 2 (s.dev.rd F.STATION_RRA_CFG_ETYPE) ++ s.dev.rraPayload q, some (s.dev.rd F.STATION_RED_SEQ_SEQ))]) ∧
      SameRegs s.dev t.dev [.STATION_SES_STAT q.ses, .STATION_RRA_EVT, .STATION_RED_SEQ, .IR_SRC_ROUTE 122])

/-- O49. Supplies and power domains (R345 to R351): the VIN warning, its counts and its condition; the measurement and
its minimum; loss of VIN; VDDA and its recovery; regulator faults; a write of `PWR.DOM` that no rule refuses switches
what it changes, and one that a rule refuses changes nothing; the end of a switching. Where this rests on the model's
choices: log entries 9, 109, 113, 117 and 119. -/
def Obligations.SuppliesAndDomains : Prop :=
  (∀ (s : State), s.dev.rst.vinUp = true → s.dev.on F.PWR_VMON_WARN = false →
    Answers .vinWarn s fun t =>
      t.dev.on F.PWR_VMON_WARN = true ∧ t.dev.on F.PWR_EVT_WARN = true ∧
      t.dev.rd F.PWR_VMON_CNT_DIPS = satAdd (s.dev.rd F.PWR_VMON_CNT_DIPS) 1 65535 ∧ t.dev.pwr.warnAt = s.dev.now ∧
      t.dev.pwr.warnLong = false ∧ SameRegs s.dev t.dev [.PWR_VMON, .PWR_EVT, .PWR_VMON_CNT]) ∧
  (∀ (s : State), s.dev.on F.PWR_VMON_WARN = true → s.dev.pwr.warnLong = false →
    Answers .vinWarnHeld s fun t =>
      t.dev.now = max s.dev.now (s.dev.pwr.warnAt + 20000) ∧ t.dev.scored 50 ∧ bitAt t.dev.fc.cond 50 = true ∧
      t.dev.rd F.PWR_VMON_CNT_LONG = satAdd (s.dev.rd F.PWR_VMON_CNT_LONG) 1 65535 ∧ t.dev.pwr.warnLong = true ∧
      SameRegsBut s.dev t.dev 50 [.PWR_VMON_CNT]) ∧
  (∀ (s : State), s.dev.on F.PWR_VMON_WARN = true →
    Answers .vinWarnEnd s fun t =>
      t.dev.on F.PWR_VMON_WARN = false ∧ t.dev.on F.PWR_EVT_WARN_END = true ∧ t.dev.pwr.warnLong = false ∧
      (s.dev.pwr.warnLong = true → bitAt t.dev.fc.cond 50 = false) ∧
      SameRegs s.dev t.dev [.PWR_VMON, .PWR_EVT]) ∧
  (∀ (mv : BitVec 13) (s : State), s.dev.rst.vinUp = true →
    Answers (.vinMeasure mv) s fun t =>
      t.dev.rd F.PWR_VMON_VIN = mv.toNat ∧ t.dev.now = max s.dev.now (s.dev.pwr.measAt + 10000) ∧
      t.dev.rd F.PWR_VMIN_MIN = (if s.dev.pwr.vminClear then mv.toNat else min mv.toNat (s.dev.rd F.PWR_VMIN_MIN)) ∧
      t.dev.pwr.vminClear = false ∧ SameRegs s.dev t.dev [.PWR_VMON, .PWR_VMIN]) ∧
  (∀ (m : Nat) (v : Word) (s : State), (Instr.vminClear m v).wf = true → Accepts vminWrite m .PWR_VMIN v.toNat s.dev →
    Answers (.vminClear m v) s fun t =>
      t.dev.pwr.vminClear = true ∧ t.dev.word .PWR_VMIN = s.dev.word .PWR_VMIN ∧
      SameRegs s.dev t.dev [.PG_ERR .PWR]) ∧
  (∀ (s : State), Answers .vinResetLevel s fun t =>
      t.mem = [] ∧ t.dev.rst.vinUp = false ∧ t.dev.rst.hold = 1 ∧ t.dev.sec.otp = s.dev.sec.otp ∧
      t.dev.now = s.dev.now ∧ t.pending = s.pending ∧
      ∀ r, r ≠ .PWR_VMON → t.dev.regs.get r = State.reset.dev.regs.get r) ∧
  (∀ (s : State), Answers .vddaLow s fun t =>
      t.dev.on F.PWR_VMON_VDDA_LOW = true ∧ t.dev.pwr.vddaBad = true ∧
      (s.dev.on F.PWR_VMON_VDDA_LOW = false → t.dev.on F.PWR_EVT_VDDA_LOW = true) ∧
      SameRegs s.dev t.dev [.PWR_VMON, .PWR_EVT]) ∧
  (∀ (s : State), s.dev.on F.PWR_VMON_VDDA_LOW = true →
    Answers .vddaRecover s fun t =>
      t.dev.on F.PWR_VMON_VDDA_LOW = false ∧ t.dev.pwr.vddaAt = s.dev.now ∧ t.dev.pwr.vddaBad = s.dev.pwr.vddaBad ∧
      SameRegs s.dev t.dev [.PWR_VMON]) ∧
  (∀ (s : State), s.dev.pwr.vddaBad = true → s.dev.on F.PWR_VMON_VDDA_LOW = false →
    Answers .vddaRecoveryEnd s fun t =>
      t.dev.pwr.vddaBad = false ∧ t.dev.now = max s.dev.now (s.dev.pwr.vddaAt + 300000) ∧ t.dev.regs = s.dev.regs) ∧
  (∀ (r : Fin 3) (s : State), s.dev.bit F.PWR_IVR_FAULT r = false →
    Answers (.ivrFault r) s fun t =>
      t.dev.bit F.PWR_IVR_FAULT r = true ∧ t.dev.bit F.PWR_IVR_SEEN r = true ∧ t.dev.on F.PWR_EVT_IVR = true ∧
      bitAt t.dev.fc.cond 51 = true ∧ t.dev.scored 51 ∧ SameRegsBut s.dev t.dev 51 [.PWR_IVR, .PWR_EVT]) ∧
  (∀ (r : Fin 3) (s : State), s.dev.bit F.PWR_IVR_FAULT r = true →
    Answers (.ivrFaultEnd r) s fun t =>
      t.dev.bit F.PWR_IVR_FAULT r = false ∧ t.dev.rd F.PWR_IVR_SEEN = s.dev.rd F.PWR_IVR_SEEN ∧
      (t.dev.rd F.PWR_IVR_FAULT = 0 → bitAt t.dev.fc.cond 51 = false) ∧
      (t.dev.rd F.PWR_IVR_FAULT ≠ 0 → t.dev.fc = s.dev.fc) ∧ SameRegs s.dev t.dev [.PWR_IVR]) ∧
  (∀ (m : Nat) (v : Word) (s : State), Accepts domWrite m .PWR_DOM v.toNat s.dev → s.dev.basicLocked .PWR = false →
    (∀ i < 10, bitAt (s.dev.word .PWR_DOM) i = true → bitAt v.toNat i = false → s.dev.domRefused m i = false) →
    Answers (.domWrite m v) s fun t =>
      t.dev.rd F.PWR_DOM_ON = bitsOf v.toNat 2 8 ∧
      (∀ r, r ∉ [.PWR_DOM, .PWR_DOM_STAT, .PG_ERR .PWR] →
        t.dev.domUp r.page.domain = s.dev.domUp r.page.domain → t.dev.regs.get r = s.dev.regs.get r) ∧
      ∀ i, 2 ≤ i → i < 10 → s.dev.bit F.PWR_DOM_STAT_TRANS i = false →
        let want := bitAt v.toNat i && !bitAt s.dev.pwr.off i && !bitAt s.dev.pwr.cooling i
        t.dev.bit F.PWR_DOM_STAT_TRANS i = (want != s.dev.domUp i) ∧ t.dev.domUp i = (want && s.dev.domUp i)) ∧
  (∀ (m i : Nat) (v : Word) (s : State), Accepts domWrite m .PWR_DOM v.toNat s.dev → s.dev.basicLocked .PWR = false →
    i < 10 → bitAt (s.dev.word .PWR_DOM) i = true → bitAt v.toNat i = false → s.dev.domRefused m i = true →
    Answers (.domWrite m v) s fun t =>
      t.dev.bit (F.PG_ERR_BLK .PWR) 1 = true ∧ t.dev.pwr = s.dev.pwr ∧ SameRegs s.dev t.dev [.PG_ERR .PWR]) ∧
  (∀ (dom : Fin 10) (forced : Option (Fin 21)) (s : State), 2 ≤ dom.val →
    s.dev.bit F.PWR_DOM_STAT_TRANS dom = true → bitAt s.dev.pwr.upwards dom = true → s.dev.wanted dom = true →
    Answers (.domSwitchDone dom forced) s fun t =>
      t.dev.domUp dom = true ∧ t.dev.bit F.PWR_DOM_STAT_TRANS dom = false ∧ t.dev.on F.PWR_EVT_DOM_DONE = true ∧
      (∀ r, r ∉ [.PWR_DOM_STAT, .PWR_EVT] → r.page.domain ≠ dom.val →
        t.dev.domUp r.page.domain = s.dev.domUp r.page.domain → t.dev.regs.get r = s.dev.regs.get r) ∧
      (dom.val ≠ 6 → t.mem = s.mem) ∧
      (dom.val = 6 → (∀ a, traceBase ≤ a → a < traceBase + 0x80000 → memGet t.mem a = 0) ∧
        (∀ a, telemBase ≤ a → a < telemBase + 0x8000 → memGet t.mem a = 0) ∧
        (∀ a, secBase ≤ a → a < progBase + 0x10000 →
          memGet t.mem a = if bitAt s.dev.pwr.kept 6 then memGet s.mem a else 0) ∧
        (∀ a, (a < secBase ∨ (progBase + 0x10000 ≤ a ∧ a < traceBase) ∨ (traceBase + 0x80000 ≤ a ∧ a < telemBase) ∨
            telemBase + 0x8000 ≤ a) → memGet t.mem a = memGet s.mem a))) ∧
  (∀ (dom : Fin 10) (forced : Option (Fin 21)) (s : State), 2 ≤ dom.val →
    s.dev.bit F.PWR_DOM_STAT_TRANS dom = true → bitAt s.dev.pwr.upwards dom = false → s.dev.wanted dom = false →
    s.dev.domUp dom = false →
    Answers (.domSwitchDone dom forced) s fun t =>
      t.dev.domUp dom = false ∧ t.dev.bit F.PWR_DOM_STAT_TRANS dom = false ∧ t.dev.on F.PWR_EVT_DOM_DONE = true ∧
      (∀ b, forced = some b → t.dev.rd F.CLK_GATE_STAT_LAST_FORCED = b ∧ t.dev.bit (F.PG_ERR_BLK .CLK) 2 = true) ∧
      (∀ r, r ∉ [.PWR_DOM_STAT, .PWR_EVT, .PG_ERR .CLK, .CLK_GATE_STAT] →
        t.dev.domUp r.page.domain = s.dev.domUp r.page.domain → t.dev.regs.get r = s.dev.regs.get r) ∧
      t.mem = s.mem)

/-- O50. Power states (R352 to R360): a request is refused by the rule of R353 or begins its transition; an entry
blocks, holds loops, and switches its domains after 20 us, at a thermal shutdown also those that are switching on; the
end of a transition shows the state; a SHED request of the fault collector ends after its quiet time. Where this rests
on the model's choices: log entries 9, 110, 111, 112 and 118. -/
def Obligations.PowerStates : Prop :=
  (∀ (m : Nat) (v : Word) (s : State), (Instr.reqStandby m v).wf = true →
    Accepts stateWrite m .PWR_STATE v.toNat s.dev →
    isSafe m = true → s.dev.reqRefused 2 = false →
    Answers (.reqStandby m v) s fun t =>
      t.dev.on F.PWR_STATE_BUSY = true ∧ t.dev.rd F.PWR_STATE_REQ = 2 ∧
      (s.dev.pwr.since ≠ s.dev.now → t.dev.rd F.PWR_STATE_CUR = s.dev.rd F.PWR_STATE_CUR) ∧ t.dev.pwr.target = 2 ∧
        t.dev.pwr.powerBlock = true ∧
      t.dev.pwr.loopsHeld = true ∧ t.dev.rd (F.PG_PROG_POSITION .PWR) = 1 ∧
      (∀ n < 32, s.dev.rimOn n = true → t.dev.blockInForce n = true) ∧
      SameRegs s.dev t.dev [.PWR_STATE, .PG_PROG .PWR, .PG_STAT .PWR, .PG_ERR .PWR]) ∧
  (∀ (m : Nat) (v : Word) (s : State), (Instr.reqHibernate m v).wf = true →
    Accepts stateWrite m .PWR_STATE v.toNat s.dev → isSafe m = true → s.dev.reqRefused 3 = false →
    Answers (.reqHibernate m v) s fun t =>
      t.dev.on F.PWR_STATE_BUSY = true ∧ t.dev.rd F.PWR_STATE_REQ = 3 ∧
      (s.dev.pwr.since ≠ s.dev.now → t.dev.rd F.PWR_STATE_CUR = s.dev.rd F.PWR_STATE_CUR) ∧ t.dev.pwr.target = 3 ∧
        t.dev.pwr.powerBlock = true ∧
      t.dev.pwr.loopsHeld = true ∧ t.dev.rd (F.PG_PROG_POSITION .PWR) = 1 ∧
      SameRegs s.dev t.dev [.PWR_STATE, .PG_PROG .PWR, .PG_STAT .PWR, .PG_ERR .PWR]) ∧
  (∀ (m : Nat) (v : Word) (s : State), (Instr.reqShed m v).wf = true → Accepts stateWrite m .PWR_STATE v.toNat s.dev →
    isSafe m = true → s.dev.reqRefused 1 = false →
    Answers (.reqShed m v) s fun t =>
      t.dev.rd F.PWR_STATE_CUR = 1 ∧ t.dev.rd F.PWR_STATE_CAUSE = 1 ∧ t.dev.rd F.PWR_STATE_REQ = 1 ∧
      t.dev.on F.PWR_EVT_STATE_CHANGE = true ∧ t.dev.on F.PWR_STATE_BUSY = false ∧
      SameRegs s.dev t.dev [.PWR_STATE, .PWR_EVT, .PG_ERR .PWR]) ∧
  (∀ (m : Nat) (v : Word) (s : State), (Instr.reqRun m v).wf = true → Accepts stateWrite m .PWR_STATE v.toNat s.dev →
    isSafe m = true → s.dev.reqRefused 0 = false →
    Answers (.reqRun m v) s fun t =>
      t.dev.rd F.PWR_STATE_REQ = 0 ∧
      (s.dev.rd F.PWR_STATE_CUR = 1 → s.dev.fc.shedReq = false →
        t.dev.rd F.PWR_STATE_CUR = 0 ∧ t.dev.rd F.PWR_STATE_CAUSE = 1) ∧
      (s.dev.rd F.PWR_STATE_CUR = 1 → s.dev.fc.shedReq = true →
        t.dev.rd F.PWR_STATE_CUR = 1 ∧ t.dev.pwr.runAtEnd = true) ∧
      (2 ≤ s.dev.rd F.PWR_STATE_CUR → t.dev.on F.PWR_STATE_BUSY = true ∧ t.dev.pwr.target = 0 ∧
        t.dev.rd (F.PG_PROG_POSITION .PWR) = 2 ∧ t.dev.pwr.off = 0) ∧
      (∀ r, r ∉ [.PWR_STATE, .PWR_EVT, .PWR_DOM_STAT, .PG_PROG .PWR, .PG_STAT .PWR, .PG_ERR .PWR] →
        t.dev.domUp r.page.domain = s.dev.domUp r.page.domain → t.dev.regs.get r = s.dev.regs.get r)) ∧
  (∀ (m : Nat) (v : Word) (s : State), Accepts stateWrite m .PWR_STATE v.toNat s.dev → isSafe m = true →
    bitsOf v.toNat 0 3 < 4 → s.dev.reqRefused (bitsOf v.toNat 0 3) = true →
    ∀ c, c = Instr.reqRun m v ∨ c = .reqShed m v ∨ c = .reqStandby m v ∨ c = .reqHibernate m v →
      Answers c s fun t =>
        t.dev.bit (F.PG_ERR_BLK .PWR) 0 = true ∧ t.dev.pwr = s.dev.pwr ∧ SameRegs s.dev t.dev [.PG_ERR .PWR]) ∧
  (∀ (m : Nat) (v : Word) (s : State), Accepts stateWrite m .PWR_STATE v.toNat s.dev → isSafe m = false →
    ∀ c, c = Instr.reqRun m v ∨ c = .reqShed m v ∨ c = .reqStandby m v ∨ c = .reqHibernate m v →
      Answers c s fun t => t.dev.pwr = s.dev.pwr ∧ SameRegs s.dev t.dev [.PG_ERR .PWR]) ∧
  (∀ (s : State), s.dev.on F.PWR_STATE_BUSY = true → 2 ≤ s.dev.pwr.target → s.dev.pwr.switched = false →
    Answers .powerDomainSwitch s fun t =>
      t.dev.pwr.switched = true ∧ t.dev.pwr.off = s.dev.stateOff s.dev.pwr.target ∧
      t.dev.rd (F.PG_PROG_POSITION .PWR) = 3 ∧ t.dev.now = max s.dev.now (s.dev.pwr.since + 20000) ∧
      (s.dev.pwr.cause = 4 → ∀ i, 2 ≤ i → i < 10 → bitAt (s.dev.stateOff s.dev.pwr.target) i = true →
        s.dev.bit F.PWR_DOM_STAT_TRANS i = true → bitAt s.dev.pwr.upwards i = true →
          bitAt t.dev.pwr.upwards i = false) ∧
      (∀ r, r ∉ [.PWR_DOM_STAT, .PG_PROG .PWR] → s.dev.bit F.PWR_DOM_STAT_TRANS r.page.domain = false →
        t.dev.domUp r.page.domain = s.dev.domUp r.page.domain → t.dev.regs.get r = s.dev.regs.get r) ∧
      ∀ i, 2 ≤ i → i < 10 → bitAt (s.dev.stateOff s.dev.pwr.target) i = true →
        s.dev.bit F.PWR_DOM_STAT_TRANS i = false → t.dev.domUp i = false ∧
          t.dev.bit F.PWR_DOM_STAT_TRANS i = s.dev.domUp i) ∧
  (∀ (s : State), s.dev.on F.PWR_STATE_BUSY = true → s.dev.pwr.switched = true → s.dev.settled = true →
    (s.dev.pwr.target ≠ 0 ∨ s.dev.domUp domMEM = false ∨ s.dev.memory.sramOk = true) →
    Answers .powerTransitionDone s fun t =>
      t.dev.on F.PWR_STATE_BUSY = false ∧ t.dev.on F.PWR_EVT_STATE_CHANGE = true ∧
      t.dev.on (F.PG_STAT_BUSY .PWR) = false ∧ t.dev.rd (F.PG_PROG_PERCENT .PWR) = 100 ∧
      (s.dev.pwr.target ≠ 0 → t.dev.rd F.PWR_STATE_CUR = s.dev.pwr.target % 8 ∧
        t.dev.rd F.PWR_STATE_CAUSE = s.dev.pwr.cause % 16 ∧ t.dev.pwr.powerBlock = s.dev.pwr.powerBlock) ∧
      (s.dev.pwr.target = 0 → t.dev.pwr.powerBlock = false ∧ t.dev.pwr.loopsHeld = false ∧
        t.dev.rd F.PWR_STATE_CUR = (if s.dev.fc.shedReq then 1 else 0) ∧
        t.dev.rd F.PWR_STATE_CAUSE = if s.dev.fc.shedReq then 2 else s.dev.pwr.cause % 16) ∧
      (s.dev.pwr.target ≠ 0 ∨ s.dev.time.stepCmd = 0 →
        SameRegs s.dev t.dev [.PWR_STATE, .PWR_EVT, .PG_PROG .PWR, .PG_STAT .PWR])) ∧
  (∀ (s : State), s.dev.fc.shedReq = true → (∀ n < 64, s.dev.asserted n = true → s.dev.srcClass n ≠ 3) →
    Answers .shedRequestEnd s fun t =>
      t.dev.fc.shedReq = false ∧ t.dev.now = max s.dev.now (s.dev.fc.shedSince + s.dev.quietNs) ∧
      (s.dev.rd F.PWR_STATE_CUR = 1 → s.dev.on F.PWR_STATE_BUSY = false → s.dev.pwr.shedByFc = true →
        t.dev.rd F.PWR_STATE_CUR = 0 ∧ t.dev.rd F.PWR_STATE_CAUSE = 3) ∧
      (s.dev.rd F.PWR_STATE_CUR ≠ 1 → t.dev.regs = s.dev.regs) ∧
      SameRegs s.dev t.dev [.PWR_STATE, .PWR_EVT])

/-- O51. Resets (R7, R8, R346, R362 to R369, R372): a cause of a reset begins its hold; a pin, host or safety reset
copies the Scoreboard, clears it, and takes every page's ENABLE to 0, but leaves memory and OTP; a service reset
closes the sessions; the end of the hold records its kinds and starts the boot; power-on samples the straps. Where
this rests on the model's choices: log entries 126 to 132. -/
def Obligations.Resets : Prop :=
  (∀ (m : Nat) (v : Word) (s : State), (Instr.resetHost m v).wf = true → Accepts reqWrite m .RST_REQ v.toNat s.dev →
    bitsOf v.toNat 16 16 = 0xD1CE → m ≠ 11 → s.dev.rst.hold ≠ 1 →
    Answers (.resetHost m v) s fun t =>
      t.dev.rst.hold = 3 ∧ t.dev.rst.since = s.dev.now ∧ t.dev.rst.hostSrc = 0 ∧ bitAt t.dev.rst.kinds 2 = true ∧
      t.dev.rst.override_ = (if bitAt v.toNat 4 then some (bitsOf v.toNat 5 2) else none) ∧
      (s.dev.rst.hold = 0 ∨ s.dev.rst.hold = 5 →
        t.dev.word .FC_LAST_LO = s.dev.word .FC_SCORE_LO ∧ t.dev.word .FC_LAST_HI = s.dev.word .FC_SCORE_HI) ∧
      t.dev.score = 0 ∧ (∀ p, t.dev.enabled p = false) ∧ t.dev.rd F.PWR_STATE_CUR = 0 ∧ t.dev.sec.otp = s.dev.sec.otp ∧
      t.mem = s.mem ∧ t.pending = s.pending) ∧
  (∀ (m : Nat) (v : Word) (s : State), (Instr.resetSafety m v).wf = true → Accepts reqWrite m .RST_REQ v.toNat s.dev →
    bitsOf v.toNat 16 16 = 0xD1CE → s.dev.rst.hold ≠ 1 →
    Answers (.resetSafety m v) s fun t =>
      t.dev.rst.hold = 4 ∧ t.dev.rst.since = s.dev.now ∧ bitAt t.dev.rst.kinds 3 = true ∧
      (s.dev.rst.hold = 0 ∨ s.dev.rst.hold = 5 →
        t.dev.word .FC_LAST_LO = s.dev.word .FC_SCORE_LO ∧ t.dev.word .FC_LAST_HI = s.dev.word .FC_SCORE_HI) ∧
      t.dev.score = 0 ∧ (∀ p, t.dev.enabled p = false) ∧ t.dev.rd F.PWR_STATE_CUR = s.dev.rd F.PWR_STATE_CUR ∧
      t.dev.sec.otp = s.dev.sec.otp ∧ t.mem = s.mem) ∧
  (∀ (m : Nat) (v : Word) (s : State), (Instr.resetService m v).wf = true → Accepts reqWrite m .RST_REQ v.toNat s.dev →
    bitsOf v.toNat 16 16 = 0xD1CE → s.dev.rst.hold = 0 →
    Answers (.resetService m v) s fun t =>
      t.dev.rst.hold = 5 ∧ t.dev.rst.since = s.dev.now ∧ (∀ i, t.dev.coreRuns i = false) ∧
      (∀ j < 8, t.dev.on (F.STATION_SES_CTRL_EN j) = false) ∧ t.dev.station.rraQ = [] ∧ t.dev.station.rraIn = [] ∧
      t.mem = s.mem ∧
      ∀ r, r.page ≠ .STATION 15 → (∀ k, r ≠ .IR_SRC_ROUTE k) → r ≠ .PG_ERR .RST → t.dev.regs.get r = s.dev.regs.get r) ∧
  (∀ (m : Nat) (v : Word) (s : State), Accepts reqWrite m .RST_REQ v.toNat s.dev → bitsOf v.toNat 16 16 ≠ 0xD1CE →
    ∀ c, c = Instr.resetHost m v ∨ c = .resetSafety m v ∨ c = .resetService m v →
      Answers c s fun t =>
        t.dev.bit (F.PG_ERR_BLK .RST) 0 = true ∧ t.dev.rst = s.dev.rst ∧ SameRegs s.dev t.dev [.PG_ERR .RST]) ∧
  (∀ (s : State), s.dev.rst.vinUp = true → s.dev.rst.hold ≠ 1 →
    Answers .pinReset s fun t =>
      t.dev.rst.hold = 2 ∧ t.dev.rst.pinLow = true ∧ t.dev.rst.since = s.dev.now ∧ bitAt t.dev.rst.kinds 1 = true ∧
      (s.dev.rst.hold = 0 ∨ s.dev.rst.hold = 5 →
        t.dev.word .FC_LAST_LO = s.dev.word .FC_SCORE_LO ∧ t.dev.word .FC_LAST_HI = s.dev.word .FC_SCORE_HI) ∧
      t.dev.score = 0 ∧ (∀ p, t.dev.enabled p = false) ∧ (∀ m, m ≠ 12 → t.dev.canIssue m = false) ∧
      t.dev.sec.otp = s.dev.sec.otp ∧ t.mem = s.mem) ∧
  (∀ (s : State), s.dev.rst.pinLow = true →
    Answers .resetNRise s fun t =>
      t.dev.rst.pinLow = false ∧ t.dev.regs = s.dev.regs ∧
      t.dev.rst.since = (if 2 ≤ s.dev.rst.hold ∧ s.dev.rst.hold ≤ 4 then s.dev.now else s.dev.rst.since)) ∧
  (∀ (s : State), (s.dev.rst.hold = 2 ∨ s.dev.rst.hold = 3 ∨ s.dev.rst.hold = 4) → s.dev.rst.pinLow = false →
    Answers .resetRelease s fun t =>
      t.dev.rst.hold = 0 ∧ t.dev.rst.kinds = 0 ∧ t.dev.rst.booting = true ∧ t.dev.rd F.SVCPORT_BOOT_STAGE = 0 ∧
      t.dev.now = max s.dev.now (s.dev.rst.since + 10000) ∧ t.dev.rd F.RST_CAUSE_KINDS = s.dev.rst.kinds % 32 ∧
      t.dev.rd F.RST_COUNT_PIN = satAdd (s.dev.rd F.RST_COUNT_PIN) (b2n (bitAt s.dev.rst.kinds 1)) 255 ∧
      t.dev.rd F.RST_COUNT_HOST = satAdd (s.dev.rd F.RST_COUNT_HOST) (b2n (bitAt s.dev.rst.kinds 2)) 255 ∧
      t.dev.rd F.RST_COUNT_SAFETY = satAdd (s.dev.rd F.RST_COUNT_SAFETY) (b2n (bitAt s.dev.rst.kinds 3)) 255 ∧
      t.dev.rd F.RST_STRAP_EFF_SRC = s.dev.rst.override_.getD (s.dev.rd F.RST_STRAP_BOOTSRC) % 4 ∧
      (∀ p, t.dev.enabled p = false) ∧ t.mem = s.mem) ∧
  (∀ (s : State), s.dev.rst.hold = 1 → s.dev.rst.vinUp = true →
    Answers .resetRelease s fun t =>
      t.dev.domUp domSAFE = true ∧ t.dev.domUp domTIME = true ∧
      (s.dev.rst.pinLow = false → t.dev.rst.hold = 0 ∧ t.dev.rst.booting = true ∧
        t.dev.rd F.RST_CAUSE_KINDS = s.dev.rst.kinds % 32 ∧ t.dev.rd F.SVCPORT_BOOT_STAGE = 0) ∧
      (s.dev.rst.pinLow = true → t.dev.rst.hold = 2 ∧ t.dev.rst.since = s.dev.now ∧ bitAt t.dev.rst.kinds 1 = true)) ∧
  (∀ (s : State), s.dev.rst.hold = 5 →
    Answers .resetRelease s fun t =>
      t.dev.rst.hold = 0 ∧ t.dev.now = max s.dev.now (s.dev.rst.since + 1000) ∧
      t.dev.rd F.RST_COUNT_SERVICE = satAdd (s.dev.rd F.RST_COUNT_SERVICE) (b2n (bitAt s.dev.rst.kinds 4)) 255 ∧
      (s.dev.on F.RST_RELEASE_SVC = true → t.dev.sec.svcPc = s.dev.rd F.RST_SVC_ENTRY_ADDR) ∧
      t.mem = s.mem ∧ SameRegs s.dev t.dev [.RST_COUNT, .RST_CAUSE]) ∧
  (∀ (src : BitVec 2) (id : Bool) (s : State), s.dev.rst.vinUp = false →
    Answers (.powerOnReset src id) s fun t =>
      t.dev.rst.vinUp = true ∧ t.dev.rst.hold = 1 ∧ t.mem = [] ∧ t.dev.rd F.RST_STRAP_BOOTSRC = src.toNat ∧
      t.dev.on F.RST_STRAP_TANDEM_ID = id ∧ t.dev.domUp domSAFE = true ∧ t.dev.domUp domTIME = true ∧
      t.dev.rd F.SVCPORT_ID3_VAL = s.dev.sec.otp.uid.toNat % 2 ^ 32 ∧
      t.dev.rd F.SVCPORT_ID2_VAL = s.dev.sec.otp.uid.toNat / 2 ^ 32 ∧ t.dev.score = 0 ∧
      (∀ m, m ≠ 12 → t.dev.canIssue m = false) ∧ t.dev.sec.otp = s.dev.sec.otp ∧ t.pending = s.pending) ∧
  (∀ (src : BitVec 2) (id : Bool) (s : State), s.dev.rst.vinUp = true →
    Answers (.powerOnReset src id) s fun t => t = s)

/-- O52. The service port (R373 to R377): transactions give the status byte first; a status read clears ERR; words are
read and written upwards; a WRITE that does not keep 64-bit units in staging RAM is refused; RESET with its key begins
a host reset; staging RAM passes to SAFECLK. Where this rests on the model's choices: log entry 146. -/
def Obligations.ServicePort : Prop :=
  (∀ (n : Nat) (s : State), s.dev.rst.vinUp = true →
    Answers (.svcStatus n) s fun t =>
      t.dev.rst.sdo = List.replicate (n + 1) (BitVec.ofNat 8 s.dev.svcStatus) ∧ t.dev.rst.svcErr = false ∧
      t.dev.regs = s.dev.regs ∧
      ((s.dev.rst.stagingSafe = true ∨ s.dev.rst.stgReady = true) → t.mem = s.mem) ∧
      (s.dev.rst.stagingSafe = false → s.dev.rst.stgReady = false → 8192 ≤ s.dev.rst.sckClear + 8 * (n + 1) →
        t.dev.rst.stgReady = true ∧
        (∀ a, stagingBase ≤ a → a < stagingBase + 0x10000 → memGet t.mem a = 0) ∧
        (∀ a, a < stagingBase ∨ stagingBase + 0x10000 ≤ a → memGet t.mem a = memGet s.mem a))) ∧
  (∀ (s : State), s.dev.rst.vinUp = true →
    Answers .svcId s fun t =>
      t.dev.rst.sdo = BitVec.ofNat 8 s.dev.svcStatus ::
        (sdoWord (s.dev.word .SVCPORT_ID0) ++ sdoWord (s.dev.word .SVCPORT_ID1) ++ sdoWord (s.dev.word .SVCPORT_ID2) ++
          sdoWord (s.dev.word .SVCPORT_ID3)) ∧ t.dev.regs = s.dev.regs) ∧
  (∀ (a : Word) (n : Nat) (errs : List EccErr) (s : State), s.dev.rst.vinUp = true →
    Answers (.svcRead a n errs) s fun t => t.dev.rst.sdo.length = 1 + 4 * n ∧
      t.dev.rst.sdo.head? = some (BitVec.ofNat 8 s.dev.svcStatus) ∧ (s.dev.rst.stgReady = true → t.mem = s.mem)) ∧
  (∀ (a : Word) (errs : List EccErr) (s : State), s.dev.rst.vinUp = true → s.dev.rst.stgReady = true →
    let u := busRead 12 a.toNat 4 errs s.mem s.dev
    Answers (.svcRead a 1 errs) s fun t =>
      t.dev.rst.sdo = BitVec.ofNat 8 s.dev.svcStatus :: sdoWord u.resp.data ∧ t.dev.rst.svcCode = u.resp.code.code ∧
      t.dev.regs = u.regs ∧ t.mem = s.mem) ∧
  (∀ (a x y : Word) (s : State), s.memWf → s.dev.rst.vinUp = true → MemRange.at a.toNat = some .staging →
    a.toNat % 8 = 0 → s.dev.allowed 12 (.mem .staging) true = true → s.dev.memGated .staging = false →
    Answers (.svcWrite a [x, y] []) s fun t =>
      (∀ i < 8, memGet t.mem (a.toNat + i) = (leBytes 4 x.toNat ++ leBytes 4 y.toNat).getD i 0) ∧
      (∀ i, (i < a.toNat ∨ a.toNat + 8 ≤ i) → memGet t.mem i = memGet s.mem i) ∧
      t.dev.rst.sdo = [BitVec.ofNat 8 s.dev.svcStatus] ∧ t.dev.rst.svcErr = s.dev.rst.svcErr ∧ t.dev.rst.svcCode = 0 ∧
      (s.dev.sec.watch = none → t.dev.regs = s.dev.regs)) ∧
  (∀ (a : Word) (ws : List Word) (errs : List EccErr) (s : State), s.dev.rst.vinUp = true → s.dev.rst.stgReady = true →
    MemRange.at a.toNat = some .staging → (a.toNat % 8 ≠ 0 ∨ ws.length % 2 = 1) →
    Answers (.svcWrite a ws errs) s fun t =>
      t.dev.rst.svcErr = true ∧ t.dev.rst.svcCode = 1 ∧ t.dev.scored 58 ∧ t.mem = s.mem ∧
      SameRegsBut s.dev t.dev 58 [.SYS_BERR_ADDR, .SYS_BERR_INFO]) ∧
  (∀ (k1 k2 o : BitVec 8) (s : State), s.dev.rst.vinUp = true → s.dev.rst.hold ≠ 1 → k1 = 0xD1 → k2 = 0xCE →
    Answers (.svcReset k1 k2 o) s fun t =>
      t.dev.rst.hold = 3 ∧ t.dev.rst.since = s.dev.now ∧ t.dev.rst.hostSrc = 3 ∧
      t.dev.rst.override_ = (if bitAt o.toNat 7 then some (o.toNat % 4) else none) ∧
      (s.dev.rst.hold = 0 ∨ s.dev.rst.hold = 5 → t.dev.word .FC_LAST_LO = s.dev.word .FC_SCORE_LO)) ∧
  (∀ (k1 k2 o : BitVec 8) (s : State), s.dev.rst.vinUp = true → (k1 ≠ 0xD1 ∨ k2 ≠ 0xCE) →
    Answers (.svcReset k1 k2 o) s fun t => t.dev.rst.hold = s.dev.rst.hold ∧ t.dev.regs = s.dev.regs) ∧
  (∀ (s : State), s.dev.rst.vinUp = true → s.dev.clk.pllS.released = true → s.dev.rst.stagingSafe = false →
    Answers .stagingHandover s fun t =>
      t.dev.rst.stagingSafe = true ∧ t.dev.regs = s.dev.regs ∧ t.mem = s.mem)

/-- O53. The boot (R373, R378 to R380, R396, R397): each stage ends when its condition is met; a bank is chosen by its
state and generation; an image that fails sends a flash boot back to stage 4 and stops another; the firmware of stages
6 and 7 is put at its LOAD; network frames write staging RAM and end the wait. Where this rests on the model's
choices: log entries 137 to 144. -/
def Obligations.Boot : Prop :=
  (∀ (m : Nat) (v : Word) (s : State), Accepts goWrite m .SVCPORT_GO v.toNat s.dev →
    Answers (.svcportGo m v) s fun t =>
      t.dev.rst.go = (s.dev.rst.go || (s.dev.rst.booting && s.dev.rd F.SVCPORT_BOOT_STAGE == 4 &&
        s.dev.rd F.RST_STRAP_EFF_SRC == 1)) ∧ SameRegs s.dev t.dev [.PG_ERR .SVCPORT]) ∧
  (∀ (a b l : List (BitVec 8)) (s : State), s.dev.rst.booting = true → s.dev.rst.hold = 0 →
    s.dev.rd F.SVCPORT_BOOT_STAGE = 0 → s.dev.clk.pllS.released = true →
    Answers (.bootStageEnd 0 a b l) s fun t =>
      t.dev.on F.PROT_STAT_RUNNING = true ∧
      t.dev.rd F.SVCPORT_BOOT_STAGE = (if bitAt (s.dev.rd F.RST_CAUSE_KINDS) 0 then 1 else 2) ∧ t.mem = s.mem ∧
      SameRegs s.dev t.dev [.SVCPORT_BOOT, .PG_PROG .SVCPORT, .PROT_STAT]) ∧
  (∀ (a b l : List (BitVec 8)) (s : State), s.dev.rst.booting = true → s.dev.rst.hold = 0 →
    s.dev.rd F.SVCPORT_BOOT_STAGE = 1 → s.dev.rst.safeReady = true →
    Answers (.bootStageEnd 0 a b l) s fun t =>
      t.dev.rd F.SVCPORT_BOOT_STAGE = 2 ∧ t.mem = s.mem ∧ SameRegs s.dev t.dev [.SVCPORT_BOOT, .PG_PROG .SVCPORT]) ∧
  (∀ (a b l : List (BitVec 8)) (s : State), s.dev.rst.booting = true → s.dev.rst.hold = 0 →
    s.dev.rd F.SVCPORT_BOOT_STAGE = 2 →
    Answers (.bootStageEnd 0 a b l) s fun t =>
      t.dev.rd F.SVCPORT_BOOT_STAGE = 3 ∧ t.dev.on F.RST_CAUSE_COOLED = !s.dev.cooled ∧ t.mem = s.mem ∧
      SameOutside s.dev t.dev [.SVCPORT, .RST, .KEYS 0]) ∧
  (∀ (a b l : List (BitVec 8)) (s : State), s.dev.rst.booting = true → s.dev.rst.hold = 0 →
    s.dev.rd F.SVCPORT_BOOT_STAGE = 3 → s.dev.cooled = true →
    Answers (.bootStageEnd 0 a b l) s fun t =>
      t.dev.rd F.SVCPORT_BOOT_STAGE = 4 ∧ t.mem = s.mem ∧ SameRegs s.dev t.dev [.SVCPORT_BOOT, .PG_PROG .SVCPORT]) ∧
  (∀ (a b l : List (BitVec 8)) (s : State), s.dev.rst.booting = true → s.dev.rst.hold = 0 →
    s.dev.rd F.SVCPORT_BOOT_STAGE = 3 →
    Answers (.bootStageEnd 5 a b l) s fun t =>
      t.dev.rd F.SVCPORT_BOOT_ERR = 5 ∧ t.dev.rst.booting = false ∧ t.dev.rd F.SVCPORT_BOOT_STAGE = 3 ∧
      t.mem = s.mem ∧ SameRegs s.dev t.dev [.SVCPORT_BOOT, .PG_PROG .SVCPORT, .PG_STAT .SVCPORT]) ∧
  (∀ (a b l : List (BitVec 8)) (s : State), s.dev.rst.booting = true → s.dev.rst.hold = 0 →
    s.dev.rd F.SVCPORT_BOOT_STAGE = 4 → s.dev.fromFlash = false → s.dev.rst.go = true →
    Answers (.bootStageEnd 0 a b l) s fun t =>
      t.dev.rd F.SVCPORT_BOOT_STAGE = 5 ∧ t.mem = s.mem ∧ SameRegs s.dev t.dev [.SVCPORT_BOOT, .PG_PROG .SVCPORT]) ∧
  (∀ (a b l : List (BitVec 8)) (s : State), s.dev.rst.booting = true → s.dev.rst.hold = 0 →
    s.dev.rd F.SVCPORT_BOOT_STAGE = 4 → s.dev.fromFlash = true → s.dev.readable 0 a = true →
    s.dev.readable 1 b = true → s.dev.bankState 0 a = stGood → s.dev.bankState 1 b = stGood →
    Answers (.bootStageEnd 0 a b l) s fun t =>
      t.dev.rst.bank = (if dirGen a < dirGen b then 1 else 0) ∧ t.dev.rst.dir = (if dirGen a < dirGen b then b else a) ∧
      t.dev.rd F.SVCPORT_BOOT_STAGE = 5 ∧ t.dev.rst.bankProg = s.dev.rst.bankProg ∧ t.mem = s.mem ∧
      SameRegs s.dev t.dev [.SVCPORT_BOOT, .PG_PROG .SVCPORT]) ∧
  (∀ (a b l : List (BitVec 8)) (s : State), s.dev.rst.booting = true → s.dev.rst.hold = 0 →
    s.dev.rd F.SVCPORT_BOOT_STAGE = 4 → s.dev.fromFlash = true → s.dev.readable 0 a = false →
    s.dev.readable 1 b = false →
    Answers (.bootStageEnd 0 a b l) s fun t => t.mem = s.mem ∧
      if s.dev.rd F.RST_STRAP_EFF_SRC = 3
      then t.dev.rd F.RST_STRAP_EFF_SRC = 1 ∧ t.dev.rst.booting = true ∧ t.dev.rd F.SVCPORT_BOOT_STAGE = 4 ∧
        SameRegs s.dev t.dev [.RST_STRAP]
      else t.dev.rst.booting = false ∧
        t.dev.rd F.SVCPORT_BOOT_ERR = (if s.dev.rst.bankErr = 0 then 1 else s.dev.rst.bankErr) % 256 ∧
        SameRegs s.dev t.dev [.SVCPORT_BOOT, .PG_PROG .SVCPORT, .PG_STAT .SVCPORT]) ∧
  (∀ (a b l : List (BitVec 8)) (s : State), s.dev.rst.booting = true → s.dev.rst.hold = 0 →
    s.dev.rd F.SVCPORT_BOOT_STAGE = 5 →
    let h : Header := ⟨l.take 128⟩
    let pay := (l.drop h.payoff).take h.plen
    let code := s.dev.bootCode 3 l
    Answers (.bootStageEnd 0 a b l) s fun t =>
      (code = 0 → profileOk pay = true →
        t.dev.rd F.SVCPORT_BOOT_STAGE = 6 ∧ t.dev.sec.profile = true ∧ t.dev.rd F.FC_QUIET_MS = leAt pay 0x44 2) ∧
      ((code ≠ 0 ∨ profileOk pay = false) → t.dev.sec.profile = s.dev.sec.profile ∧
        (s.dev.fromFlash = true → t.dev.rd F.SVCPORT_BOOT_STAGE = 4 ∧ mget 1 t.dev.rst.bankProg s.dev.rst.bank = 0) ∧
        (s.dev.fromFlash = false → t.dev.rst.booting = false ∧
          t.dev.rd F.SVCPORT_BOOT_ERR = if code = 4 then 3 else 2)) ∧
      t.mem = s.mem ∧ SameOutside s.dev t.dev [.SVCPORT, .KEYS 0, .SYS 0, .FC, .PWR, .SAFE, .IR 0]) ∧
  (∀ (a b l : List (BitVec 8)) (s : State), s.memWf → s.dev.rst.booting = true → s.dev.rst.hold = 0 →
    s.dev.rd F.SVCPORT_BOOT_STAGE = 6 →
    let h : Header := ⟨l.take 128⟩
    let pay := (l.drop h.payoff).take h.plen
    let code := s.dev.bootCode 1 l
    Answers (.bootStageEnd 0 a b l) s fun t =>
      (code = 0 → safetyBase ≤ h.load → h.load + h.plen ≤ safetyBase + 0x80000 →
        t.dev.rd F.SVCPORT_BOOT_STAGE = 7 ∧ t.dev.rst.protEntry = h.arg ∧ t.dev.rd (F.KEYS_MEAS_VER_VAL 0) = h.version ∧
        (∀ i < pay.length, memGet t.mem (h.load + i) = pay.getD i 0) ∧
        (∀ i, (i < h.load ∨ h.load + pay.length ≤ i) → memGet t.mem i = memGet s.mem i)) ∧
      (code ≠ 0 → t.mem = s.mem ∧
        (s.dev.fromFlash = true → t.dev.rd F.SVCPORT_BOOT_STAGE = 4 ∧ mget 1 t.dev.rst.bankProg s.dev.rst.bank = 0) ∧
        (s.dev.fromFlash = false → t.dev.rst.booting = false ∧
          t.dev.rd F.SVCPORT_BOOT_ERR = if code = 4 then 3 else 2)) ∧
      SameOutside s.dev t.dev [.SVCPORT, .KEYS 0, .FC, .PWR, .SAFE, .IR 0]) ∧
  (∀ (a b l : List (BitVec 8)) (s : State), s.memWf → s.dev.rst.booting = true → s.dev.rst.hold = 0 →
    s.dev.rd F.SVCPORT_BOOT_STAGE = 7 → s.dev.memory.sramOk = true →
    let h : Header := ⟨l.take 128⟩
    let pay := (l.drop h.payoff).take h.plen
    let code := s.dev.bootCode 2 l
    Answers (.bootStageEnd 0 a b l) s fun t =>
      (code = 0 → sramBase ≤ h.load → h.load + h.plen ≤ sramBase + 0x1800000 →
        t.dev.rd F.SVCPORT_BOOT_STAGE = 8 ∧ t.dev.rst.booting = false ∧ t.dev.rst.bootDone = true ∧
        t.dev.on F.RST_RELEASE_SVC = true ∧ t.dev.sec.protPc = s.dev.rst.protEntry ∧ t.dev.sec.svcPc = h.arg ∧
        (s.dev.fromFlash = true → t.dev.rd F.XSPI_BANKSEL_BOOTED = s.dev.rst.bank % 2) ∧
        (∀ i < pay.length, memGet t.mem (h.load + i) = pay.getD i 0) ∧
        (∀ i, (i < h.load ∨ h.load + pay.length ≤ i) → memGet t.mem i = memGet s.mem i)) ∧
      (code ≠ 0 → t.mem = s.mem ∧ t.dev.rst.bootDone = s.dev.rst.bootDone ∧
        (s.dev.fromFlash = true → t.dev.rd F.SVCPORT_BOOT_STAGE = 4 ∧ mget 1 t.dev.rst.bankProg s.dev.rst.bank = 0) ∧
        (s.dev.fromFlash = false → t.dev.rst.booting = false ∧
          t.dev.rd F.SVCPORT_BOOT_ERR = if code = 4 then 3 else 2)) ∧
      SameOutside s.dev t.dev [.SVCPORT, .KEYS 0, .RST, .XSPI, .FC, .PWR, .SAFE, .IR 0]) ∧
  (∀ (port : Fin 2) (l p : List (BitVec 8)) (s : State), s.memWf → s.dev.netBoot l = some p → beAt p 1 1 = 3 →
    s.dev.rst.stgReady = true →
    let off := beAt p 10 4
    let n := beAt p 14 2
    off % 8 = 0 → 8 ≤ n → n ≤ 1024 → n % 8 = 0 → off + n ≤ 0x10000 →
    Answers (.bootLoad port l) s fun t =>
      (∀ i < n, memGet t.mem (stagingBase + off + i) = p.getD (16 + i) 0) ∧
      (∀ i, (i < stagingBase + off ∨ stagingBase + off + n ≤ i) → memGet t.mem i = memGet s.mem i) ∧
      (s.dev.sec.watch = none → t.dev.regs = s.dev.regs)) ∧
  (∀ (port : Fin 2) (l p : List (BitVec 8)) (s : State), s.dev.netBoot l = some p → beAt p 1 1 = 4 → beAt p 14 2 = 0 →
    Answers (.bootGo port l) s fun t =>
      t.dev.rst.go = true ∧ (t.dev.sport port).last = padTo 60 (s.dev.netReport port l) ∧
      SameRegs s.dev t.dev [.STATION_PORT_CNT1 port] ∧ t.mem = s.mem)

/-- O54. OTP operations (R382, R383, R392, R393): a rollback counter is advanced by burning its bits, or refused;
owner keys and patches need a verified image of their kind and a payload that keeps its rules; each bit takes 10 us,
and one that does not read back ends the operation with source 59. Where this rests on the model's choices: log
entries 153, 154 and 156. -/
def Obligations.OtpOperations : Prop :=
  (∀ (m : Nat) (v : Word) (s : State), (Instr.otpRbAdvance m v).wf = true →
    Accepts (otpCtrlWrite s.mem) m .KEYS_OTP_CTRL v.toNat s.dev → s.dev.on F.KEYS_OTP_STAT_BUSY = false →
    s.dev.on F.PWR_VMON_WARN = false →
    let k := bitsOf v.toNat 4 3
    let x := bitsOf v.toNat 8 8
    let c := s.dev.rbCounter k
    Answers (.otpRbAdvance m v) s fun t =>
      ((x < c ∨ 64 < x) → t.dev.rd F.KEYS_OTP_STAT_RESULT = 2 ∧ t.dev.bit (F.PG_ERR_BLK (.KEYS 0)) 0 = true ∧
        t.dev.sec = s.dev.sec) ∧
      (x = c → x ≤ 64 → t.dev.rd F.KEYS_OTP_STAT_RESULT = 1 ∧ t.dev.sec = s.dev.sec) ∧
      (c < x → x ≤ 64 → t.dev.on F.KEYS_OTP_STAT_BUSY = true ∧ t.dev.on (F.PG_STAT_BUSY (.KEYS 0)) = true ∧
        t.dev.sec.otp = s.dev.sec.otp ∧
        ∃ r, t.dev.sec.otpRun = some r ∧ r.op = 1 ∧ r.idx = k ∧ r.need = x - c ∧ r.done = 0 ∧ r.at_ = s.dev.now) ∧
      t.mem = s.mem ∧ SameRegs s.dev t.dev [.KEYS_OTP_CTRL, .KEYS_OTP_STAT, .PG_PROG (.KEYS 0), .PG_STAT (.KEYS 0),
        .PG_ERR (.KEYS 0)]) ∧
  (∀ (m : Nat) (v : Word) (s : State), Accepts (otpCtrlWrite s.mem) m .KEYS_OTP_CTRL v.toNat s.dev →
    1 ≤ bitsOf v.toNat 0 3 → bitsOf v.toNat 0 3 ≤ 3 → (s.dev.on F.KEYS_OTP_STAT_BUSY = true ∨
      s.dev.on F.PWR_VMON_WARN = true) →
    ∀ c, c = Instr.otpRbAdvance m v ∨ c = .otpOwner m v ∨ c = .otpPatch m v →
      Answers c s fun t =>
        t.dev.rd F.KEYS_OTP_STAT_RESULT = 2 ∧ t.dev.bit (F.PG_ERR_BLK (.KEYS 0)) 0 = true ∧ t.dev.sec = s.dev.sec ∧
        t.mem = s.mem ∧ SameRegs s.dev t.dev [.KEYS_OTP_CTRL, .KEYS_OTP_STAT, .PG_ERR (.KEYS 0)]) ∧
  (∀ (m : Nat) (v : Word) (s : State), (Instr.otpOwner m v).wf = true →
    Accepts (otpCtrlWrite s.mem) m .KEYS_OTP_CTRL v.toNat s.dev → s.dev.on F.KEYS_OTP_STAT_BUSY = false →
    s.dev.on F.PWR_VMON_WARN = false → s.dev.verified [9] = false →
    Answers (.otpOwner m v) s fun t =>
      t.dev.rd F.KEYS_OTP_STAT_RESULT = 2 ∧ t.dev.bit (F.PG_ERR_BLK (.KEYS 1)) 1 = true ∧ t.dev.sec = s.dev.sec ∧
      t.mem = s.mem ∧ SameRegs s.dev t.dev [.KEYS_OTP_CTRL, .KEYS_OTP_STAT, .PG_ERR (.KEYS 0), .PG_ERR (.KEYS 1)]) ∧
  (∀ (m : Nat) (v : Word) (s : State), (Instr.otpOwner m v).wf = true →
    Accepts (otpCtrlWrite s.mem) m .KEYS_OTP_CTRL v.toNat s.dev → s.dev.on F.KEYS_OTP_STAT_BUSY = false →
    s.dev.on F.PWR_VMON_WARN = false → s.dev.verified [9] = true →
    let p := s.dev.payload s.mem
    p.length = 36 → leAt p 32 1 ≤ 3 → leAt p 33 1 = 1 → (leAt p 34 1 = 1 ∨ leAt p 34 1 = 2) → leAt p 35 1 = 0 →
    (s.dev.ownerSlot (leAt p 32 1)).state = 0 →
    Answers (.otpOwner m v) s fun t =>
      t.dev.on F.KEYS_OTP_STAT_BUSY = true ∧ t.dev.sec.otp = s.dev.sec.otp ∧
      (∃ r, t.dev.sec.otpRun = some r ∧ r.op = 2 ∧ r.idx = leAt p 32 1 ∧ r.owner.state = 1 ∧
        r.owner.alg = leAt p 34 1 ∧ r.owner.hash = BitVec.ofNat 256 (beAt p 0 32) ∧ 1 ≤ r.need ∧ r.need ≤ 352) ∧
      t.mem = s.mem ∧ SameRegs s.dev t.dev [.KEYS_OTP_CTRL, .KEYS_OTP_STAT, .PG_PROG (.KEYS 0), .PG_STAT (.KEYS 0),
        .PG_ERR (.KEYS 0)]) ∧
  (∀ (m : Nat) (v : Word) (s : State), (Instr.otpOwner m v).wf = true →
    Accepts (otpCtrlWrite s.mem) m .KEYS_OTP_CTRL v.toNat s.dev → s.dev.on F.KEYS_OTP_STAT_BUSY = false →
    s.dev.on F.PWR_VMON_WARN = false → s.dev.verified [9] = true →
    let p := s.dev.payload s.mem
    p.length = 36 → leAt p 32 1 ≤ 3 → leAt p 33 1 = 2 → (leAt p 34 1 = 1 ∨ leAt p 34 1 = 2) → leAt p 35 1 = 0 →
    (s.dev.activeOwners.any fun j => j != leAt p 32 1) = true →
    Answers (.otpOwner m v) s fun t =>
      t.dev.on F.KEYS_OTP_STAT_BUSY = true ∧ t.dev.sec.otp = s.dev.sec.otp ∧
      (∃ r, t.dev.sec.otpRun = some r ∧ r.op = 2 ∧ r.idx = leAt p 32 1 ∧
        r.owner = { s.dev.ownerSlot (leAt p 32 1) with state := 2 } ∧ 1 ≤ r.need ∧ r.need ≤ 352) ∧
      t.mem = s.mem ∧ SameRegs s.dev t.dev [.KEYS_OTP_CTRL, .KEYS_OTP_STAT, .PG_PROG (.KEYS 0), .PG_STAT (.KEYS 0),
        .PG_ERR (.KEYS 0)]) ∧
  (∀ (m : Nat) (v : Word) (s : State), (Instr.otpOwner m v).wf = true →
    Accepts (otpCtrlWrite s.mem) m .KEYS_OTP_CTRL v.toNat s.dev → s.dev.on F.KEYS_OTP_STAT_BUSY = false →
    s.dev.on F.PWR_VMON_WARN = false → s.dev.verified [9] = true →
    let p := s.dev.payload s.mem
    (p.length ≠ 36 ∨ 3 < leAt p 32 1 ∨ (leAt p 33 1 = 1 ∧ (s.dev.ownerSlot (leAt p 32 1)).state ≠ 0) ∨
      (leAt p 33 1 = 2 ∧ ∀ j ∈ s.dev.activeOwners, j = leAt p 32 1)) →
    Answers (.otpOwner m v) s fun t =>
      t.dev.rd F.KEYS_OTP_STAT_RESULT = 2 ∧ t.dev.bit (F.PG_ERR_BLK (.KEYS 0)) 0 = true ∧ t.dev.sec = s.dev.sec ∧
      t.mem = s.mem ∧ SameRegs s.dev t.dev [.KEYS_OTP_CTRL, .KEYS_OTP_STAT, .PG_ERR (.KEYS 0), .PG_ERR (.KEYS 1)]) ∧
  (∀ (m : Nat) (v : Word) (s : State), (Instr.otpPatch m v).wf = true →
    Accepts (otpCtrlWrite s.mem) m .KEYS_OTP_CTRL v.toNat s.dev → s.dev.on F.KEYS_OTP_STAT_BUSY = false →
    s.dev.on F.PWR_VMON_WARN = false → s.dev.verified [8] = false →
    Answers (.otpPatch m v) s fun t =>
      t.dev.rd F.KEYS_OTP_STAT_RESULT = 2 ∧ t.dev.bit (F.PG_ERR_BLK (.KEYS 1)) 1 = true ∧ t.dev.sec = s.dev.sec ∧
      t.mem = s.mem ∧ SameRegs s.dev t.dev [.KEYS_OTP_CTRL, .KEYS_OTP_STAT, .PG_ERR (.KEYS 0), .PG_ERR (.KEYS 1)]) ∧
  (∀ (m : Nat) (v : Word) (s : State), (Instr.otpPatch m v).wf = true →
    Accepts (otpCtrlWrite s.mem) m .KEYS_OTP_CTRL v.toNat s.dev → s.dev.on F.KEYS_OTP_STAT_BUSY = false →
    s.dev.on F.PWR_VMON_WARN = false → s.dev.verified [8] = true →
    let p := s.dev.payload s.mem
    p.length = 40 → leAt p 0 4 % 32 = 0 → leAt p 0 4 < 0x40000 → leAt p 36 1 ≤ 15 → leAt p 37 1 = 1 →
    leAt p 38 2 = 0 → (s.dev.patchSlot (leAt p 36 1)).used = false →
    Answers (.otpPatch m v) s fun t =>
      t.dev.on F.KEYS_OTP_STAT_BUSY = true ∧ t.dev.sec.otp = s.dev.sec.otp ∧
      (∃ r, t.dev.sec.otpRun = some r ∧ r.op = 3 ∧ r.idx = leAt p 36 1 ∧ r.patch.addr = leAt p 0 4 ∧
        r.patch.words = (List.range 8).map (fun i => leAt p (4 + 4 * i) 4) ∧ 1 ≤ r.need ∧ r.need ≤ 352) ∧
      t.mem = s.mem ∧ SameRegs s.dev t.dev [.KEYS_OTP_CTRL, .KEYS_OTP_STAT, .PG_PROG (.KEYS 0), .PG_STAT (.KEYS 0),
        .PG_ERR (.KEYS 0)]) ∧
  (∀ (m : Nat) (v : Word) (s : State), (Instr.otpPatch m v).wf = true →
    Accepts (otpCtrlWrite s.mem) m .KEYS_OTP_CTRL v.toNat s.dev → s.dev.on F.KEYS_OTP_STAT_BUSY = false →
    s.dev.on F.PWR_VMON_WARN = false → s.dev.verified [8] = true →
    let p := s.dev.payload s.mem
    p.length = 40 → leAt p 0 4 % 32 = 0 → leAt p 0 4 < 0x40000 → leAt p 36 1 ≤ 15 → leAt p 37 1 = 2 →
    leAt p 38 2 = 0 → (s.dev.patchSlot (leAt p 36 1)).used = true →
    Answers (.otpPatch m v) s fun t =>
      t.dev.on F.KEYS_OTP_STAT_BUSY = true ∧ t.dev.sec.otp = s.dev.sec.otp ∧
      (∃ r, t.dev.sec.otpRun = some r ∧ r.op = 3 ∧ r.idx = leAt p 36 1 ∧
        r.patch = { s.dev.patchSlot (leAt p 36 1) with killed := true } ∧ 1 ≤ r.need ∧ r.need ≤ 352) ∧
      t.mem = s.mem ∧ SameRegs s.dev t.dev [.KEYS_OTP_CTRL, .KEYS_OTP_STAT, .PG_PROG (.KEYS 0), .PG_STAT (.KEYS 0),
        .PG_ERR (.KEYS 0)]) ∧
  (∀ (m : Nat) (v : Word) (s : State), (Instr.otpPatch m v).wf = true →
    Accepts (otpCtrlWrite s.mem) m .KEYS_OTP_CTRL v.toNat s.dev → s.dev.on F.KEYS_OTP_STAT_BUSY = false →
    s.dev.on F.PWR_VMON_WARN = false → s.dev.verified [8] = true →
    let p := s.dev.payload s.mem
    (p.length ≠ 40 ∨ leAt p 0 4 % 32 ≠ 0 ∨ 15 < leAt p 36 1 ∨
      (leAt p 37 1 = 1 ∧ (s.dev.patchSlot (leAt p 36 1)).used = true)) →
    Answers (.otpPatch m v) s fun t =>
      t.dev.rd F.KEYS_OTP_STAT_RESULT = 2 ∧ t.dev.bit (F.PG_ERR_BLK (.KEYS 0)) 0 = true ∧ t.dev.sec = s.dev.sec ∧
      t.mem = s.mem ∧ SameRegs s.dev t.dev [.KEYS_OTP_CTRL, .KEYS_OTP_STAT, .PG_ERR (.KEYS 0), .PG_ERR (.KEYS 1)]) ∧
  (∀ (r : OtpRun) (s : State), s.dev.sec.otpRun = some r → r.op = 1 →
    Answers (.otpBitBurn true) s fun t =>
      t.dev.now = max s.dev.now (r.at_ + 10000) ∧ t.dev.rbCounter r.idx = s.dev.rbCounter r.idx + 1 ∧
      (∀ k, k ≠ r.idx → t.dev.rbCounter k = s.dev.rbCounter k) ∧ t.dev.sec.otp.owner = s.dev.sec.otp.owner ∧
      t.dev.sec.otp.patch = s.dev.sec.otp.patch ∧
      (r.need ≤ r.done + 1 → t.dev.sec.otpRun = none ∧ t.dev.on F.KEYS_OTP_STAT_BUSY = false ∧
        t.dev.rd F.KEYS_OTP_STAT_RESULT = 1) ∧
      (r.done + 1 < r.need → t.dev.sec.otpRun = some { r with done := r.done + 1, at_ := t.dev.now }) ∧ t.mem = s.mem ∧
      SameRegs s.dev t.dev [.KEYS_OTP_STAT, .PG_PROG (.KEYS 0), .PG_STAT (.KEYS 0), .KEYS_OWNER, .KEYS_RB_LO,
        .KEYS_RB_HI,
        .KEYS_PATCH]) ∧
  (∀ (r : OtpRun) (s : State), s.dev.sec.otpRun = some r → r.op = 2 →
    Answers (.otpBitBurn true) s fun t =>
      (r.need ≤ r.done + 1 → t.dev.ownerSlot r.idx = r.owner ∧ t.dev.sec.otpRun = none) ∧
      (r.done + 1 < r.need → (t.dev.ownerSlot r.idx).state = 3) ∧
      (∀ k, k ≠ r.idx → t.dev.ownerSlot k = s.dev.ownerSlot k) ∧ t.dev.sec.otp.rb = s.dev.sec.otp.rb ∧ t.mem = s.mem ∧
      SameRegs s.dev t.dev [.KEYS_OTP_STAT, .PG_PROG (.KEYS 0), .PG_STAT (.KEYS 0), .KEYS_OWNER, .KEYS_RB_LO,
        .KEYS_RB_HI,
        .KEYS_PATCH]) ∧
  (∀ (r : OtpRun) (s : State), s.dev.sec.otpRun = some r → r.op = 3 →
    Answers (.otpBitBurn true) s fun t =>
      (r.need ≤ r.done + 1 → t.dev.patchSlot r.idx = r.patch ∧ t.dev.sec.otpRun = none) ∧
      (r.done + 1 < r.need → (t.dev.patchSlot r.idx).crcOk = false ∧
        (t.dev.patchSlot r.idx).killed = (s.dev.patchSlot r.idx).killed) ∧
      (∀ k, k ≠ r.idx → t.dev.patchSlot k = s.dev.patchSlot k) ∧ t.dev.sec.otp.rb = s.dev.sec.otp.rb ∧ t.mem = s.mem ∧
      SameRegs s.dev t.dev [.KEYS_OTP_STAT, .PG_PROG (.KEYS 0), .PG_STAT (.KEYS 0), .KEYS_OWNER, .KEYS_RB_LO,
        .KEYS_RB_HI,
        .KEYS_PATCH]) ∧
  (∀ (r : OtpRun) (s : State), s.dev.sec.otpRun = some r →
    Answers (.otpBitBurn false) s fun t =>
      t.dev.rd F.KEYS_OTP_STAT_RESULT = 3 ∧ t.dev.on F.KEYS_OTP_STAT_BUSY = false ∧ t.dev.scored 59 ∧
      t.dev.sec.otp = s.dev.sec.otp ∧ t.dev.sec.otpRun = none ∧ t.dev.now = max s.dev.now (r.at_ + 10000) ∧
      t.mem = s.mem ∧ SameRegsBut s.dev t.dev 59 [.KEYS_OTP_STAT, .PG_PROG (.KEYS 0), .PG_STAT (.KEYS 0)])

/-- O55. Verified images (R387 to R391, R394, R395, R404): START takes the range under watch; the end gives the code
of the first check that fails or of a bus error, VALID and the copy of the header for none; what consumes an image
needs a valid one of its kind: COMMIT, PROFILE and the swap of the protection firmware. Where this rests on the
model's choices: log entries 148 to 151. -/
def Obligations.Verification : Prop :=
  (∀ (m : Nat) (s : State), Accepts (vCtrlWrite s.mem) m .KEYS_V_CTRL 1 s.dev →
    let a := s.dev.rd F.KEYS_V_ADDR_VAL
    let n := s.dev.rd F.KEYS_V_LEN_VAL
    Answers (.vStart m) s fun t =>
      if s.dev.on F.KEYS_V_STAT_BUSY = false ∧ 128 ≤ n ∧ inPlainRam a n = true
      then t.dev.on F.KEYS_V_STAT_BUSY = true ∧ t.dev.on F.KEYS_V_STAT_VALID = false ∧
        t.dev.on F.KEYS_V_STAT_TAMPER = false ∧ t.dev.sec.vRun = some (a, n) ∧ t.dev.sec.watch = some (a, n) ∧
        SameRegs s.dev t.dev [.KEYS_V_STAT, .PG_PROG (.KEYS 1), .PG_STAT (.KEYS 1), .PG_ERR (.KEYS 1)]
      else t.dev.bit (F.PG_ERR_BLK (.KEYS 1)) 0 = true ∧ t.dev.sec = s.dev.sec ∧
        SameRegs s.dev t.dev [.PG_ERR (.KEYS 1)]) ∧
  (∀ (a n : Nat) (s : State), s.dev.sec.vRun = some (a, n) →
    Answers (.vDone true) s fun t =>
      t.dev.rd F.KEYS_V_STAT_CODE = 7 ∧ t.dev.on F.KEYS_V_STAT_BUSY = false ∧ t.dev.sec.vRun = none ∧
      t.dev.scored 57 ∧ t.dev.on F.KEYS_V_STAT_VALID = s.dev.on F.KEYS_V_STAT_VALID ∧ t.mem = s.mem ∧
      SameRegsBut s.dev t.dev 57 [.KEYS_V_STAT, .PG_PROG (.KEYS 1), .PG_STAT (.KEYS 1), .SYS_BERR_ADDR, .SYS_BERR_INFO,
        .PG_ERR (.KEYS 1)]) ∧
  (∀ (a n : Nat) (s : State), s.dev.sec.vRun = some (a, n) → s.dev.rangeError 5 a n false = none →
    let code := verifyCode s.dev s.mem a n
    let h : Header := ⟨readBytes s.dev s.mem 5 a 128⟩
    Answers (.vDone false) s fun t =>
      t.dev.rd F.KEYS_V_STAT_CODE = code ∧ t.dev.on F.KEYS_V_STAT_BUSY = false ∧ t.dev.sec.vRun = none ∧
      (code = 0 → t.dev.on F.KEYS_V_STAT_VALID = true ∧ t.dev.word .KEYS_V_VER = h.version ∧
        t.dev.word .KEYS_V_LOAD = h.load ∧ t.dev.word .KEYS_V_ARG = h.arg ∧ t.dev.word .KEYS_V_PLEN = h.plen ∧
        t.dev.imageKind = h.kind ∧ t.dev.sec.payoff = h.payoff) ∧
      (code ≠ 0 → t.dev.on F.KEYS_V_STAT_VALID = s.dev.on F.KEYS_V_STAT_VALID ∧ t.dev.sec.payoff = s.dev.sec.payoff) ∧
      ((code = 3 ∨ code = 5 ∨ code = 6) → t.dev.scored 59) ∧ t.mem = s.mem ∧
      SameOutside s.dev t.dev [.KEYS 1, .FC, .PWR, .SAFE]) ∧
  (∀ (a n : Nat) (c : RespCode) (s : State), s.dev.sec.vRun = some (a, n) → s.dev.rangeError 5 a n false = some c →
    Answers (.vDone false) s fun t =>
      t.dev.rd F.KEYS_V_STAT_CODE = 7 ∧ t.dev.on F.KEYS_V_STAT_BUSY = false ∧ t.dev.sec.vRun = none ∧
      t.dev.on F.KEYS_V_STAT_VALID = s.dev.on F.KEYS_V_STAT_VALID ∧ t.mem = s.mem ∧
      SameOutside s.dev t.dev [.KEYS 1, .SYS 0, .IR 0, .FC, .PWR, .SAFE]) ∧
  (∀ (m : Nat) (s : State), Accepts (vCtrlWrite s.mem) m .KEYS_V_CTRL 8 s.dev →
    Answers (.vCommit m) s fun t =>
      (s.dev.verified [1, 2, 3, 4, 5, 6, 7] = true →
        let k := s.dev.imageKind - 1
        t.dev.word (.KEYS_MEAS_VER k) = s.dev.word .KEYS_V_VER ∧
        t.dev.word (.KEYS_MEAS_INFO k) = 2 ^ 31 + s.dev.word .KEYS_V_INFO / 2 ^ 24 ∧
        (∀ i < 8, t.dev.word (.KEYS_MEAS_DIG k i) = s.dev.word (.KEYS_V_HDIG i)) ∧ SameOutside s.dev t.dev [.KEYS 1]) ∧
      (s.dev.verified [1, 2, 3, 4, 5, 6, 7] = false →
        t.dev.bit (F.PG_ERR_BLK (.KEYS 1)) 1 = true ∧ SameRegs s.dev t.dev [.PG_ERR (.KEYS 1)])) ∧
  (∀ (m : Nat) (s : State), Accepts (vCtrlWrite s.mem) m .KEYS_V_CTRL 16 s.dev →
    let p := s.dev.payload s.mem
    Answers (.vProfile m) s fun t =>
      (s.dev.verified [3] = false →
        t.dev.bit (F.PG_ERR_BLK (.KEYS 1)) 1 = true ∧ t.dev.sec = s.dev.sec ∧
          SameRegs s.dev t.dev [.PG_ERR (.KEYS 1)]) ∧
      (s.dev.verified [3] = true → profileOk p = false →
        t.dev.bit (F.PG_ERR_BLK (.KEYS 1)) 2 = true ∧ t.dev.sec = s.dev.sec ∧
          SameRegs s.dev t.dev [.PG_ERR (.KEYS 1)]) ∧
      (s.dev.verified [3] = true → profileOk p = true →
        t.dev.sec.profile = true ∧ t.dev.sec.flags = leAt p 0x40 4 ∧ t.dev.rd F.FC_QUIET_MS = leAt p 0x44 2 ∧
        t.dev.rd F.FC_RECOV_CFG_MAX = leAt p 0x48 1 ∧ t.dev.rd F.FC_CFG_TRIP_MASK = leAt p 0x4A 1 ∧
        t.dev.rd F.SAFE_ALIVE_HALF_HALF = leAt p 0x4E 2 ∧
        (∀ n < 64, t.dev.srcClass n = max (leAt p n 1) (s.dev.rd (F.FC_CLASS_MIN n))) ∧
        (s.dev.time.stepCmd = 0 → SameOutside s.dev t.dev [.KEYS 1, .FC, .SAFE, .PWR, .SYS 0])) ∧ t.mem = s.mem) ∧
  (∀ (m : Nat) (s : State), Accepts (vCtrlWrite s.mem) m .KEYS_V_CTRL 4 s.dev →
    Answers (.vAbort m) s fun t =>
      (s.dev.sec.vRun ≠ none → t.dev.rd F.KEYS_V_STAT_CODE = 9 ∧ t.dev.on F.KEYS_V_STAT_BUSY = false ∧
        t.dev.sec.vRun = none ∧
        SameRegs s.dev t.dev [.KEYS_V_STAT, .PG_PROG (.KEYS 1), .PG_STAT (.KEYS 1), .PG_ERR (.KEYS 1)]) ∧
      (s.dev.sec.vRun = none → t.dev.sec = s.dev.sec ∧ SameRegs s.dev t.dev [.PG_ERR (.KEYS 1)])) ∧
  (∀ (m : Nat) (s : State), Accepts (vCtrlWrite s.mem) m .KEYS_V_CTRL 2 s.dev →
    Answers (.vClear m) s fun t =>
      t.dev.on F.KEYS_V_STAT_VALID = false ∧ t.dev.on F.KEYS_V_STAT_TAMPER = false ∧ t.dev.sec.watch = none ∧
      t.dev.sec.vRun = s.dev.sec.vRun ∧ SameRegs s.dev t.dev [.KEYS_V_STAT, .PG_ERR (.KEYS 1)]) ∧
  (∀ (m : Nat) (s : State), Accepts protCtrlWrite m .PROT_CTRL 1 s.dev →
    let a := s.dev.payloadAt
    let ok := m = 4 ∧ s.dev.verified [1] = true ∧ s.dev.word .KEYS_V_LOAD = a ∧ safetyBase ≤ a ∧
      a + s.dev.word .KEYS_V_PLEN ≤ safetyBase + 0x80000
    Answers (.protSwap m) s fun t =>
      (ok → t.dev.sec.protPc = s.dev.word .KEYS_V_ARG ∧ t.dev.on F.PROT_STAT_HALTED = false ∧
        t.dev.on F.PROT_STAT_RUNNING = true ∧ t.dev.word (.KEYS_MEAS_VER 0) = s.dev.word .KEYS_V_VER ∧
        SameOutside s.dev t.dev [.KEYS 1, .PROT]) ∧
      (¬ ok → t.dev.bit (F.PG_ERR_BLK (.KEYS 1)) 1 = true ∧ t.dev.sec = s.dev.sec ∧
        SameRegs s.dev t.dev [.PG_ERR (.KEYS 1), .PG_ERR .PROT]) ∧ t.mem = s.mem)

/-- O56. Attestation and update progress (R399 to R402): START records the report; its end writes report and signature
and nothing else, or gives RESULT 2; the public key is written at once; `SYS.UPD_SET` shows progress that does not
fall. Where this rests on the model's choices: log entries 155, 157, 158 and 159. -/
def Obligations.AttestationAndUpdate : Prop :=
  (∀ (m : Nat) (s : State), Accepts attestCtrlWrite m .KEYS_A_CTRL 1 s.dev →
    let a := s.dev.rd F.KEYS_A_DST_VAL
    Answers (.attestStart m) s fun t =>
      t.mem = s.mem ∧
      if s.dev.on F.KEYS_A_STAT_BUSY = false ∧ a % 8 = 0 ∧
          (MemRange.at a = some .sram ∨ MemRange.at a = some .safety)
      then t.dev.on F.KEYS_A_STAT_BUSY = true ∧ t.dev.sec.aRun = some (s.dev.report, a) ∧
        t.dev.rd (F.PG_PROG_PERCENT (.KEYS 2)) = 255
        ∧ SameRegs s.dev t.dev [.KEYS_A_STAT, .PG_PROG (.KEYS 2), .PG_STAT (.KEYS 2), .PG_ERR (.KEYS 2)]
      else t.dev.bit (F.PG_ERR_BLK (.KEYS 2)) 0 = true ∧ t.dev.sec = s.dev.sec ∧
        SameRegs s.dev t.dev [.PG_ERR (.KEYS 2)]) ∧
  (∀ (msg : List (BitVec 8)) (a : Nat) (s : State), s.memWf → s.dev.sec.aRun = some (msg, a) → a % 8 = 0 →
    sramBase ≤ a →
    a + (msg.length + 3312) ≤ sramBase + 0x1800000 → s.dev.memGated .sram = false →
    let data := msg ++ fitTo 3309 (Config.identitySign msg s.dev.freeCount) ++ [0, 0, 0]
    Answers .attestDone s fun t =>
      t.dev.on F.KEYS_A_STAT_BUSY = false ∧ t.dev.sec.aRun = none ∧
      (Config.signingConverges msg s.dev.freeCount = true → t.dev.rd F.KEYS_A_STAT_RESULT = 1 ∧
        (∀ i < data.length, memGet t.mem (a + i) = data.getD i 0) ∧
        (∀ i, (i < a ∨ a + data.length ≤ i) → memGet t.mem i = memGet s.mem i)) ∧
      (Config.signingConverges msg s.dev.freeCount = false → t.dev.rd F.KEYS_A_STAT_RESULT = 2 ∧
        t.dev.rd (F.PG_PROG_POSITION (.KEYS 2)) = 32 ∧ t.mem = s.mem) ∧
      (s.dev.sec.watch = none → SameRegs s.dev t.dev [.KEYS_A_STAT, .PG_PROG (.KEYS 2), .PG_STAT (.KEYS 2)])) ∧
  (∀ (m : Nat) (s : State), s.memWf → Accepts attestCtrlWrite m .KEYS_A_CTRL 2 s.dev →
    let a := s.dev.rd F.KEYS_A_DST_VAL
    let key := fitTo 1952 Config.identityPublicKey
    a % 8 = 0 → sramBase ≤ a → a + 1952 ≤ sramBase + 0x1800000 → s.dev.memGated .sram = false →
    Answers (.attestPubkey m) s fun t =>
      t.dev.rd F.KEYS_A_STAT_RESULT = 1 ∧ (∀ i < 1952, memGet t.mem (a + i) = key.getD i 0) ∧
      (∀ i, (i < a ∨ a + 1952 ≤ i) → memGet t.mem i = memGet s.mem i) ∧
      (s.dev.sec.watch = none → SameRegs s.dev t.dev [.KEYS_A_STAT, .PG_ERR (.KEYS 2)])) ∧
  (∀ (m : Nat) (s : State), Accepts attestCtrlWrite m .KEYS_A_CTRL 2 s.dev → s.dev.rd F.KEYS_A_DST_VAL % 8 ≠ 0 →
    Answers (.attestPubkey m) s fun t =>
      t.dev.rd F.KEYS_A_STAT_RESULT = 3 ∧ t.dev.scored 58 ∧ t.mem = s.mem ∧
      SameRegsBut s.dev t.dev 58 [.KEYS_A_STAT, .PG_ERR (.KEYS 2), .SYS_BERR_ADDR, .SYS_BERR_INFO]) ∧
  (∀ (m : Nat) (v : Word) (s : State), Accepts updSetWrite m .SYS_UPD_SET v.toNat s.dev →
    let pct := bitsOf v.toNat 0 8
    let p : Page := .SYS 2
    Answers (.updSet m v) s fun t =>
      (bitAt v.toNat 31 = true → (pct < 100 ∨ pct = 255) →
        t.dev.on (F.PG_STAT_BUSY p) = true ∧ t.dev.rd (F.PG_PROG_PERCENT p) = pct ∧
        t.dev.rd (F.PG_PROG_SEQ p) = (s.dev.rd (F.PG_PROG_SEQ p) + 1) % 256 ∧
        t.dev.rd (F.PG_PROG_POSITION p) = bitsOf v.toNat 24 4 * 2 ^ 12 + bitsOf v.toNat 16 8) ∧
      (bitAt v.toNat 31 = false → s.dev.on (F.PG_STAT_BUSY p) = false →
        t.dev.word (.PG_PROG p) = s.dev.word (.PG_PROG p) ∧ t.dev.on (F.PG_STAT_BUSY p) = false) ∧
      (bitAt v.toNat 31 = false → s.dev.on (F.PG_STAT_BUSY p) = true → pct < s.dev.rd (F.PG_PROG_PERCENT p) →
        s.dev.rd (F.PG_PROG_PERCENT p) ≠ 255 →
        t.dev.rd (F.PG_PROG_PERCENT p) = s.dev.rd (F.PG_PROG_PERCENT p) ∧ t.dev.on (F.PG_STAT_BUSY p) = true) ∧
      (pct = 100 → (bitAt v.toNat 31 = true ∨ s.dev.on (F.PG_STAT_BUSY p) = true ∧
          s.dev.rd (F.PG_PROG_PERCENT p) ≤ 100) →
        t.dev.on (F.PG_STAT_BUSY p) = false ∧ t.dev.rd (F.PG_PROG_PERCENT p) = 100) ∧
      t.mem = s.mem ∧ SameRegs s.dev t.dev [.SYS_UPD_SET, .PG_PROG p, .PG_STAT p, .PG_ERR p])

/-- O57. Only the commands that store write memory: after every other command each byte reads as before. Where this
rests on the model's choices: log entries 10 and 11. -/
def Obligations.OnlyStoringCommandsTouchMemory : Prop :=
  ∀ (c : Instr) (s t : State), c.stores = false → exec c s = .next t → ∀ a, memGet t.mem a = memGet s.mem a

/-- O58. Writes of memory (R28, R302): an aligned write of 8 to 256 bits to a memory range answers OKAY and leaves its
bytes there, but for the read-only words of the records; every byte outside reads as before. A full write clears the
errors of its words; a narrower one that meets an uncorrectable error gets DATA and changes nothing in memory. Another
size or alignment gets DECODE. -/
def Obligations.WritesOfMemory : Prop :=
  (∀ (m a n v : Nat) (r : MemRange) (errs : List EccErr) (s : State), s.memWf → s.dev.memOpen m a n r →
    (n < 8 → (meetErrors r a n errs s.dev).touchesBad a n = false) →
    Answers (.registerWrite m a n v errs) s fun t =>
      t.dev.resp = { master := m, code := .okay, data := 0 } ∧ t.memWf ∧
      (∀ i, i < n → byteWritable (a + i) = true →
        memGet t.mem (physAddr (a + i)) = BitVec.ofNat 8 (v / 2 ^ (8 * i))) ∧
      (∀ x, (∀ i, i < n → byteWritable (a + i) = true → x ≠ physAddr (a + i)) → memGet t.mem x = memGet s.mem x) ∧
      (8 ≤ n → ∀ w ∈ wordsOf a n, w ∉ t.dev.memory.bad) ∧
      (n < 8 → errs = [] → t.dev.memory.bad = s.dev.memory.bad) ∧
      (s.dev.sec.watch = none → (8 ≤ n ∨ errs = []) → t.dev.regs = s.dev.regs)) ∧
  (∀ (m a n v : Nat) (r : MemRange) (errs : List EccErr) (s : State), s.dev.canIssue m = true → MemRange.at a = some r →
    memShape a n = true → s.dev.memCode m r true = .okay → n < 8 →
    (meetErrors r a n errs s.dev).touchesBad a n = true →
    Answers (.registerWrite m a n v errs) s fun t =>
      t.dev.resp = { master := m, code := .data, data := 0 } ∧ t.mem = s.mem ∧
      t.dev.scored 52 ∧ t.dev.memory.bad = (meetErrors r a n errs s.dev).memory.bad ∧
      SameOutside s.dev t.dev [.SYS 0, .IR 0, .FC, .PWR, .SAFE]) ∧
  (∀ (m a n v : Nat) (r : MemRange) (s : State), s.dev.canIssue m = true → MemRange.at a = some r →
    memShape a n = false →
    Answers (.registerWrite m a n v []) s fun t =>
      t.dev.resp = { master := m, code := .decode, data := 0 } ∧ t.mem = s.mem ∧ t.dev.scored 58 ∧
      (mclass m ≠ some .E → mclass m ≠ some .M → SameRegsBut s.dev t.dev 58 [.SYS_BERR_ADDR, .SYS_BERR_INFO]))

/-- O59. The watch on a verified image (R390): a write of any master that lands in the watched range clears VALID and
sets TAMPER; during a run it also ends the run with CODE 8, which latches source 59 (R391). A write that lands outside
leaves them alone. Where this rests on the model's choices: log entry 148. -/
def Obligations.WatchedImages : Prop :=
  (∀ (m a n v lo len : Nat) (r : MemRange) (s : State), s.dev.memOpen m a n r → s.dev.sec.watch = some (lo, len) →
    a < lo + len → lo < a + n →
    Answers (.registerWrite m a n v []) s fun t =>
      t.dev.rd F.KEYS_V_STAT_VALID = 0 ∧ t.dev.rd F.KEYS_V_STAT_TAMPER = 1 ∧ t.dev.sec.vRun = none ∧
      t.dev.resp = { master := m, code := .okay, data := 0 } ∧
      if s.dev.sec.vRun.isSome
      then t.dev.rd F.KEYS_V_STAT_CODE = 8 ∧ t.dev.rd F.KEYS_V_STAT_BUSY = 0 ∧ t.dev.scored 59 ∧
        SameRegsBut s.dev t.dev 59 [.KEYS_V_STAT, .PG_PROG (.KEYS 1), .PG_STAT (.KEYS 1)]
      else t.dev.rd F.KEYS_V_STAT_CODE = s.dev.rd F.KEYS_V_STAT_CODE ∧ SameRegs s.dev t.dev [.KEYS_V_STAT]) ∧
  (∀ (m a n v lo len : Nat) (r : MemRange) (s : State), s.dev.memOpen m a n r → s.dev.sec.watch = some (lo, len) →
    (lo + len ≤ a ∨ a + n ≤ lo) →
    Answers (.registerWrite m a n v []) s fun t =>
      t.dev.regs = s.dev.regs ∧ t.dev.sec = s.dev.sec ∧ t.dev.resp = { master := m, code := .okay, data := 0 })

/-- O60. The version of a page is fixed in silicon (R430): `PG_VER` of every page that exists reads 0x0001_0000 after
power-on; a write of it by any master leaves it as it is, and so does every reset. -/
def Obligations.VersionsAreFixed : Prop :=
  (∀ p : Page, pageExists p = true → State.reset.dev.word (.PG_VER p) = 0x10000) ∧
  (∀ (m v : Nat) (p : Page) (errs : List EccErr) (s : State), pageExists p = true →
    Answers (.registerWrite m (Reg.PG_VER p).addr 4 v errs) s fun t =>
      t.mem = s.mem ∧ ∀ q, t.dev.word (.PG_VER q) = s.dev.word (.PG_VER q)) ∧
  (∀ (c : Instr) (s t : State),
    (c = .pinReset ∨ c = .resetRelease ∨ (∃ m v, c = .resetHost m v ∨ c = .resetSafety m v ∨ c = .resetService m v) ∨
      (∃ src id, c = .powerOnReset src id) ∨ ∃ p forced, c = .blockResetDrained p forced) →
    (∀ p, pageExists p = true → s.dev.word (.PG_VER p) = 0x10000) → exec c s = .next t →
    ∀ p, pageExists p = true → t.dev.word (.PG_VER p) = 0x10000)
end

