-- ==== Sys2Proof/Laws/Bits.lean ====
section
/-!
SUPPORT. Sys2Proof/Laws/Bits.lean: what the bit operations on numbers do: a field read back after it is put, a field
beside it untouched, single bits, saturating counts and number maps.
-/
namespace Sys2Proof.Machine

/-- A field read back. -/
theorem bitsOf_putBits_same (n lo w v : Nat) : bitsOf (putBits n lo w v) lo w = v % 2 ^ w := by
  unfold bitsOf putBits
  have h2 : 0 < 2 ^ lo := Nat.two_pow_pos lo
  have h3 : 0 < 2 ^ w := Nat.two_pow_pos w
  have hlow : n % 2 ^ lo < 2 ^ lo := Nat.mod_lt _ h2
  rw [pow_add]
  have e : n / (2 ^ lo * 2 ^ w) * (2 ^ lo * 2 ^ w) + v % 2 ^ w * 2 ^ lo + n % 2 ^ lo =
      n % 2 ^ lo + 2 ^ lo * (n / (2 ^ lo * 2 ^ w) * 2 ^ w + v % 2 ^ w) := by ring
  rw [e, Nat.add_mul_div_left _ _ h2, Nat.div_eq_of_lt hlow, Nat.zero_add, Nat.add_comm, Nat.add_mul_mod_self_right,
    Nat.mod_mod]

/-- A field below the one put. -/
theorem bitsOf_putBits_below (n lo w v lo' w' : Nat) (h : lo' + w' ≤ lo) :
    bitsOf (putBits n lo w v) lo' w' = bitsOf n lo' w' := by
  obtain ⟨k, rfl⟩ := Nat.exists_eq_add_of_le h
  unfold bitsOf putBits
  have key : ∀ x y : Nat, x % 2 ^ (lo' + w') = y % 2 ^ (lo' + w') →
      x / 2 ^ lo' % 2 ^ w' = y / 2 ^ lo' % 2 ^ w' := by
    intro x y hxy
    rw [← Nat.mod_mul_right_div_self, ← Nat.mod_mul_right_div_self, ← pow_add, hxy]
  apply key
  have hd : 2 ^ (lo' + w') ∣ 2 ^ (lo' + w' + k) := pow_dvd_pow 2 (Nat.le_add_right _ _)
  have hd2 : 2 ^ (lo' + w') ∣ 2 ^ (lo' + w' + k + w) := pow_dvd_pow 2 (by omega)
  rw [Nat.add_assoc, Nat.add_mod, (Nat.dvd_iff_mod_eq_zero).1 (Dvd.dvd.mul_left hd2 _), Nat.zero_add, Nat.mod_mod,
    Nat.add_mod, (Nat.dvd_iff_mod_eq_zero).1 (Dvd.dvd.mul_left hd _), Nat.zero_add, Nat.mod_mod,
    Nat.mod_mod_of_dvd _ hd]

/-- A field above the one put. -/
theorem bitsOf_putBits_above (n lo w v lo' w' : Nat) (h : lo + w ≤ lo') :
    bitsOf (putBits n lo w v) lo' w' = bitsOf n lo' w' := by
  obtain ⟨k, rfl⟩ := Nat.exists_eq_add_of_le h
  unfold bitsOf putBits
  have h1 : v % 2 ^ w * 2 ^ lo + n % 2 ^ lo < 2 ^ (lo + w) := by
    have a : n % 2 ^ lo < 2 ^ lo := Nat.mod_lt _ (Nat.two_pow_pos lo)
    have b : v % 2 ^ w + 1 ≤ 2 ^ w := Nat.mod_lt _ (Nat.two_pow_pos w)
    calc v % 2 ^ w * 2 ^ lo + n % 2 ^ lo < v % 2 ^ w * 2 ^ lo + 2 ^ lo := by omega
      _ = (v % 2 ^ w + 1) * 2 ^ lo := by ring
      _ ≤ 2 ^ w * 2 ^ lo := Nat.mul_le_mul_right _ b
      _ = 2 ^ (lo + w) := by rw [pow_add]; ring
  have e : (n / 2 ^ (lo + w) * 2 ^ (lo + w) + v % 2 ^ w * 2 ^ lo + n % 2 ^ lo) / 2 ^ (lo + w + k) =
      n / 2 ^ (lo + w + k) := by
    rw [pow_add 2 (lo + w) k, ← Nat.div_div_eq_div_mul, ← Nat.div_div_eq_div_mul]
    congr 1
    rw [Nat.add_assoc, Nat.add_comm, Nat.add_mul_div_right _ _ (Nat.two_pow_pos _), Nat.div_eq_of_lt h1, Nat.zero_add]
  rw [e]

/-- Putting a field keeps a word a word. -/
theorem putBits_lt {n lo w v k : Nat} (hn : n < 2 ^ k) (h : lo + w ≤ k) : putBits n lo w v < 2 ^ k := by
  unfold putBits
  have a : n % 2 ^ lo < 2 ^ lo := Nat.mod_lt _ (Nat.two_pow_pos lo)
  have b : v % 2 ^ w + 1 ≤ 2 ^ w := Nat.mod_lt _ (Nat.two_pow_pos w)
  have c : v % 2 ^ w * 2 ^ lo + n % 2 ^ lo < 2 ^ (lo + w) := by
    calc v % 2 ^ w * 2 ^ lo + n % 2 ^ lo < v % 2 ^ w * 2 ^ lo + 2 ^ lo := by omega
      _ = (v % 2 ^ w + 1) * 2 ^ lo := by ring
      _ ≤ 2 ^ w * 2 ^ lo := Nat.mul_le_mul_right _ b
      _ = 2 ^ (lo + w) := by rw [pow_add]; ring
  obtain ⟨j, rfl⟩ := Nat.exists_eq_add_of_le h
  have d : n / 2 ^ (lo + w) < 2 ^ j := by
    apply Nat.div_lt_of_lt_mul
    rwa [← pow_add]
  calc n / 2 ^ (lo + w) * 2 ^ (lo + w) + v % 2 ^ w * 2 ^ lo + n % 2 ^ lo
      < n / 2 ^ (lo + w) * 2 ^ (lo + w) + 2 ^ (lo + w) := by omega
    _ = (n / 2 ^ (lo + w) + 1) * 2 ^ (lo + w) := by ring
    _ ≤ 2 ^ j * 2 ^ (lo + w) := Nat.mul_le_mul_right _ d
    _ = 2 ^ (lo + w + j) := by rw [pow_add 2 (lo + w) j]; ring

/-- A number's own bit, once it is set. -/
theorem bitAt_setBitAt_same (n k : Nat) : bitAt (setBitAt n k) k = true := by
  unfold setBitAt
  split
  · assumption
  · rename_i h
    simp only [bitAt, beq_iff_eq] at h ⊢
    rw [Nat.add_div_right _ (Nat.two_pow_pos k)]
    omega

/-- A count never passes its greatest value. -/
theorem satAdd_le (a b max : Nat) : satAdd a b max ≤ max := by
  unfold satAdd; split <;> omega

/-- A key's value after it is set. -/
@[simp] theorem mget_mset_same {α : Type} (x : α) (m : NMap α) (k : Nat) (v : α) : mget x (mset m k v) k = v := by
  induction m with
  | nil => simp [mset, mget]
  | cons e t ih =>
    obtain ⟨q, y⟩ := e
    by_cases h : q = k <;> simp [mset, mget, h, ih]

/-- Another key's value. -/
theorem mget_mset_ne {α : Type} (x : α) (m : NMap α) {k j : Nat} (v : α) (h : k ≠ j) :
    mget x (mset m k v) j = mget x m j := by
  induction m with
  | nil => simp [mset, mget, h]
  | cons e t ih =>
    obtain ⟨q, y⟩ := e
    by_cases hq : q = k
    · subst hq; simp [mset, mget, h]
    · simp only [mset, hq, if_false, mget]
      rw [ih]

end Sys2Proof.Machine
end

