-- ==== Sys2Proof/Laws/Regs.lean ====
section
/-!
SUPPORT. Sys2Proof/Laws/Regs.lean: reading a register or field after a register or field is written.
-/
namespace Sys2Proof.Machine

/-- A register after a register is replaced. -/
theorem RegStore.get_set (l : RegStore) (r q : Reg) (w : Word) :
    (l.set r w).get q = if r = q then w else l.get q := by
  induction l with
  | nil => by_cases h : r = q <;> simp [RegStore.set, RegStore.get, h]
  | cons e t ih =>
    obtain ⟨p, x⟩ := e
    by_cases h : p = r
    · subst h
      by_cases hq : p = q <;> simp [RegStore.set, RegStore.get, hq]
    · by_cases hq : p = q
      · subst hq
        simp [RegStore.set, RegStore.get, h, Ne.symm h]
      · simp [RegStore.set, RegStore.get, h, hq, ih]

@[simp] theorem RegStore.get_set_same (l : RegStore) (r : Reg) (w : Word) : (l.set r w).get r = w := by
  simp [RegStore.get_set]

theorem RegStore.get_set_ne (l : RegStore) {r q : Reg} (w : Word) (h : r ≠ q) : (l.set r w).get q = l.get q := by
  simp [RegStore.get_set, h]

/-- A register of the device after another has been written. -/
theorem Dev.get_wr_ne (d : Dev) {f : FRef} {r : Reg} (v : Nat) (h : f.reg ≠ r) : (d.wr f v).regs.get r = d.regs.get r :=
  RegStore.get_set_ne _ _ h

theorem Dev.get_setWord_ne (d : Dev) {q r : Reg} (v : Nat) (h : q ≠ r) : (d.setWord q v).regs.get r = d.regs.get r :=
  RegStore.get_set_ne _ _ h

/-- Two fields share no bit. -/
def FRef.apart (f g : FRef) : Prop := f.reg ≠ g.reg ∨ f.lo + f.w ≤ g.lo ∨ g.lo + g.w ≤ f.lo

/-- A field of a word lies within the word. -/
def FRef.fits (f : FRef) : Prop := f.lo + f.w ≤ 32

/-- A field read back. -/
theorem Dev.rd_wr_same (d : Dev) (f : FRef) (v : Nat) (h : f.fits) : (d.wr f v).rd f = v % 2 ^ f.w := by
  have hlt : putBits (d.regs.get f.reg).toNat f.lo f.w v < 2 ^ 32 := putBits_lt (d.regs.get f.reg).isLt h
  simp only [Dev.rd, Dev.wr, RegStore.put, RegStore.get_set_same, BitVec.toNat_ofNat, Nat.mod_eq_of_lt hlt]
  exact bitsOf_putBits_same _ _ _ _

/-- A field apart from the one written. -/
theorem Dev.rd_wr_apart (d : Dev) (f g : FRef) (v : Nat) (hf : f.fits) (h : f.apart g) :
    (d.wr f v).rd g = d.rd g := by
  by_cases hr : f.reg = g.reg
  · have hlt : putBits (d.regs.get g.reg).toNat f.lo f.w v < 2 ^ 32 := putBits_lt (d.regs.get g.reg).isLt hf
    simp only [Dev.rd, Dev.wr, RegStore.put, hr, RegStore.get_set_same, BitVec.toNat_ofNat, Nat.mod_eq_of_lt hlt]
    rcases h with h | h | h
    · exact absurd hr h
    · exact bitsOf_putBits_above _ _ _ _ _ _ h
    · exact bitsOf_putBits_below _ _ _ _ _ _ h
  · simp only [Dev.rd, Dev.get_wr_ne d v hr]

/-- A field of another register. -/
theorem Dev.rd_wr_ne (d : Dev) {f g : FRef} (v : Nat) (h : f.reg ≠ g.reg) : (d.wr f v).rd g = d.rd g := by
  simp only [Dev.rd, Dev.get_wr_ne d v h]

theorem Dev.rd_setWord_ne (d : Dev) {q : Reg} {g : FRef} (v : Nat) (h : q ≠ g.reg) : (d.setWord q v).rd g = d.rd g := by
  simp only [Dev.rd, Dev.get_setWord_ne d v h]

/-- A word read back. -/
theorem Dev.word_setWord_same (d : Dev) (r : Reg) (v : Nat) : (d.setWord r v).word r = v % 2 ^ 32 := by
  simp [Dev.word, Dev.setWord]

theorem Dev.word_setWord_ne (d : Dev) {q r : Reg} (v : Nat) (h : q ≠ r) : (d.setWord q v).word r = d.word r := by
  simp [Dev.word, Dev.get_setWord_ne d v h]

theorem Dev.word_wr_ne (d : Dev) {f : FRef} {r : Reg} (v : Nat) (h : f.reg ≠ r) : (d.wr f v).word r = d.word r := by
  simp [Dev.word, Dev.get_wr_ne d v h]

/-- A word is below 2^32. -/
theorem Dev.word_lt (d : Dev) (r : Reg) : d.word r < 2 ^ 32 := (d.regs.get r).isLt

/-- A field of a word that has been replaced. -/
theorem Dev.rd_setWord_same (d : Dev) (g : FRef) (v : Nat) :
    (d.setWord g.reg v).rd g = bitsOf (v % 2 ^ 32) g.lo g.w := by
  simp [Dev.rd, Dev.setWord]

/-- What a field reads is the same where its register is. -/
theorem Dev.rd_congr {d e : Dev} {g : FRef} (h : d.regs.get g.reg = e.regs.get g.reg) : d.rd g = e.rd g := by
  simp only [Dev.rd, h]

end Sys2Proof.Machine
end

