-- ==== Sys2Proof/Laws/Access.lean ====
section
/-!
SUPPORT. Sys2Proof/Laws/Access.lean: what a register access does: the next state of a write that goes ahead, the state
after one that does not, and the log of a write (R35, R36).
-/
namespace Sys2Proof.Machine

/-- The device as the effect of an accepted write finds it. -/
def Dev.logged (d : Dev) (m : Nat) (r : Reg) (v : Nat) : Dev := logWrite r v (respond m 0 d)

/-- An accepted register access acts. -/
theorem busWriteWith_accepts {eff : Effect} {m : Nat} {r : Reg} {v : Nat} {d : Dev} (h : Accepts eff m r v d) :
    d.busWriteWith eff m r v = (eff m v (d.merged m r v) (d.logged m r v)).noteWrite r m v (d.regs.get r) := by
  simp [Dev.busWriteWith, h.issues, h.okay, h.free, Dev.logged]

/-- A command that is an accepted register write answers the state in which the register's effect has acted. -/
theorem writeRow_accepts {eff : Effect} {m : Nat} {r : Reg} {v : Nat} {s : State} (h : Accepts eff m r v s.dev) :
    writeRow eff m r v s =
      .next { s with dev := (eff m v (s.dev.merged m r v) (s.dev.logged m r v)).noteWrite r m v (s.dev.regs.get r) } := by
  have hr : ¬ (r.setsRatio = true ∧ ¬ (s.dev.busWriteWith eff m r v).ratiosHold = true) := by
    rintro ⟨a, b⟩; exact b (h.ratios a)
  simp only [writeRow, if_neg hr, liftDev]
  rw [busWriteWith_accepts h]

/-- Every next state of a register write. -/
theorem writeRow_next {eff : Effect} {m : Nat} {r : Reg} {v : Nat} {s t : State}
    (h : writeRow eff m r v s = .next t) : t = { s with dev := s.dev.busWriteWith eff m r v } := by
  unfold writeRow at h
  split at h
  · cases h
  · simpa [liftDev] using h.symm

/-- Every next state of a meaning on the device. -/
theorem liftDev_next {f : Dev → Dev} {s t : State} (h : liftDev f s = .next t) : t = { s with dev := f s.dev } := by
  simpa [liftDev] using h.symm

/-- Every next state of a meaning that may write memory. -/
theorem liftMem_next {f : List Host.Cell → Dev → Dev × List MemEff} {s t : State} (h : liftMem f s = .next t) :
    t = { s with dev := (f s.mem s.dev).1, mem := runEffs s.mem (f s.mem s.dev).2 } := by
  simpa [liftMem] using h.symm

/-- A read of a register that goes ahead. -/
theorem busReadWith_reads {rd : Nat → Dev → Nat × Dev} {m : Nat} {r : Reg} {d : Dev} (h : Reads m r d) :
    d.busReadWith rd m r = respond m (rd m d).1 (rd m d).2 := by
  simp [Dev.busReadWith, h.issues, h.okay]

/-- A field written under a condition changes its register at most, and notes it in the record of the instant. -/
theorem when_wr (d : Dev) (c : Bool) (f : FRef) (v : Nat) :
    ∃ w k, (d.when c fun d => d.wr f v) = { d with regs := w, tick := k } ∧ ∀ q, q ≠ f.reg → w.get q = d.regs.get q := by
  cases c with
  | false => exact ⟨d.regs, d.tick, rfl, fun _ _ => rfl⟩
  | true => exact ⟨_, _, rfl, fun q h => RegStore.get_set_ne _ _ (Ne.symm h)⟩

/-- The log of a write changes `PG_ERR` of its page, the record of the instant, and nothing else. -/
theorem logWrite_frame (r : Reg) (v : Nat) (d : Dev) : ∃ w k, logWrite r v d = { d with regs := w, tick := k } ∧
    ∀ q, q ≠ .PG_ERR r.page → w.get q = d.regs.get q := by
  simp only [logWrite]
  generalize (_ || _ : Bool) = c
  generalize (_ && _ : Bool) = c'
  obtain ⟨w, k, h1, h2⟩ := when_wr d c (F.PG_ERR_LOCKED r.page) 1
  rw [h1]
  obtain ⟨w', k', h3, h4⟩ := when_wr { d with regs := w, tick := k } c' (F.PG_ERR_EXPERT_DENIED r.page) 1
  exact ⟨w', k', h3, fun q h => (h4 q h).trans (h2 q h)⟩

/-- The device as the effect finds it: the response, at most `PG_ERR` of the page, and the record of the instant. -/
theorem logged_frame (d : Dev) (m : Nat) (r : Reg) (v : Nat) :
    ∃ w k, d.logged m r v = { d with resp := { master := m, code := .okay, data := 0 }, regs := w, tick := k } ∧
    ∀ q, q ≠ .PG_ERR r.page → w.get q = d.regs.get q := by
  obtain ⟨w, k, h1, h2⟩ := logWrite_frame r v (respond m 0 d)
  exact ⟨w, k, h1, h2⟩

theorem logged_get (d : Dev) (m : Nat) {r q : Reg} (v : Nat) (h : q ≠ .PG_ERR r.page) :
    (d.logged m r v).regs.get q = d.regs.get q := by
  obtain ⟨w, k, h1, h2⟩ := logged_frame d m r v
  rw [h1]; exact h2 q h

theorem logged_rd (d : Dev) (m : Nat) {r : Reg} {f : FRef} (v : Nat) (h : f.reg ≠ .PG_ERR r.page) :
    (d.logged m r v).rd f = d.rd f := Dev.rd_congr (logged_get d m v h)

theorem logged_word (d : Dev) (m : Nat) {r q : Reg} (v : Nat) (h : q ≠ .PG_ERR r.page) :
    (d.logged m r v).word q = d.word q := by
  simp only [Dev.word, logged_get d m v h]

end Sys2Proof.Machine
end

