-- ==== Sys2Proof/Laws/Fields.lean ====
section
/-!
SUPPORT. Sys2Proof/Laws/Fields.lean: every register's fields lie within the word and share no bit (R2, R3), so that
whatever a write does to one field it leaves the others alone; and what a fold over the fields leaves in each of them.
-/
namespace Sys2Proof.Machine

/-- A field has its bits `hi:lo` within the word. -/
def Field.sound (f : Field) : Bool := decide (f.lo ≤ f.hi) && decide (f.hi < 32)

/-- A list of fields in falling order of their bits, none of which shares a bit with another. -/
def fieldsSound : List Field → Bool
  | [] => true
  | f :: t => f.sound && t.all (fun g => decide (g.hi < f.lo)) && fieldsSound t

/-- The register tables: fields in falling order, within the word, no bit shared. -/
theorem fields_sound (r : Reg) : fieldsSound r.fields = true := by
  cases r <;> rfl

/-- The width of a field. -/
def Field.width (f : Field) : Nat := f.hi + 1 - f.lo

/-- Of two fields of a sound list, they are the same or share no bit. -/
theorem fieldsSound_apart {l : List Field} (h : fieldsSound l = true) {f g : Field} (hf : f ∈ l) (hg : g ∈ l) :
    f = g ∨ f.lo + f.width ≤ g.lo ∨ g.lo + g.width ≤ f.lo := by
  induction l with
  | nil => cases hf
  | cons e t ih =>
    simp only [fieldsSound, Bool.and_eq_true, List.all_eq_true, decide_eq_true_eq, Field.sound] at h
    obtain ⟨⟨⟨he1, he2⟩, ha⟩, ht⟩ := h
    have hs : ∀ x ∈ t, x.lo ≤ x.hi := by
      intro x hx
      clear ih ha hf hg
      induction t with
      | nil => cases hx
      | cons y u ihu =>
        simp only [fieldsSound, Bool.and_eq_true, List.all_eq_true, decide_eq_true_eq, Field.sound] at ht
        rcases List.mem_cons.1 hx with rfl | hx
        · exact ht.1.1.1
        · exact ihu ht.2 hx
    rcases List.mem_cons.1 hf with hf' | hf' <;> rcases List.mem_cons.1 hg with hg' | hg'
    · exact Or.inl (hf'.trans hg'.symm)
    · right; right
      have := ha g hg'; have := hs g hg'
      subst hf'; unfold Field.width; omega
    · right; left
      have := ha f hf'; have := hs f hf'
      subst hg'; unfold Field.width; omega
    · exact ih ht hf' hg'

theorem fieldsSound_mem {l : List Field} (h : fieldsSound l = true) {f : Field} (hf : f ∈ l) :
    f.lo ≤ f.hi ∧ f.hi < 32 := by
  induction l with
  | nil => cases hf
  | cons e t ih =>
    simp only [fieldsSound, Bool.and_eq_true, Field.sound, decide_eq_true_eq] at h
    rcases List.mem_cons.1 hf with rfl | hf
    · exact ⟨h.1.1.1, h.1.1.2⟩
    · exact ih h.2 hf

/-- What a fold that may put a new value into each field leaves in a field that is not of the list. -/
theorem foldl_put_apart (l : List Field) (c : Field → Bool) (x : Field → Nat → Nat) (w : Nat) (g : Field)
    (h : ∀ f ∈ l, f.lo + f.width ≤ g.lo ∨ g.lo + g.width ≤ f.lo) :
    g.of (l.foldl (fun w f => if c f then putBits w f.lo f.width (x f w) else w) w) = g.of w := by
  induction l generalizing w with
  | nil => rfl
  | cons f t ih =>
    rw [List.foldl_cons, ih _ fun e he => h e (List.mem_cons_of_mem _ he)]
    split
    · rcases h f List.mem_cons_self with h | h
      · exact bitsOf_putBits_above _ _ _ _ _ _ h
      · exact bitsOf_putBits_below _ _ _ _ _ _ h
    · rfl

/-- What such a fold leaves in a field of a sound list: the value put there, or the old one; the value may depend on
what the field held. -/
theorem foldl_put_field (l : List Field) (hl : fieldsSound l = true) (c : Field → Bool) (x : Field → Nat → Nat) (w : Nat)
    {g : Field} (hg : g ∈ l) (hx : ∀ a b, g.of a = g.of b → x g a = x g b) :
    g.of (l.foldl (fun w f => if c f then putBits w f.lo f.width (x f w) else w) w) =
      if c g then x g w % 2 ^ g.width else g.of w := by
  induction l generalizing w with
  | nil => cases hg
  | cons f t ih =>
    have hs : f = g ∨ f.lo + f.width ≤ g.lo ∨ g.lo + g.width ≤ f.lo :=
      fieldsSound_apart hl List.mem_cons_self hg
    simp only [fieldsSound, Bool.and_eq_true, List.all_eq_true, decide_eq_true_eq, Field.sound] at hl
    rw [List.foldl_cons]
    by_cases hfg : f = g
    · subst hfg
      have hap : ∀ e ∈ t, e.lo + e.width ≤ f.lo ∨ f.lo + f.width ≤ e.lo := by
        intro e he
        have h1 := hl.1.2 e he
        have h2 := (fieldsSound_mem hl.2 he).1
        left; unfold Field.width; omega
      rw [foldl_put_apart _ _ _ _ _ hap]
      split
      · exact bitsOf_putBits_same _ _ _ _
      · rfl
    · have hg' : g ∈ t := by
        rcases List.mem_cons.1 hg with h | h
        · exact absurd h.symm hfg
        · exact h
      rw [ih hl.2 _ hg']
      have hap := hs.resolve_left hfg
      have e1 : g.of (if c f then putBits w f.lo f.width (x f w) else w) = g.of w := by
        split
        · rcases hap with h | h
          · exact bitsOf_putBits_above _ _ _ _ _ _ h
          · exact bitsOf_putBits_below _ _ _ _ _ _ h
        · rfl
      rw [e1, hx _ _ e1]

end Sys2Proof.Machine
end

