-- ==== Sys2Proof/Laws/Latch.lean ====
section
/-!
SUPPORT. Sys2Proof/Laws/Latch.lean: everything that the latching of a Scoreboard source can change (R273 to R287): the
registers of `latchRegs`, HCLASS of the source, and what the fault collector, the loop engines, the power control, the
claim logic and the captures hold. The Scoreboard gains the source's bit and no other.
-/
namespace Sys2Proof.Machine

/-- What the latching of a source may do to the device, with the registers it may change. -/
structure Latched (l : List Reg) (d e : Dev) : Prop where
  regs : SameRegs d e l
  rest : e = { d with
    regs := e.regs, tick := e.tick, captures := e.captures, fc := e.fc, loop := e.loop, pwr := e.pwr, tandem := e.tandem }

theorem SameRegs.refl (d : Dev) (l : List Reg) : SameRegs d d l := fun _ _ => rfl

theorem SameRegs.trans {d e f : Dev} {l : List Reg} (h : SameRegs d e l) (k : SameRegs e f l) : SameRegs d f l :=
  fun r hr => (k r hr).trans (h r hr)

theorem SameRegs.mono {d e : Dev} {l k : List Reg} (h : SameRegs d e l) (hk : ∀ r ∈ l, r ∈ k) : SameRegs d e k :=
  fun r hr => h r fun hl => hr (hk r hl)

theorem SameRegs.wr (d : Dev) (f : FRef) (v : Nat) {l : List Reg} (h : f.reg ∈ l) : SameRegs d (d.wr f v) l :=
  fun _ hr => d.get_wr_ne v fun e => hr (e ▸ h)

theorem SameRegs.setWord (d : Dev) (r : Reg) (v : Nat) {l : List Reg} (h : r ∈ l) : SameRegs d (d.setWord r v) l :=
  fun _ hr => d.get_setWord_ne v fun e => hr (e ▸ h)

theorem Latched.refl (l : List Reg) (d : Dev) : Latched l d d := ⟨SameRegs.refl d l, rfl⟩

theorem Latched.trans {l : List Reg} {d e f : Dev} (h : Latched l d e) (k : Latched l e f) : Latched l d f := by
  refine ⟨h.regs.trans k.regs, ?_⟩
  have a := k.rest
  rw [h.rest] at a
  exact a

theorem Latched.wr {l : List Reg} (d : Dev) (f : FRef) (v : Nat) (h : f.reg ∈ l) : Latched l d (d.wr f v) :=
  ⟨SameRegs.wr d f v h, rfl⟩

theorem Latched.setWord {l : List Reg} (d : Dev) (r : Reg) (v : Nat) (h : r ∈ l) : Latched l d (d.setWord r v) :=
  ⟨SameRegs.setWord d r v h, rfl⟩

theorem Latched.when {l : List Reg} {d : Dev} {c : Bool} {f : Dev → Dev} (h : c = true → Latched l d (f d)) :
    Latched l d (d.when c f) := by
  cases c with
  | false => exact Latched.refl l d
  | true => exact h rfl

/-- A change of what the fault collector, loops, power control, claim logic, captures or the record of the instant hold. -/
theorem Latched.parts {l : List Reg} (d : Dev) (k : Tick) (c : List (Reg × Nat × List (Reg × Nat))) (a : FcState)
    (b : LoopState) (p : PwrState) (t : TandemState) :
    Latched l d { d with tick := k, captures := c, fc := a, loop := b, pwr := p, tandem := t } := ⟨fun _ _ => rfl, rfl⟩

theorem Latched.setWords {l : List Reg} (ws : List (Reg × Nat)) (h : ∀ e ∈ ws, e.1 ∈ l) (d : Dev) :
    Latched l d (d.setWords ws) := by
  induction ws generalizing d with
  | nil => exact Latched.refl l d
  | cons e t ih =>
    exact (Latched.setWord d e.1 e.2 (h e List.mem_cons_self)).trans
      (ih (fun x hx => h x (List.mem_cons_of_mem _ hx)) _)

theorem Latched.noteCapture {l : List Reg} (d : Dev) (k : Reg) (ws : List (Reg × Nat)) :
    Latched l d (d.noteCapture k ws) := ⟨fun _ _ => rfl, rfl⟩

theorem Latched.thenWr {l : List Reg} {d e : Dev} {f : FRef} (v : Nat) (k : Latched l d e) (h : f.reg ∈ l) :
    Latched l d (e.wr f v) := k.trans (Latched.wr e f v h)

theorem Latched.thenWhen {l : List Reg} {d e : Dev} {c : Bool} {f : Dev → Dev} (k : Latched l d e)
    (h : ∀ x, Latched l x (f x)) : Latched l d (e.when c f) := k.trans (Latched.when fun _ => h e)

/-- The registers that the latching of source `n` may change, HCLASS among them. -/
def latchList (n : Nat) : List Reg := .FC_CLASS n :: latchRegs

/-- Those of them that the actions of its class may change, once the Scoreboard bit is set. -/
def reactList (n : Nat) : List Reg :=
  [.FC_CLASS n, .FC_HELD_LO, .FC_HELD_HI, .FC_STATE, .PWR_STATE, .PWR_EVT, .SAFE_TRIP, .SAFE_TRIP_STAT, .SAFE_CLAIM_CTRL]

theorem Latched.mono {l k : List Reg} {d e : Dev} (h : Latched l d e) (hk : ∀ r ∈ l, r ∈ k) : Latched k d e :=
  ⟨h.regs.mono hk, h.rest⟩

theorem reactList_sub (n : Nat) : ∀ r ∈ reactList n, r ∈ latchList n := by
  intro r h
  simp only [reactList, latchList, latchRegs, List.mem_cons, List.not_mem_nil, or_false] at h ⊢
  rcases h with h | h | h | h | h | h | h | h | h <;> simp [h]

theorem captureFirst_latched (n k : Nat) (d : Dev) : Latched (latchList k) d (captureFirst n d) := by
  have hw : ∀ e ∈ d.firstWords n, e.1 ∈ latchList k := by
    intro e he
    simp only [Dev.firstWords, List.mem_cons, List.not_mem_nil, or_false] at he
    rcases he with rfl | rfl <;> simp [latchList, latchRegs]
  unfold captureFirst
  dsimp only
  split
  · exact (Latched.noteCapture d _ _).trans (Latched.when fun _ => Latched.setWords _ hw _)
  · split
    · split
      · exact (Latched.noteCapture d _ _).trans (Latched.when fun _ => Latched.setWords _ hw _)
      · exact Latched.refl _ d
    · exact Latched.refl _ d

theorem enterShed_latched (c k : Nat) (d : Dev) : Latched (reactList k) d (enterShed c d) := by
  unfold enterShed
  exact ((Latched.wr _ _ _ (by simp [reactList])).trans
    (Latched.wr _ _ _ (by simp [reactList]))).trans (Latched.wr _ _ _ (by simp [reactList]))

theorem shedRequest_latched (k : Nat) (d : Dev) : Latched (reactList k) d (shedRequest d) := by
  unfold shedRequest
  dsimp only
  refine (Latched.parts d _ _ _ _ _ _).trans (Latched.when fun _ => ?_)
  exact (enterShed_latched 2 k _).trans (Latched.parts _ _ _ _ _ _ _)

theorem resign_latched (k : Nat) (d : Dev) : Latched (reactList k) d (resign d) := by
  unfold resign
  exact (Latched.wr d F.SAFE_CLAIM_CTRL_RESIGN 1 (by simp [reactList])).trans (Latched.parts _ _ _ _ _ _ _)

theorem tripReaction_latched (k : Nat) (d : Dev) : Latched (reactList k) d (tripReaction d) := by
  unfold tripReaction
  dsimp only
  exact ((Latched.parts d _ _ _ _ _ _).trans (Latched.wr _ _ _ (by simp [reactList]))).trans
    (Latched.wr _ _ _ (by simp [reactList]))

theorem holdFault_latched (n c : Nat) (d : Dev) : Latched (reactList n) d (holdFault n c d) := by
  unfold holdFault
  dsimp only
  split
  · exact Latched.parts d _ _ _ _ _ _
  · refine Latched.thenWhen (Latched.thenWhen (Latched.thenWhen (Latched.thenWhen (Latched.thenWr _ (Latched.thenWr _
      (Latched.thenWr _ (Latched.thenWr _ (Latched.thenWr _ (Latched.parts d _ _ _ _ _ _) ?_) ?_) ?_) ?_) ?_)
      fun x => Latched.parts x _ _ _ _ _ _) fun x => Latched.parts x _ _ _ _ _ _) fun x => ?_) fun x => tripReaction_latched n x
    all_goals first | (simp [reactList]; done) | skip
    split
    · exact Latched.parts x _ _ _ _ _ _
    · exact resign_latched n x

/-- Everything that the latching of a source can change. -/
theorem latch_latched (n : Nat) (d : Dev) : Latched (latchList n) d (d.latch n) := by
  unfold Dev.latch
  dsimp only
  refine Latched.thenWhen (Latched.thenWhen (Latched.thenWr _ (Latched.thenWr _ (Latched.thenWhen
    ((Latched.parts d _ _ _ _ _ _).trans (captureFirst_latched n n _)) fun x => Latched.parts x _ _ _ _ _ _) ?_) ?_) fun x => (shedRequest_latched n x).mono (reactList_sub n))
    fun x => (holdFault_latched n _ x).mono (reactList_sub n)
  all_goals simp [latchList, latchRegs]

/-- A register that the latching of a source leaves alone. -/
theorem latch_get (d : Dev) (n : Nat) {r : Reg} (h : r ∉ latchList n) : (d.latch n).regs.get r = d.regs.get r :=
  (latch_latched n d).regs r h

theorem latch_rd (d : Dev) (n : Nat) {f : FRef} (h : f.reg ∉ latchList n) : (d.latch n).rd f = d.rd f :=
  Dev.rd_congr (latch_get d n h)

theorem wr64_rd64 (d : Dev) (lo hi : Reg) (v : Nat) (h : lo ≠ hi) (hv : v < 2 ^ 64) :
    (d.wr64 ⟨lo, 0, 32⟩ ⟨hi, 0, 32⟩ v).rd64 ⟨lo, 0, 32⟩ ⟨hi, 0, 32⟩ = v := by
  unfold Dev.wr64 Dev.rd64
  rw [Dev.rd_wr_same _ _ _ (by simp [FRef.fits]), Dev.rd_wr_ne _ _ (by simpa using h.symm),
    Dev.rd_wr_same _ _ _ (by simp [FRef.fits])]
  have : v / 2 ^ 32 < 2 ^ 32 := Nat.div_lt_of_lt_mul (by simpa using hv)
  simp only [Nat.mod_mod, Nat.mod_eq_of_lt this]
  omega

theorem score_lt (d : Dev) : d.score < 2 ^ 64 := by
  have a : d.rd F.FC_SCORE_LO_SCORE < 2 ^ 32 := Nat.mod_lt _ (Nat.two_pow_pos _)
  have b : d.rd F.FC_SCORE_HI_SCORE < 2 ^ 32 := Nat.mod_lt _ (Nat.two_pow_pos _)
  unfold Dev.score Dev.rd64
  omega

theorem setBitAt_lt {n k j : Nat} (hn : n < 2 ^ j) (hk : k < j) : setBitAt n k < 2 ^ j := by
  unfold setBitAt
  split
  · exact hn
  · rename_i h
    have hb : n / 2 ^ k % 2 = 0 := by
      simp only [bitAt, beq_iff_eq] at h
      omega
    obtain ⟨i, rfl⟩ := Nat.exists_eq_add_of_lt hk
    have hp : 2 ^ (k + i + 1) = 2 ^ k * (2 * 2 ^ i) := by rw [show k + i + 1 = k + (i + 1) by omega, pow_add, pow_succ]; ring
    have hq : n / 2 ^ k < 2 * 2 ^ i := Nat.div_lt_of_lt_mul (by rwa [← hp])
    have hq' : n / 2 ^ k + 1 < 2 * 2 ^ i := by omega
    have hm : n < 2 ^ k * (n / 2 ^ k + 1) := Nat.lt_mul_div_succ n (Nat.two_pow_pos k)
    calc n + 2 ^ k < 2 ^ k * (n / 2 ^ k + 1) + 2 ^ k := by omega
      _ = 2 ^ k * (n / 2 ^ k + 1 + 1) := by ring
      _ ≤ 2 ^ k * (2 * 2 ^ i) := Nat.mul_le_mul_left _ hq'
      _ = 2 ^ (k + i + 1) := hp.symm

theorem score_congr {d e : Dev} (l : e.regs.get .FC_SCORE_LO = d.regs.get .FC_SCORE_LO)
    (h : e.regs.get .FC_SCORE_HI = d.regs.get .FC_SCORE_HI) : e.score = d.score := by
  simp only [Dev.score, Dev.rd64, Dev.rd, l, h]

/-- What the latching of a source does to the Scoreboard: its bit is set, and no other changes (R273). -/
theorem latch_score (d : Dev) {n : Nat} (hn : n < 64) : (d.latch n).score = setBitAt d.score n := by
  have hlo : ∀ k, Reg.FC_SCORE_LO ∉ reactList k := by simp [reactList]
  have hhi : ∀ k, Reg.FC_SCORE_HI ∉ reactList k := by simp [reactList]
  unfold Dev.latch
  dsimp only
  have key : ∀ (e : Dev) (c c' : Bool) (k : Nat),
      ((e.when c shedRequest).when c' (holdFault n k)).score = e.score := by
    intro e c c' k
    have h : Latched (reactList n) e ((e.when c shedRequest).when c' (holdFault n k)) :=
      ((Latched.refl _ e).thenWhen fun x => shedRequest_latched n x).thenWhen fun x => holdFault_latched n k x
    exact score_congr (h.regs _ (hlo n)) (h.regs _ (hhi n))
  rw [key]
  have hc : ∀ e : Dev, (captureFirst n e).score = e.score := by
    intro e
    have hw : ∀ w ∈ e.firstWords n, w.1 ∈ ([.FC_FIRST, .FC_FIRST_NS] : List Reg) := by
      intro w hw
      simp only [Dev.firstWords, List.mem_cons, List.not_mem_nil, or_false] at hw
      rcases hw with rfl | rfl <;> simp
    have h : Latched [.FC_FIRST, .FC_FIRST_NS] e (captureFirst n e) := by
      unfold captureFirst
      dsimp only
      split
      · exact (Latched.noteCapture e _ _).trans (Latched.when fun _ => Latched.setWords _ hw _)
      · split
        · split
          · exact (Latched.noteCapture e _ _).trans (Latched.when fun _ => Latched.setWords _ hw _)
          · exact Latched.refl _ e
        · exact Latched.refl _ e
    exact score_congr (h.regs _ (by simp)) (h.regs _ (by simp))
  have hs : ∀ (e : Dev) (c : Bool) (g : Dev → FcState), (e.when c fun d => { d with fc := g d }).score = e.score := by
    intro e c g; cases c <;> rfl
  rw [hs, hc]
  exact wr64_rd64 _ .FC_SCORE_LO .FC_SCORE_HI _ (by simp) (setBitAt_lt (score_lt d) hn)

theorem latch_scored (d : Dev) {n : Nat} (hn : n < 64) : (d.latch n).scored n := by
  rw [Dev.scored, latch_score d hn]
  exact bitAt_setBitAt_same _ _

end Sys2Proof.Machine
end

