-- ==== Sys2Proof/Laws/Memory.lean ====
section
/-!
SUPPORT. Sys2Proof/Laws/Memory.lean: every memory operation keeps the canonical form, a byte written is read back, and
every other byte is left alone.
-/
namespace Sys2Proof.Machine

theorem memSet_mem {m : List Host.Cell} {a : Nat} {v : BitVec 8} {c : Host.Cell} (h : c ∈ memSet m a v) :
    c ∈ m ∨ c = (a, v) := by
  induction m with
  | nil =>
    unfold memSet at h
    split at h <;> simp_all
  | cons e t ih =>
    obtain ⟨b, w⟩ := e
    unfold memSet at h
    split at h
    · rcases List.mem_cons.1 h with h | h
      · exact Or.inl (h ▸ List.mem_cons_self)
      · exact (ih h).imp (List.mem_cons_of_mem _) id
    · split at h
      · split at h
        · exact Or.inl (List.mem_cons_of_mem _ h)
        · rcases List.mem_cons.1 h with h | h
          · exact Or.inr h
          · exact Or.inl (List.mem_cons_of_mem _ h)
      · split at h
        · exact Or.inl h
        · rcases List.mem_cons.1 h with h | h
          · exact Or.inr h
          · exact Or.inl h

/-- Replacing a byte keeps the canonical form. -/
theorem memSet_wf {m : List Host.Cell} (h : Memory.wf m) (a : Nat) (v : BitVec 8) : Memory.wf (memSet m a v) := by
  obtain ⟨hs, hz⟩ := h
  induction m with
  | nil => unfold memSet; split <;> simp_all [Memory.wf]
  | cons e t ih =>
    obtain ⟨b, w⟩ := e
    have ht := ih (List.pairwise_cons.1 hs).2 (fun c hc => hz c (List.mem_cons_of_mem _ hc))
    have hb := (List.pairwise_cons.1 hs).1
    have hw : w ≠ 0 := hz (b, w) List.mem_cons_self
    unfold memSet
    split
    · rename_i hba
      refine ⟨List.pairwise_cons.2 ⟨fun c hc => ?_, ht.1⟩, fun c hc => ?_⟩
      · rcases memSet_mem hc with hc | rfl
        · exact hb c hc
        · exact hba
      · rcases List.mem_cons.1 hc with rfl | hc
        · exact hw
        · exact ht.2 c hc
    · split
      · rename_i hab; subst hab
        split
        · exact ⟨(List.pairwise_cons.1 hs).2, fun c hc => hz c (List.mem_cons_of_mem _ hc)⟩
        · rename_i hv
          refine ⟨List.pairwise_cons.2 ⟨hb, (List.pairwise_cons.1 hs).2⟩, fun c hc => ?_⟩
          rcases List.mem_cons.1 hc with rfl | hc
          · exact hv
          · exact hz c (List.mem_cons_of_mem _ hc)
      · split
        · exact ⟨hs, hz⟩
        · rename_i h1 h2 hv
          have hlt : a < b := by omega
          refine ⟨List.pairwise_cons.2 ⟨fun c hc => ?_, hs⟩, fun c hc => ?_⟩
          · rcases List.mem_cons.1 hc with rfl | hc
            · exact hlt
            · exact Nat.lt_trans hlt (hb c hc)
          · rcases List.mem_cons.1 hc with rfl | hc
            · exact hv
            · exact hz c hc

/-- Writing bytes keeps the canonical form. -/
theorem memWrite_wf {m : List Host.Cell} (h : Memory.wf m) (a : Nat) (l : List (BitVec 8)) : Memory.wf (memWrite m a l) := by
  induction l generalizing m a with
  | nil => exact h
  | cons b t ih => exact ih (memSet_wf h a b) (a + 1)

/-- Clearing a range keeps the canonical form. -/
theorem memClear_wf {m : List Host.Cell} (h : Memory.wf m) (lo hi : Nat) : Memory.wf (memClear m lo hi) :=
  ⟨h.1.sublist List.filter_sublist, fun c hc => h.2 c (List.mem_of_mem_filter hc)⟩

/-- Every effect of a command keeps the canonical form. -/
theorem runEffs_wf {m : List Host.Cell} (h : Memory.wf m) (l : List MemEff) : Memory.wf (runEffs m l) := by
  induction l generalizing m with
  | nil => exact h
  | cons e t ih =>
    refine ih ?_
    cases e with
    | bytes a d => exact memWrite_wf h a d
    | clear lo hi => exact memClear_wf h lo hi

/-- Below a rising list's first address nothing is listed. -/
theorem memGet_of_lt {m : List Host.Cell} {a : Nat} (h : ∀ c ∈ m, a < c.1) : memGet m a = 0 := by
  induction m with
  | nil => rfl
  | cons e t ih =>
    obtain ⟨b, w⟩ := e
    have : a < b := h (b, w) List.mem_cons_self
    simp [memGet, Nat.ne_of_gt this, ih fun c hc => h c (List.mem_cons_of_mem _ hc)]

/-- A byte read after a byte is written. -/
theorem memGet_memSet {m : List Host.Cell} (h : Memory.wf m) (a : Nat) (v : BitVec 8) (x : Nat) :
    memGet (memSet m a v) x = if x = a then v else memGet m x := by
  induction m with
  | nil =>
    unfold memSet
    split
    · rename_i hv
      by_cases hx : x = a <;> simp [hv, memGet]
    · by_cases hx : x = a
      · simp [hx, memGet]
      · simp [hx, Ne.symm hx, memGet]
  | cons e t ih =>
    obtain ⟨b, w⟩ := e
    have ht : Memory.wf t := ⟨(List.pairwise_cons.1 h.1).2, fun c hc => h.2 c (List.mem_cons_of_mem _ hc)⟩
    have hb := (List.pairwise_cons.1 h.1).1
    unfold memSet
    split
    · rename_i hba
      by_cases hxb : b = x
      · simp [memGet, hxb, show ¬ x = a by omega]
      · simp only [memGet, hxb, if_false]
        exact ih ht
    · split
      · rename_i hab; subst hab
        by_cases hx : x = b
        · subst hx
          split
          · rename_i hv
            simp [hv, memGet_of_lt hb]
          · simp [memGet]
        · split <;> simp [memGet, Ne.symm hx]
      · rename_i h1 h2
        have hlt : a < b := by omega
        have hzero : memGet ((b, w) :: t) a = 0 := by
          apply memGet_of_lt
          intro c hc
          rcases List.mem_cons.1 hc with rfl | hc
          · exact hlt
          · exact Nat.lt_trans hlt (hb c hc)
        split
        · rename_i hv
          by_cases hx : x = a
          · subst hx; simp [hv, hzero]
          · simp [hx]
        · by_cases hx : x = a
          · subst hx; simp [memGet]
          · simp [memGet, hx, Ne.symm hx]

/-- A byte outside the bytes written. -/
theorem memGet_memWrite_out {m : List Host.Cell} (h : Memory.wf m) (a : Nat) (l : List (BitVec 8)) (x : Nat)
    (hx : x < a ∨ a + l.length ≤ x) : memGet (memWrite m a l) x = memGet m x := by
  induction l generalizing m a with
  | nil => rfl
  | cons b t ih =>
    have hne : ¬ x = a := by simp only [List.length_cons] at hx; omega
    rw [memWrite, ih (memSet_wf h a b) (a + 1) (by simp only [List.length_cons] at hx; omega), memGet_memSet h,
      if_neg hne]

/-- A byte among the bytes written. -/
theorem memGet_memWrite_in {m : List Host.Cell} (h : Memory.wf m) (a : Nat) (l : List (BitVec 8)) (i : Nat)
    (hi : i < l.length) : memGet (memWrite m a l) (a + i) = l.getD i 0 := by
  induction l generalizing m a i with
  | nil => simp at hi
  | cons b t ih =>
    cases i with
    | zero =>
      rw [memWrite, memGet_memWrite_out (memSet_wf h a b) _ _ _ (Or.inl (by omega)), memGet_memSet h]
      simp
    | succ j =>
      have := ih (memSet_wf h a b) (a + 1) j (by simpa using hi)
      rw [memWrite, show a + (j + 1) = a + 1 + j by omega, this]
      simp

end Sys2Proof.Machine
end

