-- ==== Sys2Proof/Laws/PerInstr.lean ====
section
/-!
SUPPORT. Sys2Proof/Laws/PerInstr.lean: facts about every command as syntax, one lemma per constructor. A well-formed
command that is a bus access names a master that exists (R38).
-/
namespace Sys2Proof.Laws.OperandWf

open Machine

/-- A well-formed command names a bus master that exists, or none. -/
def Statement (i : Instr) : Prop := i.wf = true → ∀ m, i.master? = some m → validMaster m = true

theorem of_one {m q : Nat} (h : validMaster m = true) (e : some m = some q) : validMaster q = true := by
  cases e; exact h

theorem of_and {m q : Nat} {b : Bool} (h : (validMaster m && b) = true) (e : some m = some q) :
    validMaster q = true := by
  cases e; exact (Bool.and_eq_true _ _ ▸ h).1

theorem registerWrite (m : Nat) (addr : Nat) (n : Nat) (data : Nat) (errs : List EccErr) : Statement (.registerWrite m addr n data errs) := fun h _ e => of_and h e
theorem pgKeyWrite (m : Nat) (p : Page) (v : Word) : Statement (.pgKeyWrite m p v) := fun h _ e => of_and h e
theorem unlockTimeout (p : Page) : Statement (.unlockTimeout p) := fun _ _ e => nomatch e
theorem expertEnClear (m : Nat) (p : Page) (v : Word) : Statement (.expertEnClear m p v) := fun h _ e => of_and h e
theorem softReset (m : Nat) (p : Page) (v : Word) : Statement (.softReset m p v) := fun h _ e => of_and h e
theorem blockResetDrained (p : Page) (forced : Bool) : Statement (.blockResetDrained p forced) := fun _ _ e => nomatch e
theorem pgErrforceWrite (m : Nat) (p : Page) (v : Word) : Statement (.pgErrforceWrite m p v) := fun h _ e => of_and h e
theorem pgLockWrite (m : Nat) (p : Page) (v : Word) : Statement (.pgLockWrite m p v) := fun h _ e => of_and h e
theorem busTimeout (m : Nat) (addr : Nat) (write : Bool) : Statement (.busTimeout m addr write) := fun h _ e => of_one h e
theorem berrRelease (m : Nat) : Statement (.berrRelease m) := fun h _ e => of_one h e
theorem interruptClaim (m : Nat) (j : Fin 9) : Statement (.interruptClaim m j) := fun h _ e => of_one h e
theorem interruptComplete (m : Nat) (j : Fin 9) (v : Word) : Statement (.interruptComplete m j v) := fun h _ e => of_one h e
theorem softwareInterrupt (m : Nat) (v : Word) : Statement (.softwareInterrupt m v) := fun h _ e => of_one h e
theorem routeWrite (m : Nat) (src : Fin 256) (v : Word) : Statement (.routeWrite m src v) := fun h _ e => of_one h e
theorem candidateLock (idx : Fin 5) : Statement (.candidateLock idx) := fun _ _ e => nomatch e
theorem candidatePresent (idx : Fin 5) : Statement (.candidatePresent idx) := fun _ _ e => nomatch e
theorem candidateLoss (idx : Fin 5) : Statement (.candidateLoss idx) := fun _ _ e => nomatch e
theorem rootSrcWrite (m : Nat) (v : Word) : Statement (.rootSrcWrite m v) := fun h _ e => of_one h e
theorem pllLock (pll : Fin 2) : Statement (.pllLock pll) := fun _ _ e => nomatch e
theorem pllReady (pll : Fin 2) : Statement (.pllReady pll) := fun _ _ e => nomatch e
theorem releaseEdge (pll : Fin 2) : Statement (.releaseEdge pll) := fun _ _ e => nomatch e
theorem pllStartTimeout (pll : Fin 2) : Statement (.pllStartTimeout pll) := fun _ _ e => nomatch e
theorem pllmRestart (m : Nat) : Statement (.pllmRestart m) := fun h _ e => of_one h e
theorem pllsRestart (m : Nat) : Statement (.pllsRestart m) := fun h _ e => of_one h e
theorem outCfgWrite (m : Nat) (n : Fin 8) (v : Word) : Statement (.outCfgWrite m n v) := fun h _ e => of_one h e
theorem missingEdge : Statement (.missingEdge) := fun _ _ e => nomatch e
theorem frequencyGateEnd (idx : Fin 5) (count : Nat) (err : Int) : Statement (.frequencyGateEnd idx count err) := fun _ _ e => nomatch e
theorem lockLoss (pll : Fin 2) : Statement (.lockLoss pll) := fun _ _ e => nomatch e
theorem relockFail (pll : Fin 2) : Statement (.relockFail pll) := fun _ _ e => nomatch e
theorem slewEnd : Statement (.slewEnd) := fun _ _ e => nomatch e
theorem doStep (m : Nat) (v : Word) : Statement (.doStep m v) := fun h _ e => of_and h e
theorem domselWrite (m : Nat) (v : Word) : Statement (.domselWrite m v) := fun h _ e => of_one h e
theorem domselResume (f : Fin 6) : Statement (.domselResume f) := fun _ _ e => nomatch e
theorem swForced (f : Fin 6) : Statement (.swForced f) := fun _ _ e => nomatch e
theorem gateRequest (m : Nat) (v : Word) : Statement (.gateRequest m v) := fun h _ e => of_one h e
theorem gateClose (b : Fin 21) : Statement (.gateClose b) := fun _ _ e => nomatch e
theorem gateForced (b : Fin 21) : Statement (.gateForced b) := fun _ _ e => nomatch e
theorem fmonStart (m : Nat) (v : Word) : Statement (.fmonStart m v) := fun h _ e => of_and h e
theorem fmonDone (count : Nat) : Statement (.fmonDone count) := fun _ _ e => nomatch e
theorem fmonNogate : Statement (.fmonNogate) := fun _ _ e => nomatch e
theorem timeSnapshot (m : Nat) : Statement (.timeSnapshot m) := fun h _ e => of_one h e
theorem addendWrite (m : Nat) (v : Word) : Statement (.addendWrite m v) := fun h _ e => of_one h e
theorem distBoundary : Statement (.distBoundary) := fun _ _ e => nomatch e
theorem adjNsWrite (m : Nat) (v : Word) : Statement (.adjNsWrite m v) := fun h _ e => of_one h e
theorem stepAbs (m : Nat) : Statement (.stepAbs m) := fun h _ e => of_one h e
theorem stepRel (m : Nat) : Statement (.stepRel m) := fun h _ e => of_one h e
theorem stepLanding : Statement (.stepLanding) := fun _ _ e => nomatch e
theorem periodWrite (m : Nat) (v : Word) : Statement (.periodWrite m v) := fun h _ e => of_one h e
theorem periodChange : Statement (.periodChange) := fun _ _ e => nomatch e
theorem alarmFire (n : Fin 4) : Statement (.alarmFire n) := fun _ _ e => nomatch e
theorem alarmPulseEnd (n : Fin 4) : Statement (.alarmPulseEnd n) := fun _ _ e => nomatch e
theorem wdEnable (m : Nat) (v : Word) : Statement (.wdEnable m v) := fun h _ e => of_one h e
theorem wdKick (m : Nat) (v : Word) : Statement (.wdKick m v) := fun h _ e => of_one h e
theorem wdExpire : Statement (.wdExpire) := fun _ _ e => nomatch e
theorem timeRecordLate (n : Fin 32) : Statement (.timeRecordLate n) := fun _ _ e => nomatch e
theorem tsqPop (m : Nat) (port : Fin 2) : Statement (.tsqPop m port) := fun h _ e => of_one h e
theorem rimEnable (m : Nat) (n : Fin 32) (v : Word) : Statement (.rimEnable m n v) := fun h _ e => of_and h e
theorem rimDisable (m : Nat) (n : Fin 32) (v : Word) : Statement (.rimDisable m n v) := fun h _ e => of_and h e
theorem rimRxlockChange (n : Fin 32) (lock : Bool) : Statement (.rimRxlockChange n lock) := fun _ _ e => nomatch e
theorem linkDown (n : Fin 32) : Statement (.linkDown n) := fun _ _ e => nomatch e
theorem rimCycle : Statement (.rimCycle) := fun _ _ e => nomatch e
theorem rimFrameTransmit (n : Fin 32) : Statement (.rimFrameTransmit n) := fun _ _ e => nomatch e
theorem upFrame (n : Fin 32) (b : RimBlock) (bs : List RimBlock) (t4 : Nat) : Statement (.upFrame n b bs t4) := fun _ _ e => nomatch e
theorem hello (n : Fin 32) (claim : BitVec 48) (r : HelloRec) : Statement (.hello n claim r) := fun _ _ e => nomatch e
theorem echoRsp (n : Fin 32) (pos : Fin 8) (r : EchoRec) (t4 : Nat) : Statement (.echoRsp n pos r t4) := fun _ _ e => nomatch e
theorem cfgAck (n : Fin 32) (pos : Fin 8) (r : CfgAckRec) : Statement (.cfgAck n pos r) := fun _ _ e => nomatch e
theorem fwAck (n : Fin 32) (pos : Fin 8) (r : FwAckRec) : Statement (.fwAck n pos r) := fun _ _ e => nomatch e
theorem telem (n : Fin 32) (pos : Fin 8) (port : Fin 2) (r : TelemRec) : Statement (.telem n pos port r) := fun _ _ e => nomatch e
theorem tdelay (n : Fin 32) (pos : Fin 8) (claim : BitVec 48) (es : List DelayEntry) : Statement (.tdelay n pos claim es) := fun _ _ e => nomatch e
theorem fault (n : Fin 32) (pos : Fin 8) (r : FaultRec) : Statement (.fault n pos r) := fun _ _ e => nomatch e
theorem discover (m : Nat) (n : Fin 32) (v : Word) : Statement (.discover m n v) := fun h _ e => of_and h e
theorem discoveryWindowEnd (n : Fin 32) : Statement (.discoveryWindowEnd n) := fun _ _ e => nomatch e
theorem discoveryLockTimeout (n : Fin 32) : Statement (.discoveryLockTimeout n) := fun _ _ e => nomatch e
theorem discoveryEnd (n : Fin 32) : Statement (.discoveryEnd n) := fun _ _ e => nomatch e
theorem autoRescan (n : Fin 32) : Statement (.autoRescan n) := fun _ _ e => nomatch e
theorem cfgRetry (k : Fin 256) : Statement (.cfgRetry k) := fun _ _ e => nomatch e
theorem echoTrack (k : Fin 256) : Statement (.echoTrack k) := fun _ _ e => nomatch e
theorem syncTimeout (k : Fin 256) : Statement (.syncTimeout k) := fun _ _ e => nomatch e
theorem spokeLost (k : Fin 256) : Statement (.spokeLost k) := fun _ _ e => nomatch e
theorem fwHelloTimeout (k : Fin 256) : Statement (.fwHelloTimeout k) := fun _ _ e => nomatch e
theorem spokeAdmit (m : Nat) (k : Fin 256) (v : Word) : Statement (.spokeAdmit m k v) := fun h _ e => of_and h e
theorem spokeBypass (m : Nat) (k : Fin 256) (v : Word) : Statement (.spokeBypass m k v) := fun h _ e => of_and h e
theorem spokeUnbypass (m : Nat) (k : Fin 256) (v : Word) : Statement (.spokeUnbypass m k v) := fun h _ e => of_and h e
theorem spokeRescan (m : Nat) (k : Fin 256) (v : Word) : Statement (.spokeRescan m k v) := fun h _ e => of_and h e
theorem spokeCfgWrite (m : Nat) (k : Fin 256) (idx : Fin 18) (v : Word) : Statement (.spokeCfgWrite m k idx v) := fun h _ e => of_one h e
theorem interlockCfgSend (k : Fin 256) : Statement (.interlockCfgSend k) := fun _ _ e => nomatch e
theorem telemetryCut (n : Fin 32) : Statement (.telemetryCut n) := fun _ _ e => nomatch e
theorem fwStart (m : Nat) (n : Fin 32) (v : Word) : Statement (.fwStart m n v) := fun h _ e => of_and h e
theorem fwDataSend (n : Fin 32) : Statement (.fwDataSend n) := fun _ _ e => nomatch e
theorem fwActivate (m : Nat) (n : Fin 32) (v : Word) : Statement (.fwActivate m n v) := fun h _ e => of_and h e
theorem fwAbort (m : Nat) (n : Fin 32) (v : Word) : Statement (.fwAbort m n v) := fun h _ e => of_and h e
theorem carrierArm (m : Nat) (c : Fin 64) (v : Word) : Statement (.carrierArm m c v) := fun h _ e => of_and h e
theorem carrierDisable (m : Nat) (c : Fin 64) (v : Word) : Statement (.carrierDisable m c v) := fun h _ e => of_and h e
theorem carrierStart (c : Fin 64) : Statement (.carrierStart c) := fun _ _ e => nomatch e
theorem carrierStop (c : Fin 64) : Statement (.carrierStop c) := fun _ _ e => nomatch e
theorem commit (c : Fin 64) : Statement (.commit c) := fun _ _ e => nomatch e
theorem generate : Statement (.generate) := fun _ _ e => nomatch e
theorem leadWrite (m : Nat) (v : Word) : Statement (.leadWrite m v) := fun h _ e => of_one h e
theorem xferRequest (m : Nat) (c : Fin 64) (v : Word) : Statement (.xferRequest m c v) := fun h _ e => of_one h e
theorem legCtrlWrite (m : Nat) (l : Fin 1024) (v : Word) : Statement (.legCtrlWrite m l v) := fun h _ e => of_one h e
theorem adaptEnable (m : Nat) (l : Fin 1024) (v : Word) : Statement (.adaptEnable m l v) := fun h _ e => of_one h e
theorem triggerFire : Statement (.triggerFire) := fun _ _ e => nomatch e
theorem blockStart (n : Fin 32) : Statement (.blockStart n) := fun _ _ e => nomatch e
theorem blockEnd (n : Fin 32) : Statement (.blockEnd n) := fun _ _ e => nomatch e
theorem lateinfoRelease (m : Nat) : Statement (.lateinfoRelease m) := fun h _ e => of_one h e
theorem refSrcWrite (m : Nat) (v : Word) : Statement (.refSrcWrite m v) := fun h _ e => of_one h e
theorem refSettled : Statement (.refSettled) := fun _ _ e => nomatch e
theorem selPush (m : Nat) (c : Fin 16) (v : Word) : Statement (.selPush m c v) := fun h _ e => of_one h e
theorem queueFlush (m : Nat) (c : Fin 16) (v : Word) : Statement (.queueFlush m c v) := fun h _ e => of_and h e
theorem conversionBoundary (c : Fin 16) : Statement (.conversionBoundary c) := fun _ _ e => nomatch e
theorem resultWrite (c : Fin 16) (v : Int) (vref : Nat) : Statement (.resultWrite c v vref) := fun _ _ e => nomatch e
theorem adcTrigger (c : Fin 16) : Statement (.adcTrigger c) := fun _ _ e => nomatch e
theorem adcSwtrig (m : Nat) (c : Fin 16) (v : Word) : Statement (.adcSwtrig m c v) := fun h _ e => of_and h e
theorem injRequest (m : Nat) (c : Fin 16) (v : Word) : Statement (.injRequest m c v) := fun h _ e => of_one h e
theorem injResult (c : Fin 16) (v : Int) (vref : Nat) : Statement (.injResult c v vref) := fun _ _ e => nomatch e
theorem fifoPop (m : Nat) (c : Fin 16) : Statement (.fifoPop m c) := fun h _ e => of_one h e
theorem pairTimeout (c : Fin 16) : Statement (.pairTimeout c) := fun _ _ e => nomatch e
theorem dacWrite (m : Nat) (p : Fin 8) (v : Word) : Statement (.dacWrite m p v) := fun h _ e => of_one h e
theorem diagCfgWrite (m : Nat) (p : Fin 8) (v : Word) : Statement (.diagCfgWrite m p v) := fun h _ e => of_one h e
theorem calStart (m : Nat) (c : Fin 16) (v : Word) : Statement (.calStart m c v) := fun h _ e => of_and h e
theorem calBegin (c : Fin 16) : Statement (.calBegin c) := fun _ _ e => nomatch e
theorem calDone (c : Fin 16) (ok : Bool) (gain : BitVec 16) (offset : BitVec 16) : Statement (.calDone c ok gain offset) := fun _ _ e => nomatch e
theorem injectionDetector (g : Fin 6) (active : Bool) : Statement (.injectionDetector g active) := fun _ _ e => nomatch e
theorem loopStart (e : Fin 8) : Statement (.loopStart e) := fun _ _ e => nomatch e
theorem loopSwstart (m : Nat) (e : Fin 8) (v : Word) : Statement (.loopSwstart m e v) := fun h _ e => of_and h e
theorem cascadeAdmit (e : Fin 8) (errs : List EccErr) : Statement (.cascadeAdmit e errs) := fun _ _ e => nomatch e
theorem waitSatisfied (e : Fin 8) : Statement (.waitSatisfied e) := fun _ _ e => nomatch e
theorem sectionIssue (e : Fin 8) (errs : List EccErr) : Statement (.sectionIssue e errs) := fun _ _ e => nomatch e
theorem cascadeComplete (e : Fin 8) : Statement (.cascadeComplete e) := fun _ _ e => nomatch e
theorem outputLand (e : Fin 8) : Statement (.outputLand e) := fun _ _ e => nomatch e
theorem loopDeadline (e : Fin 8) : Statement (.loopDeadline e) := fun _ _ e => nomatch e
theorem swapRequest (m : Nat) (v : Word) : Statement (.swapRequest m v) := fun h _ e => of_one h e
theorem grpCfgWrite (m : Nat) (g : Fin 16) (v : Word) : Statement (.grpCfgWrite m g v) := fun h _ e => of_one h e
theorem traceArm (m : Nat) (e : Fin 8) (v : Word) : Statement (.traceArm m e v) := fun h _ e => of_and h e
theorem traceStop (m : Nat) (e : Fin 8) (v : Word) : Statement (.traceStop m e v) := fun h _ e => of_and h e
theorem traceForce (m : Nat) (e : Fin 8) (v : Word) : Statement (.traceForce m e v) := fun h _ e => of_and h e
theorem traceRecord (e : Fin 8) : Statement (.traceRecord e) := fun _ _ e => nomatch e
theorem traceCfgWrite (m : Nat) (e : Fin 8) (w : Fin 19) (v : Word) : Statement (.traceCfgWrite m e w v) := fun h _ e => of_one h e
theorem runmaxClear (m : Nat) (e : Fin 8) : Statement (.runmaxClear m e) := fun h _ e => of_one h e
theorem naninfoRelease (m : Nat) (e : Fin 8) : Statement (.naninfoRelease m e) := fun h _ e => of_one h e
theorem claimLearn (m : Nat) (v : Word) : Statement (.claimLearn m v) := fun h _ e => of_and h e
theorem learnEnd : Statement (.learnEnd) := fun _ _ e => nomatch e
theorem hbSend (lane : Fin 2) (off : Fin 251) : Statement (.hbSend lane off) := fun _ _ e => nomatch e
theorem hbReceive (lane : Fin 2) (hb : HbRec) (t2 : Nat) : Statement (.hbReceive lane hb t2) := fun _ _ e => nomatch e
theorem hbSilent : Statement (.hbSilent) := fun _ _ e => nomatch e
theorem rimSilent (n : Fin 32) : Statement (.rimSilent n) := fun _ _ e => nomatch e
theorem peerFrame (n : Fin 32) (b : RimBlock) (bs : List RimBlock) (sof : Nat) (tp : Nat) : Statement (.peerFrame n b bs sof tp) := fun _ _ e => nomatch e
theorem adtRecord (l : Fin 1024) (dir : Fin 2) (adt : BitVec 12) (fb : Bool) : Statement (.adtRecord l dir adt fb) := fun _ _ e => nomatch e
theorem swapRecord (mask : BitVec 16) : Statement (.swapRecord mask) := fun _ _ e => nomatch e
theorem takeover : Statement (.takeover) := fun _ _ e => nomatch e
theorem takeoverComplete : Statement (.takeoverComplete) := fun _ _ e => nomatch e
theorem relinquish : Statement (.relinquish) := fun _ _ e => nomatch e
theorem resign (m : Nat) (v : Word) : Statement (.resign m v) := fun h _ e => of_and h e
theorem resignFail : Statement (.resignFail) := fun _ _ e => nomatch e
theorem mirrorListLoad (m : Nat) (v : Word) : Statement (.mirrorListLoad m v) := fun h _ e => of_and h e
theorem mirrorCapture : Statement (.mirrorCapture) := fun _ _ e => nomatch e
theorem mirrorStreamEnd : Statement (.mirrorStreamEnd) := fun _ _ e => nomatch e
theorem mdata (off : BitVec 32) (data : List (BitVec 8)) : Statement (.mdata off data) := fun _ _ e => nomatch e
theorem mend (epoch : BitVec 32) (ns : BitVec 32) (sec : BitVec 32) (ebytes : BitVec 32) (crc : BitVec 32) : Statement (.mend epoch ns sec ebytes crc) := fun _ _ e => nomatch e
theorem mirrorApply : Statement (.mirrorApply) := fun _ _ e => nomatch e
theorem mirrorApplyEnd : Statement (.mirrorApplyEnd) := fun _ _ e => nomatch e
theorem sourceLatch (n : Fin 64) : Statement (.sourceLatch n) := fun _ _ e => nomatch e
theorem faultRecovery : Statement (.faultRecovery) := fun _ _ e => nomatch e
theorem fcRelease (m : Nat) : Statement (.fcRelease m) := fun h _ e => of_one h e
theorem fcUnblock (m : Nat) : Statement (.fcUnblock m) := fun h _ e => of_one h e
theorem swfault (m : Nat) : Statement (.swfault m) := fun h _ e => of_one h e
theorem forceWrite (m : Nat) (hi : Bool) (v : Word) : Statement (.forceWrite m hi v) := fun h _ e => of_one h e
theorem tforceWrite (m : Nat) (hi : Bool) (v : Word) : Statement (.tforceWrite m hi v) := fun h _ e => of_one h e
theorem scoreClear (m : Nat) (hi : Bool) (v : Word) : Statement (.scoreClear m hi v) := fun h _ e => of_one h e
theorem classWrite (m : Nat) (n : Fin 64) (v : Word) : Statement (.classWrite m n v) := fun h _ e => of_one h e
theorem firstRelease (m : Nat) : Statement (.firstRelease m) := fun h _ e => of_one h e
theorem lockstepMiscompare : Statement (.lockstepMiscompare) := fun _ _ e => nomatch e
theorem tripWrite (m : Nat) (v : Word) : Statement (.tripWrite m v) := fun h _ e => of_one h e
theorem tripMinExpire (n : Fin 8) : Statement (.tripMinExpire n) := fun _ _ e => nomatch e
theorem tripCfgWrite (m : Nat) (v : Word) : Statement (.tripCfgWrite m v) := fun h _ e => of_one h e
theorem blockCommand (m : Nat) (v : Word) : Statement (.blockCommand m v) := fun h _ e => of_one h e
theorem aliveToggle : Statement (.aliveToggle) := fun _ _ e => nomatch e
theorem aliveKick (m : Nat) (v : Word) : Statement (.aliveKick m v) := fun h _ e => of_one h e
theorem kickExpire : Statement (.kickExpire) := fun _ _ e => nomatch e
theorem svcHang (core : Fin 4) : Statement (.svcHang core) := fun _ _ e => nomatch e
theorem svcCacheError (core : Fin 4) (l2 : Bool) : Statement (.svcCacheError core l2) := fun _ _ e => nomatch e
theorem shedRequestEnd : Statement (.shedRequestEnd) := fun _ _ e => nomatch e
theorem thermSample (temps : List (BitVec 16)) : Statement (.thermSample temps) := fun _ _ e => nomatch e
theorem thermJudge : Statement (.thermJudge) := fun _ _ e => nomatch e
theorem shutdownHibernate : Statement (.shutdownHibernate) := fun _ _ e => nomatch e
theorem throttleWrite (m : Nat) (v : Word) : Statement (.throttleWrite m v) := fun h _ e => of_one h e
theorem throttleReq (m : Nat) (v : Word) : Statement (.throttleReq m v) := fun h _ e => of_one h e
theorem eccWriteback : Statement (.eccWriteback) := fun _ _ e => nomatch e
theorem sramClearDone (safe : Bool) : Statement (.sramClearDone safe) := fun _ _ e => nomatch e
theorem scrubStep (err : Option Bool) : Statement (.scrubStep err) := fun _ _ e => nomatch e
theorem safetyScrubStep (err : Option Bool) : Statement (.safetyScrubStep err) := fun _ _ e => nomatch e
theorem eccRelease (m : Nat) : Statement (.eccRelease m) := fun h _ e => of_one h e
theorem xspiRead (m : Nat) (v : Word) (data : List (BitVec 8)) : Statement (.xspiRead m v data) := fun h _ e => of_and h e
theorem xspiProg (m : Nat) (v : Word) : Statement (.xspiProg m v) := fun h _ e => of_and h e
theorem xspiErase (m : Nat) (v : Word) : Statement (.xspiErase m v) := fun h _ e => of_and h e
theorem xspiRegRd (m : Nat) (v : Word) (data : List (BitVec 8)) : Statement (.xspiRegRd m v data) := fun h _ e => of_and h e
theorem xspiRegWr (m : Nat) (v : Word) : Statement (.xspiRegWr m v) := fun h _ e => of_and h e
theorem xspiCmdDone : Statement (.xspiCmdDone) := fun _ _ e => nomatch e
theorem xspiPollTimeout : Statement (.xspiPollTimeout) := fun _ _ e => nomatch e
theorem xspiDataPop (m : Nat) : Statement (.xspiDataPop m) := fun h _ e => of_one h e
theorem xspiDataPush (m : Nat) (v : Word) : Statement (.xspiDataPush m v) := fun h _ e => of_one h e
theorem dmaStart (m : Nat) (h : Fin 32) (v : Word) : Statement (.dmaStart m h v) := fun h _ e => of_and h e
theorem dmaFetch (h : Fin 32) (errs : List EccErr) : Statement (.dmaFetch h errs) := fun _ _ e => nomatch e
theorem dmaSwtrig (m : Nat) (h : Fin 32) (v : Word) : Statement (.dmaSwtrig m h v) := fun h _ e => of_and h e
theorem dmaBurst : Statement (.dmaBurst) := fun _ _ e => nomatch e
theorem dmaReadBeat (h : Fin 32) (n : Nat) (errs : List EccErr) : Statement (.dmaReadBeat h n errs) := fun _ _ e => nomatch e
theorem dmaWriteResponse (h : Fin 32) (n : Nat) (errs : List EccErr) : Statement (.dmaWriteResponse h n errs) := fun _ _ e => nomatch e
theorem dmaWriteback (h : Fin 32) (errs : List EccErr) : Statement (.dmaWriteback h errs) := fun _ _ e => nomatch e
theorem dmaAbort (m : Nat) (h : Fin 32) (v : Word) : Statement (.dmaAbort m h v) := fun h _ e => of_and h e
theorem dmaWindowEnd : Statement (.dmaWindowEnd) := fun _ _ e => nomatch e
theorem stationFrameRx (port : Fin 2) (bytes : List (BitVec 8)) (fcsOk : Bool) (t : Nat) : Statement (.stationFrameRx port bytes fcsOk t) := fun _ _ e => nomatch e
theorem svAsdu : Statement (.svAsdu) := fun _ _ e => nomatch e
theorem svTimeout (sub : Fin 32) : Statement (.svTimeout sub) := fun _ _ e => nomatch e
theorem gooseMessage : Statement (.gooseMessage) := fun _ _ e => nomatch e
theorem gooseTimeout (sub : Fin 16) : Statement (.gooseTimeout sub) := fun _ _ e => nomatch e
theorem rraRequest : Statement (.rraRequest) := fun _ _ e => nomatch e
theorem rraItem (errs : List EccErr) : Statement (.rraItem errs) := fun _ _ e => nomatch e
theorem rraResponse : Statement (.rraResponse) := fun _ _ e => nomatch e
theorem rraSessionEnable (m : Nat) (j : Fin 8) (v : Word) : Statement (.rraSessionEnable m j v) := fun h _ e => of_and h e
theorem rxDescPop (m : Nat) (port : Fin 2) : Statement (.rxDescPop m port) := fun h _ e => of_one h e
theorem rxDataRead (m : Nat) (port : Fin 2) : Statement (.rxDataRead m port) := fun h _ e => of_one h e
theorem txDescWrite (m : Nat) (port : Fin 2) (v : Word) : Statement (.txDescWrite m port v) := fun h _ e => of_one h e
theorem txDataPush (m : Nat) (port : Fin 2) (v : Word) : Statement (.txDataPush m port v) := fun h _ e => of_one h e
theorem stationTx (port : Fin 2) (t : Nat) : Statement (.stationTx port t) := fun _ _ e => nomatch e
theorem hsrForward (port : Fin 2) (t : Nat) : Statement (.hsrForward port t) := fun _ _ e => nomatch e
theorem redSupervision : Statement (.redSupervision) := fun _ _ e => nomatch e
theorem stationLinkLoss (port : Fin 2) : Statement (.stationLinkLoss port) := fun _ _ e => nomatch e
theorem goosePubEnable (m : Nat) (u : Fin 16) (v : Word) : Statement (.goosePubEnable m u v) := fun h _ e => of_and h e
theorem goosePubDisable (m : Nat) (u : Fin 16) (v : Word) : Statement (.goosePubDisable m u v) := fun h _ e => of_and h e
theorem gooseStateChange (m : Nat) (u : Fin 16) (v : Word) : Statement (.gooseStateChange m u v) := fun h _ e => of_one h e
theorem gooseRetransmit (u : Fin 16) : Statement (.gooseRetransmit u) := fun _ _ e => nomatch e
theorem vinWarn : Statement (.vinWarn) := fun _ _ e => nomatch e
theorem vinWarnHeld : Statement (.vinWarnHeld) := fun _ _ e => nomatch e
theorem vinWarnEnd : Statement (.vinWarnEnd) := fun _ _ e => nomatch e
theorem vinResetLevel : Statement (.vinResetLevel) := fun _ _ e => nomatch e
theorem vinMeasure (mv : BitVec 13) : Statement (.vinMeasure mv) := fun _ _ e => nomatch e
theorem vminClear (m : Nat) (v : Word) : Statement (.vminClear m v) := fun h _ e => of_and h e
theorem vddaLow : Statement (.vddaLow) := fun _ _ e => nomatch e
theorem vddaRecover : Statement (.vddaRecover) := fun _ _ e => nomatch e
theorem vddaRecoveryEnd : Statement (.vddaRecoveryEnd) := fun _ _ e => nomatch e
theorem ivrFault (r : Fin 3) : Statement (.ivrFault r) := fun _ _ e => nomatch e
theorem domWrite (m : Nat) (v : Word) : Statement (.domWrite m v) := fun h _ e => of_one h e
theorem domSwitchDone (dom : Fin 10) (forced : Option (Fin 21)) : Statement (.domSwitchDone dom forced) := fun _ _ e => nomatch e
theorem reqRun (m : Nat) (v : Word) : Statement (.reqRun m v) := fun h _ e => of_and h e
theorem reqShed (m : Nat) (v : Word) : Statement (.reqShed m v) := fun h _ e => of_and h e
theorem reqStandby (m : Nat) (v : Word) : Statement (.reqStandby m v) := fun h _ e => of_and h e
theorem reqHibernate (m : Nat) (v : Word) : Statement (.reqHibernate m v) := fun h _ e => of_and h e
theorem powerDomainSwitch : Statement (.powerDomainSwitch) := fun _ _ e => nomatch e
theorem powerTransitionDone : Statement (.powerTransitionDone) := fun _ _ e => nomatch e
theorem powerOnReset (bootsrc : BitVec 2) (tandemId : Bool) : Statement (.powerOnReset bootsrc tandemId) := fun _ _ e => nomatch e
theorem pinReset : Statement (.pinReset) := fun _ _ e => nomatch e
theorem resetHost (m : Nat) (v : Word) : Statement (.resetHost m v) := fun h _ e => of_and h e
theorem resetSafety (m : Nat) (v : Word) : Statement (.resetSafety m v) := fun h _ e => of_and h e
theorem resetService (m : Nat) (v : Word) : Statement (.resetService m v) := fun h _ e => of_and h e
theorem resetRelease : Statement (.resetRelease) := fun _ _ e => nomatch e
theorem svcStatus (n : Nat) : Statement (.svcStatus n) := fun _ _ e => nomatch e
theorem svcId : Statement (.svcId) := fun _ _ e => nomatch e
theorem svcRead (addr : Word) (n : Nat) (errs : List EccErr) : Statement (.svcRead addr n errs) := fun _ _ e => nomatch e
theorem svcWrite (addr : Word) (words : List Word) (errs : List EccErr) : Statement (.svcWrite addr words errs) := fun _ _ e => nomatch e
theorem svcReset (key1 : BitVec 8) (key2 : BitVec 8) (ovr : BitVec 8) : Statement (.svcReset key1 key2 ovr) := fun _ _ e => nomatch e
theorem stagingHandover : Statement (.stagingHandover) := fun _ _ e => nomatch e
theorem bootStageEnd (err : Fin 6) (dirA : List (BitVec 8)) (dirB : List (BitVec 8)) (image : List (BitVec 8)) : Statement (.bootStageEnd err dirA dirB image) := fun _ _ e => nomatch e
theorem svcportGo (m : Nat) (v : Word) : Statement (.svcportGo m v) := fun h _ e => of_one h e
theorem bootLoad (port : Fin 2) (bytes : List (BitVec 8)) : Statement (.bootLoad port bytes) := fun _ _ e => nomatch e
theorem bootGo (port : Fin 2) (bytes : List (BitVec 8)) : Statement (.bootGo port bytes) := fun _ _ e => nomatch e
theorem otpRbAdvance (m : Nat) (v : Word) : Statement (.otpRbAdvance m v) := fun h _ e => of_and h e
theorem otpOwner (m : Nat) (v : Word) : Statement (.otpOwner m v) := fun h _ e => of_and h e
theorem otpPatch (m : Nat) (v : Word) : Statement (.otpPatch m v) := fun h _ e => of_and h e
theorem otpBitBurn (ok : Bool) : Statement (.otpBitBurn ok) := fun _ _ e => nomatch e
theorem vStart (m : Nat) : Statement (.vStart m) := fun h _ e => of_one h e
theorem vDone (bus : Bool) : Statement (.vDone bus) := fun _ _ e => nomatch e
theorem vCommit (m : Nat) : Statement (.vCommit m) := fun h _ e => of_one h e
theorem vProfile (m : Nat) : Statement (.vProfile m) := fun h _ e => of_one h e
theorem vAbort (m : Nat) : Statement (.vAbort m) := fun h _ e => of_one h e
theorem vClear (m : Nat) : Statement (.vClear m) := fun h _ e => of_one h e
theorem protSwap (m : Nat) : Statement (.protSwap m) := fun h _ e => of_one h e
theorem attestStart (m : Nat) : Statement (.attestStart m) := fun h _ e => of_one h e
theorem attestDone : Statement (.attestDone) := fun _ _ e => nomatch e
theorem attestPubkey (m : Nat) : Statement (.attestPubkey m) := fun h _ e => of_one h e
theorem updSet (m : Nat) (v : Word) : Statement (.updSet m v) := fun h _ e => of_one h e
theorem busRead (m : Nat) (addr : Nat) (n : Nat) (errs : List EccErr) : Statement (.busRead m addr n errs) := fun h _ e => of_and h e
theorem stationLinkChange (port : Fin 2) (lock : Bool) (aneg : Bool) : Statement (.stationLinkChange port lock aneg) := fun _ _ e => nomatch e
theorem tandemLaneLockChange (lane : Fin 2) (lock : Bool) : Statement (.tandemLaneLockChange lane lock) := fun _ _ e => nomatch e
theorem tfLost : Statement (.tfLost) := fun _ _ e => nomatch e
theorem ivrFaultEnd (r : Fin 3) : Statement (.ivrFaultEnd r) := fun _ _ e => nomatch e
theorem resetNRise : Statement (.resetNRise) := fun _ _ e => nomatch e
theorem gpioInputChange (pin : Fin 32) (level : Bool) (pulse : Bool) : Statement (.gpioInputChange pin level pulse) := fun _ _ e => nomatch e

end Sys2Proof.Laws.OperandWf
end

