-- ==== Sys2Proof/Laws/State.lean ====
section
/-!
SUPPORT. Sys2Proof/Laws/State.lean: what each update of the device leaves in each of its fields, one lemma per field and
update; what a conditional and a repeated update keep; and the registers that the shared operations on progress, events
and page errors may change. With them no proof unfolds a record update.
-/
namespace Sys2Proof.Machine

/-! ## `wr` -/

section
variable (d : Dev) (f : FRef) (v : Nat)

@[simp] theorem Dev.wr_now : (d.wr f v).now = d.now := rfl
@[simp] theorem Dev.wr_tick : (d.wr f v).tick = d.tickSet f.reg (putBits 0 f.lo f.w v) := rfl
@[simp] theorem Dev.wr_freeCount : (d.wr f v).freeCount = d.freeCount := rfl
@[simp] theorem Dev.wr_resp : (d.wr f v).resp = d.resp := rfl
@[simp] theorem Dev.wr_unlocks : (d.wr f v).unlocks = d.unlocks := rfl
@[simp] theorem Dev.wr_blockResets : (d.wr f v).blockResets = d.blockResets := rfl
@[simp] theorem Dev.wr_irOwner : (d.wr f v).irOwner = d.irOwner := rfl
@[simp] theorem Dev.wr_captures : (d.wr f v).captures = d.captures := rfl
@[simp] theorem Dev.wr_gpio : (d.wr f v).gpio = d.gpio := rfl
@[simp] theorem Dev.wr_rimHalt : (d.wr f v).rimHalt = d.rimHalt := rfl
@[simp] theorem Dev.wr_clk : (d.wr f v).clk = d.clk := rfl
@[simp] theorem Dev.wr_time : (d.wr f v).time = d.time := rfl
@[simp] theorem Dev.wr_rims : (d.wr f v).rims = d.rims := rfl
@[simp] theorem Dev.wr_spokes : (d.wr f v).spokes = d.spokes := rfl
@[simp] theorem Dev.wr_edge : (d.wr f v).edge = d.edge := rfl
@[simp] theorem Dev.wr_adc : (d.wr f v).adc = d.adc := rfl
@[simp] theorem Dev.wr_loop : (d.wr f v).loop = d.loop := rfl
@[simp] theorem Dev.wr_tandem : (d.wr f v).tandem = d.tandem := rfl
@[simp] theorem Dev.wr_station : (d.wr f v).station = d.station := rfl
@[simp] theorem Dev.wr_fc : (d.wr f v).fc = d.fc := rfl
@[simp] theorem Dev.wr_therm : (d.wr f v).therm = d.therm := rfl
@[simp] theorem Dev.wr_memory : (d.wr f v).memory = d.memory := rfl
@[simp] theorem Dev.wr_xspi : (d.wr f v).xspi = d.xspi := rfl
@[simp] theorem Dev.wr_dma : (d.wr f v).dma = d.dma := rfl
@[simp] theorem Dev.wr_pwr : (d.wr f v).pwr = d.pwr := rfl
@[simp] theorem Dev.wr_rst : (d.wr f v).rst = d.rst := rfl
@[simp] theorem Dev.wr_sec : (d.wr f v).sec = d.sec := rfl

end

/-! ## `setWord` -/

section
variable (d : Dev) (r : Reg) (v : Nat)

@[simp] theorem Dev.setWord_now : (d.setWord r v).now = d.now := rfl
@[simp] theorem Dev.setWord_tick : (d.setWord r v).tick = d.tick := rfl
@[simp] theorem Dev.setWord_freeCount : (d.setWord r v).freeCount = d.freeCount := rfl
@[simp] theorem Dev.setWord_resp : (d.setWord r v).resp = d.resp := rfl
@[simp] theorem Dev.setWord_unlocks : (d.setWord r v).unlocks = d.unlocks := rfl
@[simp] theorem Dev.setWord_blockResets : (d.setWord r v).blockResets = d.blockResets := rfl
@[simp] theorem Dev.setWord_irOwner : (d.setWord r v).irOwner = d.irOwner := rfl
@[simp] theorem Dev.setWord_captures : (d.setWord r v).captures = d.captures := rfl
@[simp] theorem Dev.setWord_gpio : (d.setWord r v).gpio = d.gpio := rfl
@[simp] theorem Dev.setWord_rimHalt : (d.setWord r v).rimHalt = d.rimHalt := rfl
@[simp] theorem Dev.setWord_clk : (d.setWord r v).clk = d.clk := rfl
@[simp] theorem Dev.setWord_time : (d.setWord r v).time = d.time := rfl
@[simp] theorem Dev.setWord_rims : (d.setWord r v).rims = d.rims := rfl
@[simp] theorem Dev.setWord_spokes : (d.setWord r v).spokes = d.spokes := rfl
@[simp] theorem Dev.setWord_edge : (d.setWord r v).edge = d.edge := rfl
@[simp] theorem Dev.setWord_adc : (d.setWord r v).adc = d.adc := rfl
@[simp] theorem Dev.setWord_loop : (d.setWord r v).loop = d.loop := rfl
@[simp] theorem Dev.setWord_tandem : (d.setWord r v).tandem = d.tandem := rfl
@[simp] theorem Dev.setWord_station : (d.setWord r v).station = d.station := rfl
@[simp] theorem Dev.setWord_fc : (d.setWord r v).fc = d.fc := rfl
@[simp] theorem Dev.setWord_therm : (d.setWord r v).therm = d.therm := rfl
@[simp] theorem Dev.setWord_memory : (d.setWord r v).memory = d.memory := rfl
@[simp] theorem Dev.setWord_xspi : (d.setWord r v).xspi = d.xspi := rfl
@[simp] theorem Dev.setWord_dma : (d.setWord r v).dma = d.dma := rfl
@[simp] theorem Dev.setWord_pwr : (d.setWord r v).pwr = d.pwr := rfl
@[simp] theorem Dev.setWord_rst : (d.setWord r v).rst = d.rst := rfl
@[simp] theorem Dev.setWord_sec : (d.setWord r v).sec = d.sec := rfl

end

/-! ## `setBit` -/

section
variable (d : Dev) (f : FRef) (i : Nat)

@[simp] theorem Dev.setBit_now : (d.setBit f i).now = d.now := rfl
@[simp] theorem Dev.setBit_tick : (d.setBit f i).tick = d.tickSet f.reg (2 ^ (f.lo + i)) := rfl
@[simp] theorem Dev.setBit_freeCount : (d.setBit f i).freeCount = d.freeCount := rfl
@[simp] theorem Dev.setBit_resp : (d.setBit f i).resp = d.resp := rfl
@[simp] theorem Dev.setBit_unlocks : (d.setBit f i).unlocks = d.unlocks := rfl
@[simp] theorem Dev.setBit_blockResets : (d.setBit f i).blockResets = d.blockResets := rfl
@[simp] theorem Dev.setBit_irOwner : (d.setBit f i).irOwner = d.irOwner := rfl
@[simp] theorem Dev.setBit_captures : (d.setBit f i).captures = d.captures := rfl
@[simp] theorem Dev.setBit_gpio : (d.setBit f i).gpio = d.gpio := rfl
@[simp] theorem Dev.setBit_rimHalt : (d.setBit f i).rimHalt = d.rimHalt := rfl
@[simp] theorem Dev.setBit_clk : (d.setBit f i).clk = d.clk := rfl
@[simp] theorem Dev.setBit_time : (d.setBit f i).time = d.time := rfl
@[simp] theorem Dev.setBit_rims : (d.setBit f i).rims = d.rims := rfl
@[simp] theorem Dev.setBit_spokes : (d.setBit f i).spokes = d.spokes := rfl
@[simp] theorem Dev.setBit_edge : (d.setBit f i).edge = d.edge := rfl
@[simp] theorem Dev.setBit_adc : (d.setBit f i).adc = d.adc := rfl
@[simp] theorem Dev.setBit_loop : (d.setBit f i).loop = d.loop := rfl
@[simp] theorem Dev.setBit_tandem : (d.setBit f i).tandem = d.tandem := rfl
@[simp] theorem Dev.setBit_station : (d.setBit f i).station = d.station := rfl
@[simp] theorem Dev.setBit_fc : (d.setBit f i).fc = d.fc := rfl
@[simp] theorem Dev.setBit_therm : (d.setBit f i).therm = d.therm := rfl
@[simp] theorem Dev.setBit_memory : (d.setBit f i).memory = d.memory := rfl
@[simp] theorem Dev.setBit_xspi : (d.setBit f i).xspi = d.xspi := rfl
@[simp] theorem Dev.setBit_dma : (d.setBit f i).dma = d.dma := rfl
@[simp] theorem Dev.setBit_pwr : (d.setBit f i).pwr = d.pwr := rfl
@[simp] theorem Dev.setBit_rst : (d.setBit f i).rst = d.rst := rfl
@[simp] theorem Dev.setBit_sec : (d.setBit f i).sec = d.sec := rfl

end

/-! ## `clrBit` -/

section
variable (d : Dev) (f : FRef) (i : Nat)

@[simp] theorem Dev.clrBit_now : (d.clrBit f i).now = d.now := rfl
@[simp] theorem Dev.clrBit_tick : (d.clrBit f i).tick = d.tick := rfl
@[simp] theorem Dev.clrBit_freeCount : (d.clrBit f i).freeCount = d.freeCount := rfl
@[simp] theorem Dev.clrBit_resp : (d.clrBit f i).resp = d.resp := rfl
@[simp] theorem Dev.clrBit_unlocks : (d.clrBit f i).unlocks = d.unlocks := rfl
@[simp] theorem Dev.clrBit_blockResets : (d.clrBit f i).blockResets = d.blockResets := rfl
@[simp] theorem Dev.clrBit_irOwner : (d.clrBit f i).irOwner = d.irOwner := rfl
@[simp] theorem Dev.clrBit_captures : (d.clrBit f i).captures = d.captures := rfl
@[simp] theorem Dev.clrBit_gpio : (d.clrBit f i).gpio = d.gpio := rfl
@[simp] theorem Dev.clrBit_rimHalt : (d.clrBit f i).rimHalt = d.rimHalt := rfl
@[simp] theorem Dev.clrBit_clk : (d.clrBit f i).clk = d.clk := rfl
@[simp] theorem Dev.clrBit_time : (d.clrBit f i).time = d.time := rfl
@[simp] theorem Dev.clrBit_rims : (d.clrBit f i).rims = d.rims := rfl
@[simp] theorem Dev.clrBit_spokes : (d.clrBit f i).spokes = d.spokes := rfl
@[simp] theorem Dev.clrBit_edge : (d.clrBit f i).edge = d.edge := rfl
@[simp] theorem Dev.clrBit_adc : (d.clrBit f i).adc = d.adc := rfl
@[simp] theorem Dev.clrBit_loop : (d.clrBit f i).loop = d.loop := rfl
@[simp] theorem Dev.clrBit_tandem : (d.clrBit f i).tandem = d.tandem := rfl
@[simp] theorem Dev.clrBit_station : (d.clrBit f i).station = d.station := rfl
@[simp] theorem Dev.clrBit_fc : (d.clrBit f i).fc = d.fc := rfl
@[simp] theorem Dev.clrBit_therm : (d.clrBit f i).therm = d.therm := rfl
@[simp] theorem Dev.clrBit_memory : (d.clrBit f i).memory = d.memory := rfl
@[simp] theorem Dev.clrBit_xspi : (d.clrBit f i).xspi = d.xspi := rfl
@[simp] theorem Dev.clrBit_dma : (d.clrBit f i).dma = d.dma := rfl
@[simp] theorem Dev.clrBit_pwr : (d.clrBit f i).pwr = d.pwr := rfl
@[simp] theorem Dev.clrBit_rst : (d.clrBit f i).rst = d.rst := rfl
@[simp] theorem Dev.clrBit_sec : (d.clrBit f i).sec = d.sec := rfl

end

/-! ## `orWord` -/

section
variable (d : Dev) (r : Reg) (bits : Nat)

@[simp] theorem Dev.orWord_now : (d.orWord r bits).now = d.now := rfl
@[simp] theorem Dev.orWord_tick : (d.orWord r bits).tick = d.tickSet r bits := rfl
@[simp] theorem Dev.orWord_freeCount : (d.orWord r bits).freeCount = d.freeCount := rfl
@[simp] theorem Dev.orWord_resp : (d.orWord r bits).resp = d.resp := rfl
@[simp] theorem Dev.orWord_unlocks : (d.orWord r bits).unlocks = d.unlocks := rfl
@[simp] theorem Dev.orWord_blockResets : (d.orWord r bits).blockResets = d.blockResets := rfl
@[simp] theorem Dev.orWord_irOwner : (d.orWord r bits).irOwner = d.irOwner := rfl
@[simp] theorem Dev.orWord_captures : (d.orWord r bits).captures = d.captures := rfl
@[simp] theorem Dev.orWord_gpio : (d.orWord r bits).gpio = d.gpio := rfl
@[simp] theorem Dev.orWord_rimHalt : (d.orWord r bits).rimHalt = d.rimHalt := rfl
@[simp] theorem Dev.orWord_clk : (d.orWord r bits).clk = d.clk := rfl
@[simp] theorem Dev.orWord_time : (d.orWord r bits).time = d.time := rfl
@[simp] theorem Dev.orWord_rims : (d.orWord r bits).rims = d.rims := rfl
@[simp] theorem Dev.orWord_spokes : (d.orWord r bits).spokes = d.spokes := rfl
@[simp] theorem Dev.orWord_edge : (d.orWord r bits).edge = d.edge := rfl
@[simp] theorem Dev.orWord_adc : (d.orWord r bits).adc = d.adc := rfl
@[simp] theorem Dev.orWord_loop : (d.orWord r bits).loop = d.loop := rfl
@[simp] theorem Dev.orWord_tandem : (d.orWord r bits).tandem = d.tandem := rfl
@[simp] theorem Dev.orWord_station : (d.orWord r bits).station = d.station := rfl
@[simp] theorem Dev.orWord_fc : (d.orWord r bits).fc = d.fc := rfl
@[simp] theorem Dev.orWord_therm : (d.orWord r bits).therm = d.therm := rfl
@[simp] theorem Dev.orWord_memory : (d.orWord r bits).memory = d.memory := rfl
@[simp] theorem Dev.orWord_xspi : (d.orWord r bits).xspi = d.xspi := rfl
@[simp] theorem Dev.orWord_dma : (d.orWord r bits).dma = d.dma := rfl
@[simp] theorem Dev.orWord_pwr : (d.orWord r bits).pwr = d.pwr := rfl
@[simp] theorem Dev.orWord_rst : (d.orWord r bits).rst = d.rst := rfl
@[simp] theorem Dev.orWord_sec : (d.orWord r bits).sec = d.sec := rfl

end

/-! ## `noteCapture` -/

section
variable (d : Dev) (k : Reg) (l : List (Reg × Nat))

@[simp] theorem Dev.noteCapture_now : (d.noteCapture k l).now = d.now := rfl
@[simp] theorem Dev.noteCapture_tick : (d.noteCapture k l).tick = d.tick := rfl
@[simp] theorem Dev.noteCapture_freeCount : (d.noteCapture k l).freeCount = d.freeCount := rfl
@[simp] theorem Dev.noteCapture_regs : (d.noteCapture k l).regs = d.regs := rfl
@[simp] theorem Dev.noteCapture_resp : (d.noteCapture k l).resp = d.resp := rfl
@[simp] theorem Dev.noteCapture_unlocks : (d.noteCapture k l).unlocks = d.unlocks := rfl
@[simp] theorem Dev.noteCapture_blockResets : (d.noteCapture k l).blockResets = d.blockResets := rfl
@[simp] theorem Dev.noteCapture_irOwner : (d.noteCapture k l).irOwner = d.irOwner := rfl
@[simp] theorem Dev.noteCapture_gpio : (d.noteCapture k l).gpio = d.gpio := rfl
@[simp] theorem Dev.noteCapture_rimHalt : (d.noteCapture k l).rimHalt = d.rimHalt := rfl
@[simp] theorem Dev.noteCapture_clk : (d.noteCapture k l).clk = d.clk := rfl
@[simp] theorem Dev.noteCapture_time : (d.noteCapture k l).time = d.time := rfl
@[simp] theorem Dev.noteCapture_rims : (d.noteCapture k l).rims = d.rims := rfl
@[simp] theorem Dev.noteCapture_spokes : (d.noteCapture k l).spokes = d.spokes := rfl
@[simp] theorem Dev.noteCapture_edge : (d.noteCapture k l).edge = d.edge := rfl
@[simp] theorem Dev.noteCapture_adc : (d.noteCapture k l).adc = d.adc := rfl
@[simp] theorem Dev.noteCapture_loop : (d.noteCapture k l).loop = d.loop := rfl
@[simp] theorem Dev.noteCapture_tandem : (d.noteCapture k l).tandem = d.tandem := rfl
@[simp] theorem Dev.noteCapture_station : (d.noteCapture k l).station = d.station := rfl
@[simp] theorem Dev.noteCapture_fc : (d.noteCapture k l).fc = d.fc := rfl
@[simp] theorem Dev.noteCapture_therm : (d.noteCapture k l).therm = d.therm := rfl
@[simp] theorem Dev.noteCapture_memory : (d.noteCapture k l).memory = d.memory := rfl
@[simp] theorem Dev.noteCapture_xspi : (d.noteCapture k l).xspi = d.xspi := rfl
@[simp] theorem Dev.noteCapture_dma : (d.noteCapture k l).dma = d.dma := rfl
@[simp] theorem Dev.noteCapture_pwr : (d.noteCapture k l).pwr = d.pwr := rfl
@[simp] theorem Dev.noteCapture_rst : (d.noteCapture k l).rst = d.rst := rfl
@[simp] theorem Dev.noteCapture_sec : (d.noteCapture k l).sec = d.sec := rfl

end

/-! ## `taken` -/

section
variable (d : Dev)

@[simp] theorem Dev.taken_now : (d.taken).now = d.now := rfl
@[simp] theorem Dev.taken_tick : (d.taken).tick = d.tick := rfl
@[simp] theorem Dev.taken_freeCount : (d.taken).freeCount = d.freeCount + 1 := rfl
@[simp] theorem Dev.taken_regs : (d.taken).regs = d.regs := rfl
@[simp] theorem Dev.taken_resp : (d.taken).resp = d.resp := rfl
@[simp] theorem Dev.taken_unlocks : (d.taken).unlocks = d.unlocks := rfl
@[simp] theorem Dev.taken_blockResets : (d.taken).blockResets = d.blockResets := rfl
@[simp] theorem Dev.taken_irOwner : (d.taken).irOwner = d.irOwner := rfl
@[simp] theorem Dev.taken_captures : (d.taken).captures = d.captures := rfl
@[simp] theorem Dev.taken_gpio : (d.taken).gpio = d.gpio := rfl
@[simp] theorem Dev.taken_rimHalt : (d.taken).rimHalt = d.rimHalt := rfl
@[simp] theorem Dev.taken_clk : (d.taken).clk = d.clk := rfl
@[simp] theorem Dev.taken_time : (d.taken).time = d.time := rfl
@[simp] theorem Dev.taken_rims : (d.taken).rims = d.rims := rfl
@[simp] theorem Dev.taken_spokes : (d.taken).spokes = d.spokes := rfl
@[simp] theorem Dev.taken_edge : (d.taken).edge = d.edge := rfl
@[simp] theorem Dev.taken_adc : (d.taken).adc = d.adc := rfl
@[simp] theorem Dev.taken_loop : (d.taken).loop = d.loop := rfl
@[simp] theorem Dev.taken_tandem : (d.taken).tandem = d.tandem := rfl
@[simp] theorem Dev.taken_station : (d.taken).station = d.station := rfl
@[simp] theorem Dev.taken_fc : (d.taken).fc = d.fc := rfl
@[simp] theorem Dev.taken_therm : (d.taken).therm = d.therm := rfl
@[simp] theorem Dev.taken_memory : (d.taken).memory = d.memory := rfl
@[simp] theorem Dev.taken_xspi : (d.taken).xspi = d.xspi := rfl
@[simp] theorem Dev.taken_dma : (d.taken).dma = d.dma := rfl
@[simp] theorem Dev.taken_pwr : (d.taken).pwr = d.pwr := rfl
@[simp] theorem Dev.taken_rst : (d.taken).rst = d.rst := rfl
@[simp] theorem Dev.taken_sec : (d.taken).sec = d.sec := rfl

end

/-! ## `setRim` -/

section
variable (d : Dev) (n : Nat) (r : RimState)

@[simp] theorem Dev.setRim_now : (d.setRim n r).now = d.now := rfl
@[simp] theorem Dev.setRim_tick : (d.setRim n r).tick = d.tick := rfl
@[simp] theorem Dev.setRim_freeCount : (d.setRim n r).freeCount = d.freeCount := rfl
@[simp] theorem Dev.setRim_regs : (d.setRim n r).regs = d.regs := rfl
@[simp] theorem Dev.setRim_resp : (d.setRim n r).resp = d.resp := rfl
@[simp] theorem Dev.setRim_unlocks : (d.setRim n r).unlocks = d.unlocks := rfl
@[simp] theorem Dev.setRim_blockResets : (d.setRim n r).blockResets = d.blockResets := rfl
@[simp] theorem Dev.setRim_irOwner : (d.setRim n r).irOwner = d.irOwner := rfl
@[simp] theorem Dev.setRim_captures : (d.setRim n r).captures = d.captures := rfl
@[simp] theorem Dev.setRim_gpio : (d.setRim n r).gpio = d.gpio := rfl
@[simp] theorem Dev.setRim_rimHalt : (d.setRim n r).rimHalt = d.rimHalt := rfl
@[simp] theorem Dev.setRim_clk : (d.setRim n r).clk = d.clk := rfl
@[simp] theorem Dev.setRim_time : (d.setRim n r).time = d.time := rfl
@[simp] theorem Dev.setRim_rims : (d.setRim n r).rims = mset d.rims n r := rfl
@[simp] theorem Dev.setRim_spokes : (d.setRim n r).spokes = d.spokes := rfl
@[simp] theorem Dev.setRim_edge : (d.setRim n r).edge = d.edge := rfl
@[simp] theorem Dev.setRim_adc : (d.setRim n r).adc = d.adc := rfl
@[simp] theorem Dev.setRim_loop : (d.setRim n r).loop = d.loop := rfl
@[simp] theorem Dev.setRim_tandem : (d.setRim n r).tandem = d.tandem := rfl
@[simp] theorem Dev.setRim_station : (d.setRim n r).station = d.station := rfl
@[simp] theorem Dev.setRim_fc : (d.setRim n r).fc = d.fc := rfl
@[simp] theorem Dev.setRim_therm : (d.setRim n r).therm = d.therm := rfl
@[simp] theorem Dev.setRim_memory : (d.setRim n r).memory = d.memory := rfl
@[simp] theorem Dev.setRim_xspi : (d.setRim n r).xspi = d.xspi := rfl
@[simp] theorem Dev.setRim_dma : (d.setRim n r).dma = d.dma := rfl
@[simp] theorem Dev.setRim_pwr : (d.setRim n r).pwr = d.pwr := rfl
@[simp] theorem Dev.setRim_rst : (d.setRim n r).rst = d.rst := rfl
@[simp] theorem Dev.setRim_sec : (d.setRim n r).sec = d.sec := rfl

end

/-! ## `setSpoke` -/

section
variable (d : Dev) (k : Nat) (p : SpokeState)

@[simp] theorem Dev.setSpoke_now : (d.setSpoke k p).now = d.now := rfl
@[simp] theorem Dev.setSpoke_tick : (d.setSpoke k p).tick = d.tick := rfl
@[simp] theorem Dev.setSpoke_freeCount : (d.setSpoke k p).freeCount = d.freeCount := rfl
@[simp] theorem Dev.setSpoke_regs : (d.setSpoke k p).regs = d.regs := rfl
@[simp] theorem Dev.setSpoke_resp : (d.setSpoke k p).resp = d.resp := rfl
@[simp] theorem Dev.setSpoke_unlocks : (d.setSpoke k p).unlocks = d.unlocks := rfl
@[simp] theorem Dev.setSpoke_blockResets : (d.setSpoke k p).blockResets = d.blockResets := rfl
@[simp] theorem Dev.setSpoke_irOwner : (d.setSpoke k p).irOwner = d.irOwner := rfl
@[simp] theorem Dev.setSpoke_captures : (d.setSpoke k p).captures = d.captures := rfl
@[simp] theorem Dev.setSpoke_gpio : (d.setSpoke k p).gpio = d.gpio := rfl
@[simp] theorem Dev.setSpoke_rimHalt : (d.setSpoke k p).rimHalt = d.rimHalt := rfl
@[simp] theorem Dev.setSpoke_clk : (d.setSpoke k p).clk = d.clk := rfl
@[simp] theorem Dev.setSpoke_time : (d.setSpoke k p).time = d.time := rfl
@[simp] theorem Dev.setSpoke_rims : (d.setSpoke k p).rims = d.rims := rfl
@[simp] theorem Dev.setSpoke_spokes : (d.setSpoke k p).spokes = mset d.spokes k p := rfl
@[simp] theorem Dev.setSpoke_edge : (d.setSpoke k p).edge = d.edge := rfl
@[simp] theorem Dev.setSpoke_adc : (d.setSpoke k p).adc = d.adc := rfl
@[simp] theorem Dev.setSpoke_loop : (d.setSpoke k p).loop = d.loop := rfl
@[simp] theorem Dev.setSpoke_tandem : (d.setSpoke k p).tandem = d.tandem := rfl
@[simp] theorem Dev.setSpoke_station : (d.setSpoke k p).station = d.station := rfl
@[simp] theorem Dev.setSpoke_fc : (d.setSpoke k p).fc = d.fc := rfl
@[simp] theorem Dev.setSpoke_therm : (d.setSpoke k p).therm = d.therm := rfl
@[simp] theorem Dev.setSpoke_memory : (d.setSpoke k p).memory = d.memory := rfl
@[simp] theorem Dev.setSpoke_xspi : (d.setSpoke k p).xspi = d.xspi := rfl
@[simp] theorem Dev.setSpoke_dma : (d.setSpoke k p).dma = d.dma := rfl
@[simp] theorem Dev.setSpoke_pwr : (d.setSpoke k p).pwr = d.pwr := rfl
@[simp] theorem Dev.setSpoke_rst : (d.setSpoke k p).rst = d.rst := rfl
@[simp] theorem Dev.setSpoke_sec : (d.setSpoke k p).sec = d.sec := rfl

end

/-! ## `setLeg` -/

section
variable (d : Dev) (l : Nat) (g : Leg)

@[simp] theorem Dev.setLeg_now : (d.setLeg l g).now = d.now := rfl
@[simp] theorem Dev.setLeg_tick : (d.setLeg l g).tick = d.tick := rfl
@[simp] theorem Dev.setLeg_freeCount : (d.setLeg l g).freeCount = d.freeCount := rfl
@[simp] theorem Dev.setLeg_regs : (d.setLeg l g).regs = d.regs := rfl
@[simp] theorem Dev.setLeg_resp : (d.setLeg l g).resp = d.resp := rfl
@[simp] theorem Dev.setLeg_unlocks : (d.setLeg l g).unlocks = d.unlocks := rfl
@[simp] theorem Dev.setLeg_blockResets : (d.setLeg l g).blockResets = d.blockResets := rfl
@[simp] theorem Dev.setLeg_irOwner : (d.setLeg l g).irOwner = d.irOwner := rfl
@[simp] theorem Dev.setLeg_captures : (d.setLeg l g).captures = d.captures := rfl
@[simp] theorem Dev.setLeg_gpio : (d.setLeg l g).gpio = d.gpio := rfl
@[simp] theorem Dev.setLeg_rimHalt : (d.setLeg l g).rimHalt = d.rimHalt := rfl
@[simp] theorem Dev.setLeg_clk : (d.setLeg l g).clk = d.clk := rfl
@[simp] theorem Dev.setLeg_time : (d.setLeg l g).time = d.time := rfl
@[simp] theorem Dev.setLeg_rims : (d.setLeg l g).rims = d.rims := rfl
@[simp] theorem Dev.setLeg_spokes : (d.setLeg l g).spokes = d.spokes := rfl
@[simp] theorem Dev.setLeg_edge : (d.setLeg l g).edge = { d.edge with legs := mset d.edge.legs l g } := rfl
@[simp] theorem Dev.setLeg_adc : (d.setLeg l g).adc = d.adc := rfl
@[simp] theorem Dev.setLeg_loop : (d.setLeg l g).loop = d.loop := rfl
@[simp] theorem Dev.setLeg_tandem : (d.setLeg l g).tandem = d.tandem := rfl
@[simp] theorem Dev.setLeg_station : (d.setLeg l g).station = d.station := rfl
@[simp] theorem Dev.setLeg_fc : (d.setLeg l g).fc = d.fc := rfl
@[simp] theorem Dev.setLeg_therm : (d.setLeg l g).therm = d.therm := rfl
@[simp] theorem Dev.setLeg_memory : (d.setLeg l g).memory = d.memory := rfl
@[simp] theorem Dev.setLeg_xspi : (d.setLeg l g).xspi = d.xspi := rfl
@[simp] theorem Dev.setLeg_dma : (d.setLeg l g).dma = d.dma := rfl
@[simp] theorem Dev.setLeg_pwr : (d.setLeg l g).pwr = d.pwr := rfl
@[simp] theorem Dev.setLeg_rst : (d.setLeg l g).rst = d.rst := rfl
@[simp] theorem Dev.setLeg_sec : (d.setLeg l g).sec = d.sec := rfl

end

/-! ## `setCar` -/

section
variable (d : Dev) (c : Nat) (x : Carrier)

@[simp] theorem Dev.setCar_now : (d.setCar c x).now = d.now := rfl
@[simp] theorem Dev.setCar_tick : (d.setCar c x).tick = d.tick := rfl
@[simp] theorem Dev.setCar_freeCount : (d.setCar c x).freeCount = d.freeCount := rfl
@[simp] theorem Dev.setCar_regs : (d.setCar c x).regs = d.regs := rfl
@[simp] theorem Dev.setCar_resp : (d.setCar c x).resp = d.resp := rfl
@[simp] theorem Dev.setCar_unlocks : (d.setCar c x).unlocks = d.unlocks := rfl
@[simp] theorem Dev.setCar_blockResets : (d.setCar c x).blockResets = d.blockResets := rfl
@[simp] theorem Dev.setCar_irOwner : (d.setCar c x).irOwner = d.irOwner := rfl
@[simp] theorem Dev.setCar_captures : (d.setCar c x).captures = d.captures := rfl
@[simp] theorem Dev.setCar_gpio : (d.setCar c x).gpio = d.gpio := rfl
@[simp] theorem Dev.setCar_rimHalt : (d.setCar c x).rimHalt = d.rimHalt := rfl
@[simp] theorem Dev.setCar_clk : (d.setCar c x).clk = d.clk := rfl
@[simp] theorem Dev.setCar_time : (d.setCar c x).time = d.time := rfl
@[simp] theorem Dev.setCar_rims : (d.setCar c x).rims = d.rims := rfl
@[simp] theorem Dev.setCar_spokes : (d.setCar c x).spokes = d.spokes := rfl
@[simp] theorem Dev.setCar_edge : (d.setCar c x).edge = { d.edge with cars := mset d.edge.cars c x } := rfl
@[simp] theorem Dev.setCar_adc : (d.setCar c x).adc = d.adc := rfl
@[simp] theorem Dev.setCar_loop : (d.setCar c x).loop = d.loop := rfl
@[simp] theorem Dev.setCar_tandem : (d.setCar c x).tandem = d.tandem := rfl
@[simp] theorem Dev.setCar_station : (d.setCar c x).station = d.station := rfl
@[simp] theorem Dev.setCar_fc : (d.setCar c x).fc = d.fc := rfl
@[simp] theorem Dev.setCar_therm : (d.setCar c x).therm = d.therm := rfl
@[simp] theorem Dev.setCar_memory : (d.setCar c x).memory = d.memory := rfl
@[simp] theorem Dev.setCar_xspi : (d.setCar c x).xspi = d.xspi := rfl
@[simp] theorem Dev.setCar_dma : (d.setCar c x).dma = d.dma := rfl
@[simp] theorem Dev.setCar_pwr : (d.setCar c x).pwr = d.pwr := rfl
@[simp] theorem Dev.setCar_rst : (d.setCar c x).rst = d.rst := rfl
@[simp] theorem Dev.setCar_sec : (d.setCar c x).sec = d.sec := rfl

end

/-! ## `setPll` -/

section
variable (d : Dev) (l : Nat) (p : Pll)

@[simp] theorem Dev.setPll_now : (d.setPll l p).now = d.now := rfl
@[simp] theorem Dev.setPll_tick : (d.setPll l p).tick = d.tick := rfl
@[simp] theorem Dev.setPll_freeCount : (d.setPll l p).freeCount = d.freeCount := rfl
@[simp] theorem Dev.setPll_regs : (d.setPll l p).regs = d.regs := rfl
@[simp] theorem Dev.setPll_resp : (d.setPll l p).resp = d.resp := rfl
@[simp] theorem Dev.setPll_unlocks : (d.setPll l p).unlocks = d.unlocks := rfl
@[simp] theorem Dev.setPll_blockResets : (d.setPll l p).blockResets = d.blockResets := rfl
@[simp] theorem Dev.setPll_irOwner : (d.setPll l p).irOwner = d.irOwner := rfl
@[simp] theorem Dev.setPll_captures : (d.setPll l p).captures = d.captures := rfl
@[simp] theorem Dev.setPll_gpio : (d.setPll l p).gpio = d.gpio := rfl
@[simp] theorem Dev.setPll_rimHalt : (d.setPll l p).rimHalt = d.rimHalt := rfl
@[simp] theorem Dev.setPll_clk :
    (d.setPll l p).clk = if l = 0 then { d.clk with pllM := p } else { d.clk with pllS := p } := rfl
@[simp] theorem Dev.setPll_time : (d.setPll l p).time = d.time := rfl
@[simp] theorem Dev.setPll_rims : (d.setPll l p).rims = d.rims := rfl
@[simp] theorem Dev.setPll_spokes : (d.setPll l p).spokes = d.spokes := rfl
@[simp] theorem Dev.setPll_edge : (d.setPll l p).edge = d.edge := rfl
@[simp] theorem Dev.setPll_adc : (d.setPll l p).adc = d.adc := rfl
@[simp] theorem Dev.setPll_loop : (d.setPll l p).loop = d.loop := rfl
@[simp] theorem Dev.setPll_tandem : (d.setPll l p).tandem = d.tandem := rfl
@[simp] theorem Dev.setPll_station : (d.setPll l p).station = d.station := rfl
@[simp] theorem Dev.setPll_fc : (d.setPll l p).fc = d.fc := rfl
@[simp] theorem Dev.setPll_therm : (d.setPll l p).therm = d.therm := rfl
@[simp] theorem Dev.setPll_memory : (d.setPll l p).memory = d.memory := rfl
@[simp] theorem Dev.setPll_xspi : (d.setPll l p).xspi = d.xspi := rfl
@[simp] theorem Dev.setPll_dma : (d.setPll l p).dma = d.dma := rfl
@[simp] theorem Dev.setPll_pwr : (d.setPll l p).pwr = d.pwr := rfl
@[simp] theorem Dev.setPll_rst : (d.setPll l p).rst = d.rst := rfl
@[simp] theorem Dev.setPll_sec : (d.setPll l p).sec = d.sec := rfl

end

/-! ## `setSport` -/

section
variable (d : Dev) (x : Nat) (p : StationPort)

@[simp] theorem Dev.setSport_now : (d.setSport x p).now = d.now := rfl
@[simp] theorem Dev.setSport_tick : (d.setSport x p).tick = d.tick := rfl
@[simp] theorem Dev.setSport_freeCount : (d.setSport x p).freeCount = d.freeCount := rfl
@[simp] theorem Dev.setSport_regs : (d.setSport x p).regs = d.regs := rfl
@[simp] theorem Dev.setSport_resp : (d.setSport x p).resp = d.resp := rfl
@[simp] theorem Dev.setSport_unlocks : (d.setSport x p).unlocks = d.unlocks := rfl
@[simp] theorem Dev.setSport_blockResets : (d.setSport x p).blockResets = d.blockResets := rfl
@[simp] theorem Dev.setSport_irOwner : (d.setSport x p).irOwner = d.irOwner := rfl
@[simp] theorem Dev.setSport_captures : (d.setSport x p).captures = d.captures := rfl
@[simp] theorem Dev.setSport_gpio : (d.setSport x p).gpio = d.gpio := rfl
@[simp] theorem Dev.setSport_rimHalt : (d.setSport x p).rimHalt = d.rimHalt := rfl
@[simp] theorem Dev.setSport_clk : (d.setSport x p).clk = d.clk := rfl
@[simp] theorem Dev.setSport_time : (d.setSport x p).time = d.time := rfl
@[simp] theorem Dev.setSport_rims : (d.setSport x p).rims = d.rims := rfl
@[simp] theorem Dev.setSport_spokes : (d.setSport x p).spokes = d.spokes := rfl
@[simp] theorem Dev.setSport_edge : (d.setSport x p).edge = d.edge := rfl
@[simp] theorem Dev.setSport_adc : (d.setSport x p).adc = d.adc := rfl
@[simp] theorem Dev.setSport_loop : (d.setSport x p).loop = d.loop := rfl
@[simp] theorem Dev.setSport_tandem : (d.setSport x p).tandem = d.tandem := rfl
@[simp] theorem Dev.setSport_station : (d.setSport x p).station = { d.station with ports := mset d.station.ports x p } := rfl
@[simp] theorem Dev.setSport_fc : (d.setSport x p).fc = d.fc := rfl
@[simp] theorem Dev.setSport_therm : (d.setSport x p).therm = d.therm := rfl
@[simp] theorem Dev.setSport_memory : (d.setSport x p).memory = d.memory := rfl
@[simp] theorem Dev.setSport_xspi : (d.setSport x p).xspi = d.xspi := rfl
@[simp] theorem Dev.setSport_dma : (d.setSport x p).dma = d.dma := rfl
@[simp] theorem Dev.setSport_pwr : (d.setSport x p).pwr = d.pwr := rfl
@[simp] theorem Dev.setSport_rst : (d.setSport x p).rst = d.rst := rfl
@[simp] theorem Dev.setSport_sec : (d.setSport x p).sec = d.sec := rfl

end

/-! ## `setStation` -/

section
variable (d : Dev) (f : StationState → StationState)

@[simp] theorem Dev.setStation_now : (d.setStation f).now = d.now := rfl
@[simp] theorem Dev.setStation_tick : (d.setStation f).tick = d.tick := rfl
@[simp] theorem Dev.setStation_freeCount : (d.setStation f).freeCount = d.freeCount := rfl
@[simp] theorem Dev.setStation_regs : (d.setStation f).regs = d.regs := rfl
@[simp] theorem Dev.setStation_resp : (d.setStation f).resp = d.resp := rfl
@[simp] theorem Dev.setStation_unlocks : (d.setStation f).unlocks = d.unlocks := rfl
@[simp] theorem Dev.setStation_blockResets : (d.setStation f).blockResets = d.blockResets := rfl
@[simp] theorem Dev.setStation_irOwner : (d.setStation f).irOwner = d.irOwner := rfl
@[simp] theorem Dev.setStation_captures : (d.setStation f).captures = d.captures := rfl
@[simp] theorem Dev.setStation_gpio : (d.setStation f).gpio = d.gpio := rfl
@[simp] theorem Dev.setStation_rimHalt : (d.setStation f).rimHalt = d.rimHalt := rfl
@[simp] theorem Dev.setStation_clk : (d.setStation f).clk = d.clk := rfl
@[simp] theorem Dev.setStation_time : (d.setStation f).time = d.time := rfl
@[simp] theorem Dev.setStation_rims : (d.setStation f).rims = d.rims := rfl
@[simp] theorem Dev.setStation_spokes : (d.setStation f).spokes = d.spokes := rfl
@[simp] theorem Dev.setStation_edge : (d.setStation f).edge = d.edge := rfl
@[simp] theorem Dev.setStation_adc : (d.setStation f).adc = d.adc := rfl
@[simp] theorem Dev.setStation_loop : (d.setStation f).loop = d.loop := rfl
@[simp] theorem Dev.setStation_tandem : (d.setStation f).tandem = d.tandem := rfl
@[simp] theorem Dev.setStation_station : (d.setStation f).station = f d.station := rfl
@[simp] theorem Dev.setStation_fc : (d.setStation f).fc = d.fc := rfl
@[simp] theorem Dev.setStation_therm : (d.setStation f).therm = d.therm := rfl
@[simp] theorem Dev.setStation_memory : (d.setStation f).memory = d.memory := rfl
@[simp] theorem Dev.setStation_xspi : (d.setStation f).xspi = d.xspi := rfl
@[simp] theorem Dev.setStation_dma : (d.setStation f).dma = d.dma := rfl
@[simp] theorem Dev.setStation_pwr : (d.setStation f).pwr = d.pwr := rfl
@[simp] theorem Dev.setStation_rst : (d.setStation f).rst = d.rst := rfl
@[simp] theorem Dev.setStation_sec : (d.setStation f).sec = d.sec := rfl

end

/-! ## `setTandem` -/

section
variable (d : Dev) (f : TandemState → TandemState)

@[simp] theorem Dev.setTandem_now : (d.setTandem f).now = d.now := rfl
@[simp] theorem Dev.setTandem_tick : (d.setTandem f).tick = d.tick := rfl
@[simp] theorem Dev.setTandem_freeCount : (d.setTandem f).freeCount = d.freeCount := rfl
@[simp] theorem Dev.setTandem_regs : (d.setTandem f).regs = d.regs := rfl
@[simp] theorem Dev.setTandem_resp : (d.setTandem f).resp = d.resp := rfl
@[simp] theorem Dev.setTandem_unlocks : (d.setTandem f).unlocks = d.unlocks := rfl
@[simp] theorem Dev.setTandem_blockResets : (d.setTandem f).blockResets = d.blockResets := rfl
@[simp] theorem Dev.setTandem_irOwner : (d.setTandem f).irOwner = d.irOwner := rfl
@[simp] theorem Dev.setTandem_captures : (d.setTandem f).captures = d.captures := rfl
@[simp] theorem Dev.setTandem_gpio : (d.setTandem f).gpio = d.gpio := rfl
@[simp] theorem Dev.setTandem_rimHalt : (d.setTandem f).rimHalt = d.rimHalt := rfl
@[simp] theorem Dev.setTandem_clk : (d.setTandem f).clk = d.clk := rfl
@[simp] theorem Dev.setTandem_time : (d.setTandem f).time = d.time := rfl
@[simp] theorem Dev.setTandem_rims : (d.setTandem f).rims = d.rims := rfl
@[simp] theorem Dev.setTandem_spokes : (d.setTandem f).spokes = d.spokes := rfl
@[simp] theorem Dev.setTandem_edge : (d.setTandem f).edge = d.edge := rfl
@[simp] theorem Dev.setTandem_adc : (d.setTandem f).adc = d.adc := rfl
@[simp] theorem Dev.setTandem_loop : (d.setTandem f).loop = d.loop := rfl
@[simp] theorem Dev.setTandem_tandem : (d.setTandem f).tandem = f d.tandem := rfl
@[simp] theorem Dev.setTandem_station : (d.setTandem f).station = d.station := rfl
@[simp] theorem Dev.setTandem_fc : (d.setTandem f).fc = d.fc := rfl
@[simp] theorem Dev.setTandem_therm : (d.setTandem f).therm = d.therm := rfl
@[simp] theorem Dev.setTandem_memory : (d.setTandem f).memory = d.memory := rfl
@[simp] theorem Dev.setTandem_xspi : (d.setTandem f).xspi = d.xspi := rfl
@[simp] theorem Dev.setTandem_dma : (d.setTandem f).dma = d.dma := rfl
@[simp] theorem Dev.setTandem_pwr : (d.setTandem f).pwr = d.pwr := rfl
@[simp] theorem Dev.setTandem_rst : (d.setTandem f).rst = d.rst := rfl
@[simp] theorem Dev.setTandem_sec : (d.setTandem f).sec = d.sec := rfl

end

/-! ## `setRst` -/

section
variable (d : Dev) (f : RstState → RstState)

@[simp] theorem Dev.setRst_now : (d.setRst f).now = d.now := rfl
@[simp] theorem Dev.setRst_tick : (d.setRst f).tick = d.tick := rfl
@[simp] theorem Dev.setRst_freeCount : (d.setRst f).freeCount = d.freeCount := rfl
@[simp] theorem Dev.setRst_regs : (d.setRst f).regs = d.regs := rfl
@[simp] theorem Dev.setRst_resp : (d.setRst f).resp = d.resp := rfl
@[simp] theorem Dev.setRst_unlocks : (d.setRst f).unlocks = d.unlocks := rfl
@[simp] theorem Dev.setRst_blockResets : (d.setRst f).blockResets = d.blockResets := rfl
@[simp] theorem Dev.setRst_irOwner : (d.setRst f).irOwner = d.irOwner := rfl
@[simp] theorem Dev.setRst_captures : (d.setRst f).captures = d.captures := rfl
@[simp] theorem Dev.setRst_gpio : (d.setRst f).gpio = d.gpio := rfl
@[simp] theorem Dev.setRst_rimHalt : (d.setRst f).rimHalt = d.rimHalt := rfl
@[simp] theorem Dev.setRst_clk : (d.setRst f).clk = d.clk := rfl
@[simp] theorem Dev.setRst_time : (d.setRst f).time = d.time := rfl
@[simp] theorem Dev.setRst_rims : (d.setRst f).rims = d.rims := rfl
@[simp] theorem Dev.setRst_spokes : (d.setRst f).spokes = d.spokes := rfl
@[simp] theorem Dev.setRst_edge : (d.setRst f).edge = d.edge := rfl
@[simp] theorem Dev.setRst_adc : (d.setRst f).adc = d.adc := rfl
@[simp] theorem Dev.setRst_loop : (d.setRst f).loop = d.loop := rfl
@[simp] theorem Dev.setRst_tandem : (d.setRst f).tandem = d.tandem := rfl
@[simp] theorem Dev.setRst_station : (d.setRst f).station = d.station := rfl
@[simp] theorem Dev.setRst_fc : (d.setRst f).fc = d.fc := rfl
@[simp] theorem Dev.setRst_therm : (d.setRst f).therm = d.therm := rfl
@[simp] theorem Dev.setRst_memory : (d.setRst f).memory = d.memory := rfl
@[simp] theorem Dev.setRst_xspi : (d.setRst f).xspi = d.xspi := rfl
@[simp] theorem Dev.setRst_dma : (d.setRst f).dma = d.dma := rfl
@[simp] theorem Dev.setRst_pwr : (d.setRst f).pwr = d.pwr := rfl
@[simp] theorem Dev.setRst_rst : (d.setRst f).rst = f d.rst := rfl
@[simp] theorem Dev.setRst_sec : (d.setRst f).sec = d.sec := rfl

end

/-! ## `setSec` -/

section
variable (d : Dev) (f : SecState → SecState)

@[simp] theorem Dev.setSec_now : (d.setSec f).now = d.now := rfl
@[simp] theorem Dev.setSec_tick : (d.setSec f).tick = d.tick := rfl
@[simp] theorem Dev.setSec_freeCount : (d.setSec f).freeCount = d.freeCount := rfl
@[simp] theorem Dev.setSec_regs : (d.setSec f).regs = d.regs := rfl
@[simp] theorem Dev.setSec_resp : (d.setSec f).resp = d.resp := rfl
@[simp] theorem Dev.setSec_unlocks : (d.setSec f).unlocks = d.unlocks := rfl
@[simp] theorem Dev.setSec_blockResets : (d.setSec f).blockResets = d.blockResets := rfl
@[simp] theorem Dev.setSec_irOwner : (d.setSec f).irOwner = d.irOwner := rfl
@[simp] theorem Dev.setSec_captures : (d.setSec f).captures = d.captures := rfl
@[simp] theorem Dev.setSec_gpio : (d.setSec f).gpio = d.gpio := rfl
@[simp] theorem Dev.setSec_rimHalt : (d.setSec f).rimHalt = d.rimHalt := rfl
@[simp] theorem Dev.setSec_clk : (d.setSec f).clk = d.clk := rfl
@[simp] theorem Dev.setSec_time : (d.setSec f).time = d.time := rfl
@[simp] theorem Dev.setSec_rims : (d.setSec f).rims = d.rims := rfl
@[simp] theorem Dev.setSec_spokes : (d.setSec f).spokes = d.spokes := rfl
@[simp] theorem Dev.setSec_edge : (d.setSec f).edge = d.edge := rfl
@[simp] theorem Dev.setSec_adc : (d.setSec f).adc = d.adc := rfl
@[simp] theorem Dev.setSec_loop : (d.setSec f).loop = d.loop := rfl
@[simp] theorem Dev.setSec_tandem : (d.setSec f).tandem = d.tandem := rfl
@[simp] theorem Dev.setSec_station : (d.setSec f).station = d.station := rfl
@[simp] theorem Dev.setSec_fc : (d.setSec f).fc = d.fc := rfl
@[simp] theorem Dev.setSec_therm : (d.setSec f).therm = d.therm := rfl
@[simp] theorem Dev.setSec_memory : (d.setSec f).memory = d.memory := rfl
@[simp] theorem Dev.setSec_xspi : (d.setSec f).xspi = d.xspi := rfl
@[simp] theorem Dev.setSec_dma : (d.setSec f).dma = d.dma := rfl
@[simp] theorem Dev.setSec_pwr : (d.setSec f).pwr = d.pwr := rfl
@[simp] theorem Dev.setSec_rst : (d.setSec f).rst = d.rst := rfl
@[simp] theorem Dev.setSec_sec : (d.setSec f).sec = f d.sec := rfl

end

/-! ## Conditional and repeated updates -/

@[simp] theorem Dev.when_true (d : Dev) (f : Dev → Dev) : d.when true f = f d := rfl

@[simp] theorem Dev.when_false (d : Dev) (f : Dev → Dev) : d.when false f = d := rfl

@[simp] theorem Dev.each_nil {α : Type} (d : Dev) (f : α → Dev → Dev) : d.each [] f = d := rfl

@[simp] theorem Dev.each_cons {α : Type} (d : Dev) (a : α) (l : List α) (f : α → Dev → Dev) :
    d.each (a :: l) f = (f a d).each l f := rfl

/-- What an update keeps, its conditional form keeps. -/
theorem Dev.when_keeps {α : Type} (p : Dev → α) (d : Dev) (c : Bool) {f : Dev → Dev} (h : p (f d) = p d) :
    p (d.when c f) = p d := by
  cases c with
  | false => rfl
  | true => exact h

/-- What each of a list's updates keeps, all of them together keep. -/
theorem Dev.each_keeps {α β : Type} (p : Dev → β) {f : α → Dev → Dev} (h : ∀ a d, p (f a d) = p d) (l : List α)
    (d : Dev) : p (d.each l f) = p d := by
  induction l generalizing d with
  | nil => rfl
  | cons a t ih => exact (ih (f a d)).trans (h a d)

/-! ## Time -/

/-- The passage of time moves the clock and the timebase and nothing else. -/
theorem Dev.jumpTo_frame (d : Dev) (t : Nat) :
    d.jumpTo t = { d with now := (d.jumpTo t).now, time := (d.jumpTo t).time } := by
  unfold Dev.jumpTo
  split <;> rfl

/-- The clock never runs back. -/
theorem Dev.jumpTo_now (d : Dev) (t : Nat) : (d.jumpTo t).now = max d.now t := by
  unfold Dev.jumpTo
  split
  · exact (Nat.max_eq_left ‹_›).symm
  · exact (Nat.max_eq_right (Nat.le_of_lt (Nat.lt_of_not_le ‹_›))).symm

@[simp] theorem Dev.jumpTo_regs (d : Dev) (t : Nat) : (d.jumpTo t).regs = d.regs := by
  rw [d.jumpTo_frame t]

/-- The passage of time to a tick of the timebase moves the clock and the timebase and nothing else. -/
theorem Dev.jumpToTb_frame (d : Dev) (x : Nat) :
    d.jumpToTb x = { d with now := (d.jumpToTb x).now, time := (d.jumpToTb x).time } := by
  unfold Dev.jumpToTb
  split
  · rfl
  · exact d.jumpTo_frame _

@[simp] theorem Dev.jumpToTb_regs (d : Dev) (x : Nat) : (d.jumpToTb x).regs = d.regs := by
  rw [d.jumpToTb_frame x]

/-! ## Progress, events and page errors -/

/-- An update that changes registers, of those at most the ones of `l`, and beside them only the record of the instant. -/
structure OnlyRegs (l : List Reg) (d e : Dev) : Prop where
  rest : e = { d with regs := e.regs, tick := e.tick }
  regs : ∀ r, r ∉ l → e.regs.get r = d.regs.get r

theorem OnlyRegs.refl (l : List Reg) (d : Dev) : OnlyRegs l d d := ⟨rfl, fun _ _ => rfl⟩

theorem OnlyRegs.wr {l : List Reg} {d e : Dev} (h : OnlyRegs l d e) (f : FRef) (v : Nat) (hf : f.reg ∈ l) :
    OnlyRegs l d (e.wr f v) := by
  have ne : ∀ r, r ∉ l → f.reg ≠ r := fun r hr k => hr (k ▸ hf)
  refine ⟨?_, fun r hr => (e.get_wr_ne v (ne r hr)).trans (h.regs r hr)⟩
  have a := h.rest
  show _ = { d with regs := (e.wr f v).regs, tick := (e.wr f v).tick }
  generalize hr : (e.wr f v).regs = r
  generalize ht : (e.wr f v).tick = k
  have b : e.wr f v = { e with regs := r, tick := k } := by rw [← hr, ← ht]; rfl
  rw [b, a]

theorem OnlyRegs.setBit {l : List Reg} {d e : Dev} (h : OnlyRegs l d e) (f : FRef) (i : Nat) (hf : f.reg ∈ l) :
    OnlyRegs l d (e.setBit f i) := by
  have ne : ∀ r, r ∉ l → f.reg ≠ r := fun r hr k => hr (k ▸ hf)
  refine ⟨?_, fun r hr => (RegStore.get_set_ne _ _ (ne r hr)).trans (h.regs r hr)⟩
  have a := h.rest
  generalize hr : (e.setBit f i).regs = r
  generalize ht : (e.setBit f i).tick = k
  have b : e.setBit f i = { e with regs := r, tick := k } := by rw [← hr, ← ht]; rfl
  rw [b, a]

/-- The record of the instant alone changes. -/
theorem OnlyRegs.tick {l : List Reg} {d e : Dev} (h : OnlyRegs l d e) (k : Tick) : OnlyRegs l d { e with tick := k } := by
  refine ⟨?_, h.regs⟩
  have a := h.rest
  conv_lhs => rw [a]

theorem OnlyRegs.when {l : List Reg} {d e : Dev} (h : OnlyRegs l d e) (c : Bool) {f : Dev → Dev}
    (hf : OnlyRegs l d (f e)) : OnlyRegs l d (e.when c f) := by
  cases c with
  | false => exact h
  | true => exact hf

/-- A pulse of an interrupt source touches its pending bit alone. -/
theorem Dev.irPulse_only (d : Dev) (s : Nat) : OnlyRegs [.IR_SRC_ROUTE s] d (d.irPulse s) :=
  (OnlyRegs.refl _ d).when _ (((OnlyRegs.refl _ d).wr _ _ (by simp)).tick _)

/-- An event touches its bit and the pending bit of its source. -/
theorem Dev.eventPulse_only (d : Dev) (ev en : FRef) (s : Nat) :
    OnlyRegs [ev.reg, .IR_SRC_ROUTE s] d (d.eventPulse ev en s) := by
  have a : OnlyRegs [ev.reg, .IR_SRC_ROUTE s] d (d.wr ev 1) := (OnlyRegs.refl _ d).wr _ _ (by simp)
  exact a.when _ (a.when _ ((a.wr _ _ (by simp)).tick _))

/-- The start of an operation touches `PG_PROG` and `PG_STAT` of its page. -/
theorem Dev.progStart_only (d : Dev) (p : Page) (a b : Nat) :
    OnlyRegs [.PG_PROG p, .PG_STAT p] d (d.progStart p a b) :=
  ((((OnlyRegs.refl _ d).wr _ _ (by simp)).wr _ _ (by simp)).wr _ _
    (by simp)).wr _ _ (by simp)

/-- Progress touches `PG_PROG` of its page. -/
theorem Dev.progAt_only (d : Dev) (p : Page) (a b : Nat) : OnlyRegs [.PG_PROG p] d (d.progAt p a b) :=
  ((OnlyRegs.refl _ d).wr _ _ (by simp)).wr _ _ (by simp)

/-- The end of an operation touches `PG_PROG` and `PG_STAT` of its page. -/
theorem Dev.progEnd_only (d : Dev) (p : Page) : OnlyRegs [.PG_PROG p, .PG_STAT p] d (d.progEnd p) :=
  ((OnlyRegs.refl _ d).wr _ _ (by simp)).wr _ _ (by simp)

/-- A block-specific cause touches `PG_ERR` of its page. -/
theorem Dev.blkErr_only (d : Dev) (p : Page) (bit : Nat) : OnlyRegs [.PG_ERR p] d (d.blkErr p bit) :=
  (OnlyRegs.refl _ d).setBit _ _ (by simp)

/-! ## Steps -/

/-- A step with a command in front is that command's meaning on the rest of the queue. -/
theorem step_cons {s : State} {c : Instr} {rest : List Instr} (h : s.pending = c :: rest) :
    step s = exec c { s with pending := rest } := by
  simp [step, h]

end Sys2Proof.Machine
end

