-- ==== Sys2Proof/Tests/Slice0.lean ====
section
/-!
SUPPORT. Sys2Proof/Tests/Slice0.lean: tests of the model. First the smoke tests of well-formedness; then steps on small
states whose expected values are the worked examples of the spec; then, per obligation, states and operands that meet its
hypotheses, clause by clause.
-/

set_option Elab.async false
set_option maxRecDepth 4000
set_option linter.unusedVariables false

namespace Sys2Proof.Tests
open Sys2Proof.Machine

/-- A loop that has been started and whose outputs run. -/
def pll0 : Pll := { started := true, released := true }

/-- A device that runs: no reset holds it, its clocks run from candidate 0, every domain is up, and its service cores are
released. -/
def up : Dev :=
  { regs := [(.PWR_DOM_STAT, 0x3FF), (.RST_RELEASE, 7), (.PG_STAT (.SYS 1), 2), (.CLK_ROOTSTAT, 0x100)]
    clk := { pllM := pll0, pllS := pll0 }
    rst := { hold := 0, vinUp := true, bootDone := true, stagingSafe := true, stgReady := true, safeReady := true }
    memory := { sramOk := true } }

/-- A device that runs with a rim enabled. -/
def rimUp (n : Nat) : Dev := up.wr (F.PG_CTRL_ENABLE (.RIM n)) 1

/-- A state of a device with empty memories. -/
def st (d : Dev) : State := { dev := d }

/-- A state whose memories hold the listed bytes. -/
def stm (d : Dev) (w : List (Nat × List Nat)) : State :=
  { dev := d, mem := w.foldl (fun m x => memWrite m x.1 (x.2.map (BitVec.ofNat 8))) [] }


/-- The state that an outcome answers, or the state after reset where it stops. -/
def next (o : Out) : State :=
  match o with
  | .next t => t
  | _ => State.reset

/-! ## Well-formed commands -/

/-- A command of a bus master that does not exist. -/
theorem test_master_refused : (Instr.berrRelease 13).wf = false ∧ (Instr.timeSnapshot 48).wf = false ∧
    (Instr.timeSnapshot 47).wf = true := by decide

/-- A command on a page that does not exist: ADC has 26 pages, SYS has 3. -/
theorem test_page_refused : (Instr.pgKeyWrite 0 (.ADC 26) 0).wf = false ∧ (Instr.unlockTimeout (.SYS 3)).wf = false ∧
    (Instr.blockResetDrained (.RIM 32) true).wf = false ∧ (Instr.unlockTimeout (.ADC 25)).wf = true := by decide +kernel

/-- A bit error names an aligned 64-bit word. -/
theorem test_errors_refused : (Instr.cascadeAdmit 0 [⟨4, true⟩]).wf = false ∧ (Instr.rraItem [⟨9, false⟩]).wf = false ∧
    (Instr.registerWrite 0 0x20000000 4 0 [⟨1, false⟩]).wf = false ∧ (Instr.busRead 0 0x20000000 4 [⟨2, true⟩]).wf = false ∧
    (Instr.cascadeAdmit 0 [⟨8, true⟩]).wf = true := by decide

/-- A row that stands for a bit written as 1 refuses the write without it. -/
theorem test_bits_refused : ([.expertEnClear 0 .CLK 0, .softReset 0 .CLK 0, .doStep 0 0, .fmonStart 0 0, .rimEnable 0 3 0,
    .discover 0 3 0, .spokeAdmit 0 9 0, .spokeBypass 0 9 0, .spokeUnbypass 0 9 0, .spokeRescan 0 9 0, .fwStart 0 3 0,
    .fwActivate 0 3 0, .fwAbort 0 3 0, .carrierArm 0 3 0, .queueFlush 0 3 0, .adcSwtrig 0 3 0, .calStart 0 3 0,
    .loopSwstart 0 3 0, .traceArm 0 3 0, .traceStop 0 3 0, .traceForce 0 3 0, .claimLearn 0 0, .resign 0 0,
    .mirrorListLoad 0 0, .dmaStart 0 3 0, .dmaSwtrig 0 3 0, .dmaAbort 0 3 0, .rraSessionEnable 0 3 0,
    .goosePubEnable 0 3 0, .vminClear 0 0] : List Instr).all (fun c => !c.wf) = true := by decide +kernel

/-- A row that stands for a bit written as 0 refuses the write with it. -/
theorem test_zero_bits_refused : ([.rimDisable 0 3 1, .carrierDisable 0 3 1, .goosePubDisable 0 3 1] : List Instr).all
    (fun c => !c.wf) = true := by decide +kernel

/-- A row that stands for a code refuses another code. -/
theorem test_codes_refused : ([.xspiRead 0 0xFFFFFFFF [], .xspiProg 0 0, .xspiErase 0 1, .xspiRegRd 0 0 [], .xspiRegWr 0 3,
    .reqRun 0 0xFFFFFFFF, .reqShed 0 0, .reqStandby 0 0, .reqHibernate 0 0, .resetHost 0 0, .resetSafety 0 0, .resetService 0 0,
    .otpRbAdvance 0 0, .otpOwner 0 0, .otpPatch 0 0] : List Instr).all (fun c => !c.wf) = true := by decide +kernel

/-- Records of a wrong length. -/
theorem test_lengths_refused : (Instr.thermSample []).wf = false ∧ (Instr.telem 0 0 0 ⟨5, 3, 0, []⟩).wf = false := by
  decide

/-! ## Worked examples of the spec -/

/-- "Spoke 43 is at position 3 of rim 5": its basic part starts at 0x400A_5190, its expert part at 0x400A_55B0 (R25). -/
theorem test_spoke_address : targetAt 0x400A5194 = some (.reg (.SPOKE_CTRL 43)) ∧
    ((Reg.SPOKE_CTRL 43).addr = 0x400A5194) := by decide +kernel

/-- "Leg 174 is on page 7 + 3 = 10": DUTY at 0x400C_A0B8, CTRL at 0x400C_A3B8. -/
theorem test_leg_address : (Reg.EDGE_LEG_DUTY 174).addr = 0x400CA0B8 ∧ (Reg.EDGE_LEG_CTRL 174).addr = 0x400CA3B8 := by
  decide +kernel

/-- EDGE page 0 while its unlock sequence is open. -/
def keyed : State := next (exec (.pgKeyWrite 0 (.EDGE 0) 0x5EED) (st up))

/-- "Unlocking page 0 of EDGE. Its PG_ID reads 0x000A_0000" (R33): the second write opens expert level. -/
theorem test_unlock : (next (exec (.pgKeyWrite 0 (.EDGE 0) 0x000A0000) keyed)).dev.rd (F.PG_CTRL_EXPERT_EN (.EDGE 0)) = 1 ∧
    (next (exec (.pgKeyWrite 0 (.EDGE 0) 0x000A0001) keyed)).dev.rd (F.PG_CTRL_EXPERT_EN (.EDGE 0)) = 0 := by decide +kernel

/-- Sources 74, 109 and 120 pending for target 0, as in the example of R47. -/
def claims : Dev :=
  [(74, 5), (109, 7), (120, 7)].foldl (fun d x => (((d.wr (F.IR_SRC_ROUTE_TARGET x.1) 0).wr (F.IR_SRC_ROUTE_PRIO x.1) x.2).wr
    (F.IR_SRC_ROUTE_PEND x.1) 1)) (up.wr (F.IR_TGT_THRESH_THRESH 0) 3)

/-- "A read of IR.TGT0_CLAIM at 0x4012_0104 returns 109"; the line stays while 120 is left (R47). -/
theorem test_claim : (Reg.IR_TGT_CLAIM 0).addr = 0x40120104 ∧
    (next (exec (.interruptClaim 0 0) (st claims))).dev.resp.data = 109 ∧
    (next (exec (.interruptClaim 0 0) (st claims))).dev.targetLine 0 = true := by decide +kernel

/-- "Once all three are ACTIVE, a fourth read returns 0x100" (R47). -/
theorem test_claim_none : (next (exec (.interruptClaim 0 0) (st up))).dev.resp.data = 0x100 := by decide +kernel

/-- RATE 100 gives a slew part of 214,748 units a cycle (R88). -/
theorem test_slew_part : (up.wr F.TIME_ADJ_CFG_RATE 100).slewDelta = 214748 := by decide +kernel

/-- The table of R185 at VREF 2.500 V. -/
theorem test_adc_codes : dataOf false 0 false 1000000000 2500000000 = (false, 0x6666) ∧
    dataOf false 2 false 1000000000 2500000000 = (false, 0x0666) ∧
    dataOf false 2 true 1000000000 2500000000 = (false, 0x6660) ∧
    dataOf true 1 false (-800000000) 2500000000 = (false, 0xF5C2) ∧
    dataOf true 1 true (-800000000) 2500000000 = (false, 0xD708) ∧
    dataOf true 1 false (-2600000000) 2500000000 = (true, 0x8000) := by decide +kernel

/-- The period of leg 0 in the example of R163, under a policy and with a carry. -/
def leg0 (pol carry : Nat) : GenAcc :=
  let j : LegJob := ⟨0, 99700, 50000, 150, 150, 200, pol, 0⟩
  (changesOf j 100000 (some true)).foldl (genEdge j 1000000 (some (950000, 150)))
    { prev := some (950000, 150), cur := some true, upper := 0, lower := carry }

/-- DROP withdraws both edges; STRETCH moves the RISE to 50,050 (R163). -/
theorem test_short_pulse : (leg0 0 0).out = [] ∧ (leg0 1 0).out = [(1049700, false, 150), (1050050, true, 150)] := by
  decide +kernel

/-- CARRY: the first period is withdrawn with a carry of 300, the second is emitted with 250 left (R163). -/
theorem test_carry : (leg0 2 0).out = [] ∧ (leg0 2 0).lower = 300 ∧ (leg0 2 300).out.length = 2 ∧
    (leg0 2 300).lower = 250 ∧ (leg0 2 50).lower = 0 := by decide +kernel

/-- Leg 174 with profile 0 of the example of R169, before an entry, with the dead time and the filter value it holds. -/
def leg174 (adt f16 : Nat) : State :=
  let d := (((((rimUp 5).wr (F.EDGE_DTP_A_MARGIN 0) 20).wr (F.EDGE_DTP_A_STEP 0) 16).wr (F.EDGE_DTP_A_FILT 0) 2).wr
    (F.EDGE_DTP_A_MISS_LIM 0) 8).wr (F.EDGE_DTP_B_Y_MIN 0) 5
  let d := (((d.wr (F.EDGE_LEG_DTLIM_DT_MIN 174) 60).wr (F.EDGE_LEG_DTLIM_DT_MAX 174) 400).wr
    (F.EDGE_LEG_DT_ADAPT 174) 1).wr (F.EDGE_LEG_ADT_RISE 174) adt
  st (d.setLeg 174 { edges := [(77, 1, adt)], f16R := if f16 = 0 then none else some f16 })

/-- The RISE entry of local leg 2 in a TDELAY record of position 3. -/
def entry (delay : Nat) : List DelayEntry :=
  List.replicate 4 ⟨0, 0, true, false⟩ ++ [⟨77, BitVec.ofNat 12 delay, false, false⟩]

/-- Cuts 1 and 4 of the example of R169: ADT 184 with F16 1,792, and ADT 136 with F16 1,792. -/
theorem test_adapt : (next (exec (.tdelay 5 3 0 (entry 112)) (leg174 200 0))).dev.rd (F.EDGE_LEG_ADT_RISE 174) = 184 ∧
    ((next (exec (.tdelay 5 3 0 (entry 112)) (leg174 200 0))).dev.leg 174).f16R = some 1792 ∧
    (next (exec (.tdelay 5 3 0 (entry 111)) (leg174 152 1798))).dev.rd (F.EDGE_LEG_ADT_RISE 174) = 136 ∧
    ((next (exec (.tdelay 5 3 0 (entry 111)) (leg174 152 1798))).dev.leg 174).f16R = some 1792 := by decide +kernel

/-- "The entry would have been Forced, and the target 133 + 16 = 149 would have raised ADT to 149" (R169). -/
theorem test_adapt_forced : (next (exec (.tdelay 5 3 0 (entry 140)) (leg174 133 1796))).dev.rd
    (F.EDGE_LEG_ADT_RISE 174) = 149 := by decide +kernel

/-- The check values of R312 over the ASCII bytes "123456789". -/
theorem test_crc : crc32c ((List.range 9).map fun i => BitVec.ofNat 8 (49 + i)) = 0xE3069283 := by decide +kernel

/-- Registers that reset, before anything has happened, leaves at a value the spec gives. -/
theorem test_reset : State.reset.dev.rd F.PWR_DOM_ON = 0xFF ∧ State.reset.dev.word (.PG_ID (.EDGE 0)) = 0x000A0000 ∧
    State.reset.mem = [] ∧ State.reset.pending = [] := by decide +kernel

/-- An idle step is a tick of 1 ns; a step with a command in front leaves the rest of the queue. -/
theorem test_step : (next (step (st up))).dev.now = 1 ∧
    (next (step { st up with pending := [.unlockTimeout .CLK, .resetNRise] })).pending = [.resetNRise] := by decide +kernel

/-! ## Hypotheses that are met -/

/-- Acceptance of a write, from its parts together. -/
theorem acc {f : Effect} {m : Nat} {r : Reg} {v : Nat} {d : Dev}
    (h : d.lockedOut r = false ∧ d.canIssue m = true ∧ d.regCode m r true v = .okay ∧ d.uncontested r ∧
      (r.setsRatio = true → (d.busWriteWith f m r v).ratiosHold = true)) : Accepts f m r v d :=
  ⟨⟨h.2.1, h.2.2.1, h.2.2.2.1, h.2.2.2.2⟩, h.1⟩

/-- The OKAY response of a write, from its parts together. -/
theorem accd {f : Effect} {m : Nat} {r : Reg} {v : Nat} {d : Dev}
    (h : d.canIssue m = true ∧ d.regCode m r true v = .okay ∧ d.uncontested r ∧
      (r.setsRatio = true → (d.busWriteWith f m r v).ratiosHold = true)) : Accepted f m r v d :=
  ⟨h.1, h.2.1, h.2.2.1, h.2.2.2⟩

/-- A read that goes ahead, from its parts together. -/
theorem rds {m : Nat} {r : Reg} {d : Dev} (h : d.canIssue m = true ∧ d.regCode m r false 0 = .okay) : Reads m r d :=
  ⟨h.1, h.2⟩

/-- Shared SRAM that answers, from its parts together. -/
theorem sro {d : Dev} {a n : Nat} (h : (MemRange.at a = some .sram ∧ memShape a n = true) ∧
    d.memGated .sram = false ∧ d.touchesBad a n = false) : d.sramOpen a n :=
  ⟨h.1.1, h.1.2, h.2.1, h.2.2⟩

/-- A memory write that goes ahead, from its parts together. -/
theorem mmo {d : Dev} {m a n : Nat} {r : MemRange} (h : (d.canIssue m = true ∧ MemRange.at a = some r) ∧
    (memShape a n = true ∧ d.memCode m r true = .okay) ∧ (n < 8 → d.touchesBad a n = false)) : d.memOpen m a n r :=
  ⟨h.1.1, h.1.2, h.2.1.1, h.2.1.2, h.2.2⟩

namespace Hyps01

/-- States and operands that meet the hypotheses of `StepRunsTheFrontCommand`. -/
theorem StepRunsTheFrontCommand_hypotheses_met :
    ∃ (s : State) (c : Instr) (rest : List Instr),
      s.pending = c :: rest :=
  ⟨{ st up with pending := [.unlockTimeout .CLK] }, .unlockTimeout .CLK, [], by decide +kernel⟩

/-- States and operands that meet the hypotheses of `EmptyQueueLetsATickPass`. -/
theorem EmptyQueueLetsATickPass_hypotheses_met :
    ∃ s : State,
      s.pending = [] :=
  ⟨st up, by decide +kernel⟩

/-- States and operands that meet the hypotheses of `ResetHoldsTheTablesValues`. -/
theorem ResetHoldsTheTablesValues_hypotheses_met :
    ∃ (r : Reg) (f : Field),
      pageExists r.page = true ∧ f ∈ r.fields :=
  ⟨.PWR_DOM, ⟨9, 2, .RW, 0xFF, kSVBL⟩, by decide +kernel⟩

/-- States and operands that meet the hypotheses of `EveryStepKeepsTheMemoryForm`. -/
theorem EveryStepKeepsTheMemoryForm_hypotheses_met :
    ∃ s t : State,
      step s = .next t ∧ s.memWf :=
  ⟨{ stm up [(0x20000000, [9])] with pending := [.unlockTimeout .CLK] }, stm up [(0x20000000, [9])], rfl, by
      decide +kernel⟩

/-- States and operands that meet the hypotheses of `NoCommandTouchesTheQueue`. -/
theorem NoCommandTouchesTheQueue_hypotheses_met :
    ∃ (c : Instr) (s t : State),
      exec c s = .next t :=
  ⟨.unlockTimeout .CLK, { st up with pending := [.resetNRise] }, { st up with pending := [.resetNRise] }, rfl⟩

/-- States and operands that meet the hypotheses of `EveryRegisterStandsAtItsAddress`. -/
theorem EveryRegisterStandsAtItsAddress_hypotheses_met :
    ∃ (a : Nat) (r : Reg),
      a % 4 = 0 ∧ targetAt a = some (.reg r) :=
  ⟨(Reg.CLK_ROOT).addr, .CLK_ROOT, by decide +kernel⟩

end Hyps01

namespace Hyps02

/-- States and operands that meet the hypotheses of the clauses of `AccessCodesOfAPlainWrite`. -/
theorem AccessCodesOfAPlainWrite_hypotheses_met :
    (∃ (m : Nat) (r : Reg) (v : Word) (s : State) (f : Field),
      r.isPlain ∧ Accepts (plainEffect r) m r v.toNat s.dev ∧ validMaster m = true ∧ targetAt r.addr = some (.reg r)
      ∧ r.addr % 4 = 0 ∧ f ∈ r.fields) ∧
    (∃ (m : Nat) (r : Reg) (v : Word) (s : State) (i : Nat),
      r.isPlain ∧ s.dev.canIssue m = true ∧ targetAt r.addr = some (.reg r) ∧ r.addr % 4 = 0 ∧ r.setsRatio = false ∧
      s.dev.regCode m r true v.toNat = .okay ∧ bitAt (s.dev.setNow r) i = true ∧ bitAt r.w1cMask i = true ∧ bitAt
      (s.dev.word r) i = true) ∧
    (∃ (m : Nat) (r : Reg) (v : Word) (s : State) (f : Field) (e : Reg × Nat × Nat),
      r.isPlain ∧ s.dev.canIssue m = true ∧ targetAt r.addr = some (.reg r) ∧ r.addr % 4 = 0 ∧ r.setsRatio = false ∧
      s.dev.regCode m r true v.toNat = .okay ∧ f ∈ r.fields ∧ (f.acc = .RW ∨ f.acc = .RWE) ∧ isSafe m = true ∧ e ∈
      s.dev.thisTick.writes ∧ e.1 = r ∧ isSafe e.2.1 = false ∧ s.dev.takes e.2.1 r f = true) ∧
    (∃ (m : Nat) (r : Reg) (v : Word) (s : State),
      Accepted (regEffect s.mem r) m r v.toNat s.dev ∧ targetAt r.addr = some (.reg r) ∧ r.addr % 4 = 0 ∧
      s.dev.lockedOut r = true) :=
  ⟨⟨0, .IR_SRC_ROUTE 3, 0x205, st up, ⟨11, 8, .RW, 0, kNone⟩, ⟨fun _ => rfl, fun _ _ _ => rfl⟩, acc (by
      decide +kernel), by decide +kernel⟩,
   ⟨0, .CLK_EVT, 1, st { up.setWord .CLK_EVT 1 with tick := { sets := [(.CLK_EVT, 1)] } }, 0, ⟨fun _ => rfl, fun _ _
      _ => rfl⟩, by decide +kernel⟩,
   ⟨4, .IR_SRC_ROUTE 3, 0x205, st { up with tick := { writes := [(.IR_SRC_ROUTE 3, 0, 0x200)] } }, ⟨11, 8, .RW, 0,
      kNone⟩, (.IR_SRC_ROUTE 3, 0, 0x200), ⟨fun _ => rfl, fun _ _ _ => rfl⟩, by decide +kernel⟩,
   ⟨0, .TIME_ALARM_NS 1, 5, st (up.wr (F.PG_LOCK_LOCK_BASIC (.TIME 0)) 1), accd (by decide +kernel), by
      decide +kernel⟩⟩

/-- States and operands that meet the hypotheses of the clauses of `ErrorResponsesInOrder`. -/
theorem ErrorResponsesInOrder_hypotheses_met :
    (∃ (m : Nat) (r : Reg) (v : Word) (s : State),
      s.dev.canIssue m = true ∧ targetAt r.addr = some (.reg r) ∧ r.addr % 4 = 0 ∧ (r.setsRatio = true →
      s.dev.ratiosHold = true) ∧ s.dev.allowed m (.reg r) true = false) ∧
    (∃ (m : Nat) (r : Reg) (v : Word) (s : State),
      s.dev.canIssue m = true ∧ targetAt r.addr = some (.reg r) ∧ r.addr % 4 = 0 ∧ (r.setsRatio = true →
      s.dev.ratiosHold = true) ∧ s.dev.allowed m (.reg r) true = true ∧ s.dev.writeViolates m r v.toNat = false ∧
      s.dev.gated (.reg r) true = true) ∧
    (∃ (m a n v : Nat) (s : State),
      s.dev.canIssue m = true ∧ targetAt a = none) ∧
    (∃ (m : Nat) (r : Reg) (s : State),
      s.dev.canIssue m = true ∧ targetAt r.addr = some (.reg r) ∧ r.addr % 4 = 0 ∧ s.dev.regCode m r false 0 ≠ .okay) ∧
    (∃ (m a n : Nat) (s : State),
      s.dev.canIssue m = true ∧ targetAt a = none) :=
  ⟨⟨0, .FC_CLASS 3, 5, st up, by decide +kernel⟩,
   ⟨0, .PG_PROG (.DMA 1), 5, st { up with blockResets := [.DMA 1] }, by decide +kernel⟩,
   ⟨0, 0x30000000, 4, 5, st up, by decide +kernel⟩,
   ⟨0, .PG_PROG (.DMA 1), st { up with blockResets := [.DMA 1] }, by decide +kernel⟩,
   ⟨0, 0x30000000, 4, st up, by decide +kernel⟩⟩

end Hyps02

namespace Hyps03

/-- States and operands that meet the hypotheses of the clauses of `UnlockSequence`. -/
theorem UnlockSequence_hypotheses_met :
    (∃ (m : Nat) (p : Page) (v : Word) (s : State),
      Accepts (keyWrite p) m (.PG_KEY p) v.toNat s.dev ∧ s.dev.unlockOf p = none ∧ v.toNat = 0x5EED) ∧
    (∃ (m : Nat) (p : Page) (v : Word) (s : State) (u : Unlock),
      Accepts (keyWrite p) m (.PG_KEY p) v.toNat s.dev ∧ s.dev.unlockOf p = some u ∧ u.master = m ∧ v.toNat =
      s.dev.word (.PG_ID p) ∧ s.dev.on (F.PG_LOCK_LOCK_EXPERT p) = false ∧ s.dev.now ≤ s.dev.unlockEnd u) ∧
    (∃ (m : Nat) (p : Page) (v : Word) (s : State) (u : Unlock),
      Accepts (keyWrite p) m (.PG_KEY p) v.toNat s.dev ∧ s.dev.unlockOf p = some u ∧ s.dev.now ≤ s.dev.unlockEnd u ∧
      (u.master ≠ m ∨ v.toNat ≠ s.dev.word (.PG_ID p) ∨ s.dev.on (F.PG_LOCK_LOCK_EXPERT p) = true)) ∧
    (∃ (p : Page) (s : State) (u : Unlock),
      s.dev.unlockOf p = some u) ∧
    (∃ (m : Nat) (p : Page) (v : Word) (s : State) (u : Unlock),
      Accepts (keyWrite p) m (.PG_KEY p) v.toNat s.dev ∧ s.dev.unlockOf p = some u ∧ s.dev.unlockEnd u < s.dev.now) ∧
    (∃ (m : Nat) (p : Page) (v : Word) (s : State),
      Accepts (keyWrite p) m (.PG_KEY p) v.toNat s.dev ∧ s.dev.unlockOf p = none ∧ v.toNat ≠ 0x5EED) :=
  ⟨⟨4, .TIME 0, 0x5EED, st up, acc (by decide +kernel), by decide +kernel⟩,
   ⟨4, .TIME 0, (up.regs.get (.PG_ID (.TIME 0))), st { up with unlocks := [(.TIME 0, ⟨4, 0⟩)] }, ⟨4, 0⟩, acc (by
      decide +kernel), by decide +kernel⟩,
   ⟨4, .TIME 0, 0x5EED, st { up with unlocks := [(.TIME 0, ⟨4, 0⟩)] }, ⟨4, 0⟩, acc (by decide +kernel), by
      decide +kernel⟩,
   ⟨.TIME 0, st { up with unlocks := [(.TIME 0, ⟨4, 0⟩)] }, ⟨4, 0⟩, by decide +kernel⟩,
   ⟨4, .TIME 0, 0x5EED, st { up with unlocks := [(.TIME 0, ⟨4, 0⟩)], now := 5000 }, ⟨4, 0⟩, acc (by decide +kernel),
      by decide +kernel⟩,
   ⟨4, .TIME 0, 0x5EEC, st up, acc (by decide +kernel), by decide +kernel⟩⟩

/-- States and operands that meet the hypotheses of the clauses of `PageHeaderCommands`. -/
theorem PageHeaderCommands_hypotheses_met :
    (∃ (m : Nat) (p : Page) (v : Word) (s : State),
      Accepts (pgCtrlWrite p) m (.PG_CTRL p) v.toNat s.dev ∧ (Instr.expertEnClear m p v).wf = true) ∧
    (∃ (m : Nat) (p : Page) (v : Word) (s : State),
      Accepts (pgCtrlWrite p) m (.PG_CTRL p) v.toNat s.dev ∧ (Instr.softReset m p v).wf = true ∧ s.dev.on
      (F.PG_LOCK_LOCK_CTRL p) = false ∧ s.dev.rst.hold = 0 ∧ s.dev.blockResets.contains p = false) ∧
    (∃ (m : Nat) (p : Page) (v : Word) (s : State),
      Accepts (pgCtrlWrite p) m (.PG_CTRL p) v.toNat s.dev ∧ (Instr.softReset m p v).wf = true ∧ (s.dev.on
      (F.PG_LOCK_LOCK_CTRL p) = true ∨ s.dev.rst.hold ≠ 0)) ∧
    (∃ (p : Page) (forced : Bool) (s : State),
      s.dev.blockResets.contains p = true ∧ (forced = true ∨ s.dev.drained p = true) ∧ s.dev.againOne (.PG_CTRL p) 1
      = false) ∧
    (∃ (p : Page) (s : State),
      s.dev.blockResets.contains p = true ∧ s.dev.drained p = true ∧ s.dev.againOne (.PG_CTRL p) 1 = false ∧
      s.dev.time.stepCmd = 0 ∧ p.resetsAlone = true) ∧
    (∃ (m : Nat) (p : Page) (v : Word) (s : State),
      Accepts (errForceWrite p) m (.PG_ERRFORCE p) v.toNat s.dev) ∧
    (∃ (m : Nat) (p : Page) (v : Word) (s : State),
      Accepts (lockWrite p) m (.PG_LOCK p) v.toNat s.dev) :=
  ⟨⟨4, .RIM 3, 4, st { up.wr (F.PG_CTRL_EXPERT_EN (.RIM 3)) 1 with now := 9 }, acc (by decide +kernel), by
      decide +kernel⟩,
   ⟨4, .RIM 3, 2, st up, acc (by decide +kernel), by decide +kernel⟩,
   ⟨4, .RIM 3, 2, st (up.wr (F.PG_LOCK_LOCK_CTRL (.RIM 3)) 1), acc (by decide +kernel), by decide +kernel⟩,
   ⟨.DMA 2, false, st { up with blockResets := [.CLK, .DMA 2] }, by decide +kernel⟩,
   ⟨.CLK, st { up with blockResets := [.CLK, .DMA 2] }, by decide +kernel⟩,
   ⟨4, .CLK, 0xFFFF0007, st up, acc (by decide +kernel)⟩,
   ⟨4, .CLK, 7, st (up.wr (F.PG_CTRL_EXPERT_EN .CLK) 1), acc (by decide +kernel)⟩⟩

/-- States and operands that meet the hypotheses of the clauses of `BusErrorsAndReads`. -/
theorem BusErrorsAndReads_hypotheses_met :
    (∃ (m a : Nat) (w : Bool) (s : State) (x : Target),
      targetAt a = some x ∧ s.dev.canIssue m = true ∧ s.dev.allowed m x w = true ∧ s.dev.gated x w = false) ∧
    (∃ (h : Fin 32) (a : Nat) (w : Bool) (s : State) (x : Target),
      targetAt a = some x ∧ s.dev.canIssue (chanMaster h) = true ∧ s.dev.allowed (chanMaster h) x w = true ∧
      s.dev.gated x w = false ∧ (s.dev.chState h = 1 ∨ s.dev.chState h = 4)) ∧
    (∃ (q : RraReq) (rest : List RraReq) (a v kind : Nat) (todo : List (Nat × Nat × Nat)) (s : State) (x : Target),
      targetAt a = some x ∧ s.dev.canIssue 11 = true ∧ s.dev.allowed 11 x (kind == 1) = true ∧ s.dev.gated x (kind ==
      1) = false ∧ s.dev.station.rraQ = q :: rest ∧ q.todo = (a, v, kind) :: todo) ∧
    (∃ (m : Nat) (s : State),
      Accepts (captureWrite .SYS_BERR_INFO (some F.SYS_BERR_INFO_COUNT)) m .SYS_BERR_INFO (2 ^ 31) s.dev ∧ (∀ e ∈
      s.dev.captures, e.1 = .SYS_BERR_INFO → e.2.1 ≠ s.dev.now)) ∧
    (∃ (m : Nat) (l : List (Reg × Nat)) (s : State),
      s.dev.canIssue m = true ∧ s.dev.regCode m .SYS_BERR_INFO true (2 ^ 31) = .okay ∧ (s.dev.captures.find? fun e =>
      e.1 == .SYS_BERR_INFO && e.2.1 == s.dev.now) = some (.SYS_BERR_INFO, s.dev.now, l)) ∧
    (∃ (m a : Nat) (r : Reg) (s : State),
      Reads m r s.dev ∧ targetAt a = some (.reg r) ∧ a % 4 = 0 ∧ regRead m r s.dev = (s.dev.liveWord m r, s.dev)) :=
  ⟨⟨4, 0x20000000, true, st up, .mem .sram, by decide +kernel⟩,
   ⟨31, 0x20000000, true, st (up.wr (F.DMA_CH_STAT_STATE 31) 1), .mem .sram, by decide +kernel⟩,
   ⟨⟨0, false, [], 0, 0, 0, [(0x20000000, 5, 1)], [], false⟩, [], 0x20000000, 5, 1, [], st
      { up with station := { rraQ := [⟨0, false, [], 0, 0, 0, [(0x20000000, 5, 1)], [], false⟩] } }, .mem .sram, by
      decide +kernel⟩,
   ⟨4, st (up.setWord .SYS_BERR_INFO 0x80030B01), acc (by decide +kernel), by decide +kernel⟩,
   ⟨4, [], st { up with captures := [(.SYS_BERR_INFO, 0, [])] }, by decide +kernel⟩,
   ⟨4, (Reg.addr .SYS_BERR_ADDR), .SYS_BERR_ADDR, st up, rds (by decide +kernel), by decide +kernel⟩⟩

/-- States and operands that meet the hypotheses of the clauses of `InterruptRouter`. -/
theorem InterruptRouter_hypotheses_met :
    (∃ (m : Nat) (j : Fin 9) (s : State),
      Reads m (.IR_TGT_CLAIM j) s.dev ∧ s.dev.irBest j < 256) ∧
    (∃ (m : Nat) (j : Fin 9) (s : State),
      Reads m (.IR_TGT_CLAIM j) s.dev ∧ s.dev.irBest j = 0x100) ∧
    (∃ (m : Nat) (j : Fin 9) (v : Word) (s : State),
      Accepts (claimWrite j) m (.IR_TGT_CLAIM j) v.toNat s.dev ∧ (j.val = 8 → isSafe m = true) ∧ bitsOf v.toNat 0 9 <
      256 ∧ s.dev.on (F.IR_SRC_ROUTE_ACTIVE (bitsOf v.toNat 0 9)) = true ∧ mget (s.dev.rd (F.IR_SRC_ROUTE_TARGET
      (bitsOf v.toNat 0 9))) s.dev.irOwner (bitsOf v.toNat 0 9) = j) ∧
    (∃ (m : Nat) (j : Fin 9) (v : Word) (s : State),
      Accepts (claimWrite j) m (.IR_TGT_CLAIM j) v.toNat s.dev ∧ (j.val = 8 → isSafe m = true) ∧ (256 ≤ bitsOf
      v.toNat 0 9 ∨ s.dev.on (F.IR_SRC_ROUTE_ACTIVE (bitsOf v.toNat 0 9)) = false ∨ mget (s.dev.rd
      (F.IR_SRC_ROUTE_TARGET (bitsOf v.toNat 0 9))) s.dev.irOwner (bitsOf v.toNat 0 9) ≠ j)) ∧
    (∃ (m : Nat) (v : Word) (i : Nat) (s : State),
      Accepts swiWrite m .IR_SWI v.toNat s.dev ∧ i < 5 ∧ bitAt v.toNat i = true) ∧
    (∃ (m : Nat) (n : Fin 256) (v : Word) (s : State),
      Accepts (plainEffect (.IR_SRC_ROUTE n)) m (.IR_SRC_ROUTE n) v.toNat s.dev ∧ s.dev.on (F.PG_LOCK_LOCK_BASIC
      (Reg.IR_SRC_ROUTE n).page) = false) ∧
    (∃ (pin : Fin 32) (level pulse : Bool) (s : State),
      bitAt s.dev.gpio pin ≠ level) :=
  ⟨⟨0, 0, st (up.setWord (.IR_SRC_ROUTE 136) 0x10001), rds (by decide +kernel), by decide +kernel⟩,
   ⟨0, 0, st up, rds (by decide +kernel), by decide +kernel⟩,
   ⟨0, 0, 136, st { up.wr (F.IR_SRC_ROUTE_ACTIVE 136) 1 with irOwner := [] }, acc (by decide +kernel), by
      decide +kernel⟩,
   ⟨0, 0, 74, st up, acc (by decide +kernel), by decide +kernel⟩,
   ⟨0, 2, 1, st up, acc (by decide +kernel), by decide +kernel⟩,
   ⟨0, 3, 0x00000205, st up, acc (by decide +kernel), by decide +kernel⟩,
   ⟨31, true, true, st up, by decide +kernel⟩⟩

end Hyps03

namespace Hyps04

/-- States and operands that meet the hypotheses of the clauses of `RootCandidates`. -/
theorem RootCandidates_hypotheses_met :
    (∃ (i : Fin 5) (s : State),
      bitAt s.dev.clk.candLock i = false) ∧
    (∃ (i : Fin 5) (s : State),
      bitAt s.dev.clk.candLock i = true ∧ s.dev.bit F.CLK_ROOTSTAT_PRESENT i = false) ∧
    (∃ (m : Nat) (v : Word) (s : State),
      Accepts rootWrite m .CLK_ROOT v.toNat s.dev ∧ s.dev.on (F.PG_LOCK_LOCK_BASIC .CLK) = false ∧ bitsOf v.toNat 0 3
      ≤ 4 ∧ bitsOf v.toNat 0 3 ≠ s.dev.rd F.CLK_ROOTSTAT_CUR ∧ s.dev.bit F.CLK_ROOTSTAT_PRESENT (bitsOf v.toNat 0 3)
      = true) ∧
    (∃ (m : Nat) (v : Word) (s : State),
      Accepts rootWrite m .CLK_ROOT v.toNat s.dev ∧ s.dev.on (F.PG_LOCK_LOCK_BASIC .CLK) = false ∧ bitsOf v.toNat 0 3
      ≤ 4 ∧ bitsOf v.toNat 0 3 ≠ s.dev.rd F.CLK_ROOTSTAT_CUR ∧ s.dev.bit F.CLK_ROOTSTAT_PRESENT (bitsOf v.toNat 0 3)
      = false) ∧
    (∃ (m : Nat) (v : Word) (s : State),
      Accepts rootWrite m .CLK_ROOT v.toNat s.dev ∧ (bitsOf v.toNat 0 3 = s.dev.rd F.CLK_ROOTSTAT_CUR ∨ 4 < bitsOf
      v.toNat 0 3) ∧ s.dev.on (F.PG_LOCK_LOCK_BASIC .CLK) = false) ∧
    (∃ (m : Nat) (v : Word) (s : State),
      Accepts rootWrite m .CLK_ROOT v.toNat s.dev ∧ s.dev.on (F.PG_LOCK_LOCK_BASIC .CLK) = false ∧ s.dev.rd
      F.CLK_ROOTSTAT_CUR = 4 ∧ bitsOf v.toNat F.CLK_ROOT_REFDIV.lo F.CLK_ROOT_REFDIV.w ≠ s.dev.rd F.CLK_ROOT_REFDIV) :=
  ⟨⟨4, st up, by decide +kernel⟩,
   ⟨4, st { up.wr F.CLK_ROOTSTAT_HUNT 1 with clk := { candLock := 16 } }, by decide +kernel⟩,
   ⟨0, 2, st { up.wr F.CLK_ROOTSTAT_PRESENT 4 with clk := { up.clk with candLock := 4 } }, acc (by decide +kernel),
      by decide +kernel⟩,
   ⟨0, 4, st up, acc (by decide +kernel), by decide +kernel⟩,
   ⟨0, 0, st up, acc (by decide +kernel), by decide +kernel⟩,
   ⟨0, 0x014, st (up.setWord .CLK_ROOTSTAT 0x1004), acc (by decide +kernel), by decide +kernel⟩⟩

/-- States and operands that meet the hypotheses of the clauses of `LoopsStartAndRestart`. -/
theorem LoopsStartAndRestart_hypotheses_met :
    (∃ (l : Fin 2) (s : State),
      (s.dev.clk.pll l).started = true ∧ s.dev.on (fLock l) = false ∧ (s.dev.on (fFree l) = false ∨ (s.dev.clk.pll
      l).closed = true ∨ (l = 1 ∧ s.dev.on F.CLK_PLLS_CFG_RESTART = true ∧ s.dev.rootRuns = true))) ∧
    (∃ (l : Fin 2) (s : State),
      s.dev.on (fLock l) = true ∧ s.dev.on (fReady l) = false) ∧
    (∃ (l : Fin 2) (s : State),
      s.dev.on (fReady l) = true ∧ (s.dev.clk.pll l).released = false) ∧
    (∃ (l : Fin 2) (s : State),
      (s.dev.clk.pll l).started = true ∧ (s.dev.clk.pll l).released = false ∧ (s.dev.clk.pll l).late = false ∧
      s.dev.on (fReady l) = false) ∧
    (∃ (m : Nat) (s : State),
      Accepts pllmCfgWrite m .CLK_PLLM_CFG 1 s.dev ∧ s.dev.cellsBlocked = true ∧ s.dev.anyDomsel 0 = false) ∧
    (∃ (m : Nat) (s : State),
      Accepts pllmCfgWrite m .CLK_PLLM_CFG 1 s.dev ∧ (s.dev.cellsBlocked = false ∨ s.dev.anyDomsel 0 = true)) ∧
    (∃ (m : Nat) (s : State),
      Accepts pllsCfgWrite m .CLK_PLLS_CFG 1 s.dev ∧ isSafe m = true ∧ s.dev.on F.CLK_PLLM_STAT_READY = true ∧
      s.dev.on F.CLK_PLLM_STAT_FREEWHEEL = false ∧ s.dev.on (F.CLK_OUT_CFG_EN 3) = true ∧ s.dev.on (F.CLK_OUT_CFG_EN
      5) = true ∧ s.dev.rd (F.CLK_OUT_CFG_DIV 5) = 25 ∧ s.dev.anyDomsel 1 = false) ∧
    (∃ (m : Nat) (s : State),
      Accepts pllsCfgWrite m .CLK_PLLS_CFG 1 s.dev ∧ isSafe m = true ∧ (s.dev.on F.CLK_PLLM_STAT_READY = false ∨
      s.dev.on F.CLK_PLLM_STAT_FREEWHEEL = true ∨ s.dev.on (F.CLK_OUT_CFG_EN 3) = false ∨ s.dev.on (F.CLK_OUT_CFG_EN
      5) = false ∨ s.dev.rd (F.CLK_OUT_CFG_DIV 5) ≠ 25 ∨ s.dev.anyDomsel 1 = true)) :=
  ⟨⟨1, st { up with clk := { pllS := { started := true } } }, by decide +kernel⟩,
   ⟨0, st { up.wr F.CLK_PLLM_STAT_LOCK 1 with clk := { pllM := { started := true, policy := 2 } } }, by
      decide +kernel⟩,
   ⟨0, st { up.wr F.CLK_PLLM_STAT_READY 1 with clk := { pllM := { started := true } } }, by decide +kernel⟩,
   ⟨1, st { up with clk := { pllS := { started := true } } }, by decide +kernel⟩,
   ⟨0, st ((up.setWord .CLK_DOMSEL 0x555).wr F.CLK_ROOTSTAT_CELLS_BLOCKED 1), acc (by decide +kernel), by
      decide +kernel⟩,
   ⟨0, st (up.setWord .CLK_DOMSEL 0x554), acc (by decide +kernel), by decide +kernel⟩,
   ⟨4, st (((((up.setWord .CLK_DOMSEL 0).wr F.CLK_PLLM_STAT_READY 1).wr (F.CLK_OUT_CFG_EN 3) 1).wr (F.CLK_OUT_CFG_EN
      5) 1)), acc (by decide +kernel), by decide +kernel⟩,
   ⟨4, st up, acc (by decide +kernel), by decide +kernel⟩⟩

/-- States and operands that meet the hypotheses of the clauses of `FreewheelEntersAndLeaves`. -/
theorem FreewheelEntersAndLeaves_hypotheses_met :
    (∃ (s : State),
      s.dev.rd F.CLK_ROOTSTAT_CUR ≠ 7 ∧ s.dev.clk.pllM.started = true ∧ s.dev.on F.CLK_PLLM_STAT_FREEWHEEL = false) ∧
    (∃ (i : Fin 5) (count : Nat) (err : Int) (s : State),
      s.dev.on F.CLK_PLLS_CFG_RESTART = false ∧ s.dev.rd F.CLK_ROOTSTAT_CUR = i ∧ (count < 156235 ∨ 156265 < count) ∧
      s.dev.clk.pllM.started = true ∧ s.dev.on F.CLK_PLLM_STAT_FREEWHEEL = false) ∧
    (∃ (i : Fin 5) (count : Nat) (err : Int) (s : State),
      s.dev.on F.CLK_PLLS_CFG_RESTART = false ∧ 156235 ≤ count ∧ count ≤ 156265 ∧ s.dev.on F.CLK_PLLM_STAT_FREEWHEEL
      = true ∧ s.dev.clk.pllM.closed = false ∧ bitAt s.dev.clk.qualify i = true ∧ s.dev.bit F.CLK_ROOTSTAT_PRESENT i
      = true) ∧
    (∃ (l : Fin 2) (s : State),
      (s.dev.clk.pll l).started = true ∧ s.dev.on (fLock l) = true ∧ s.dev.on (fFree l) = false ∧ (s.dev.clk.pll
      l).gateOk = true) ∧
    (∃ (l : Fin 2) (s : State),
      s.dev.on (fFree l) = true ∧ (s.dev.clk.pll l).closed = true ∧ s.dev.on (fLock l) = false) ∧
    (∃ (s : State),
      s.dev.clk.pllM.started = true ∧ s.dev.on F.CLK_PLLM_STAT_LOCK = false ∧ s.dev.on F.CLK_PLLM_STAT_FREEWHEEL =
      true ∧ s.dev.clk.pllM.closed = true) ∧
    (∃ (s : State),
      s.dev.on F.CLK_PLLM_STAT_SLEWING = true) ∧
    (∃ (m : Nat) (v : Word) (s : State),
      Accepts phasePolicyWrite m .CLK_PHASE_POLICY v.toNat s.dev ∧ (Instr.doStep m v).wf = true ∧ s.dev.on
      F.CLK_PLLM_STAT_READY = true ∧ s.dev.cellsBlocked = true) ∧
    (∃ (m : Nat) (v : Word) (s : State),
      Accepts phasePolicyWrite m .CLK_PHASE_POLICY v.toNat s.dev ∧ (Instr.doStep m v).wf = true ∧ (s.dev.on
      F.CLK_PLLM_STAT_READY = false ∨ s.dev.cellsBlocked = false)) :=
  ⟨⟨st { up.wr F.CLK_ROOTSTAT_CUR 0 with clk := { pllM := { started := true } } }, by decide +kernel⟩,
   ⟨1, 156234, 0, st { up.wr F.CLK_ROOTSTAT_CUR 1 with clk := { pllM := { started := true } } }, by decide +kernel⟩,
   ⟨1, 156235, 25, st { (up.wr F.CLK_PLLM_STAT_FREEWHEEL 1).wr F.CLK_ROOTSTAT_PRESENT 2 with
      clk := { pllM := { started := true }, qualify := 2 } }, by decide +kernel⟩,
   ⟨0, st { up.wr F.CLK_PLLM_STAT_LOCK 1 with clk := { pllM := { started := true, gateOk := true } } }, by
      decide +kernel⟩,
   ⟨1, st { up.wr F.CLK_PLLS_STAT_FREEWHEEL 1 with clk := { pllS := { started := true, closed := true } } }, by
      decide +kernel⟩,
   ⟨st { up.wr F.CLK_PLLM_STAT_FREEWHEEL 1 with clk := { up.clk with pllM := { pll0 with closed := true } } }, by
      decide +kernel⟩,
   ⟨st (up.wr F.CLK_PLLM_STAT_SLEWING 1), by decide +kernel⟩,
   ⟨0, 0x100, st (((up.wr F.CLK_PLLM_STAT_READY 1).wr F.CLK_PLLM_STAT_OFFSET_HELD 1).wr F.CLK_PHASE_OFS_OFS 420), acc
      (by decide +kernel), by decide +kernel⟩,
   ⟨0, 0x100, st up, acc (by decide +kernel), by decide +kernel⟩⟩

/-- States and operands that meet the hypotheses of the clauses of `ClockSwitchesGatesAndMonitor`. -/
theorem ClockSwitchesGatesAndMonitor_hypotheses_met :
    (∃ (m : Nat) (n : Fin 8) (v : Word) (s : State),
      Accepts (outCfgWrite n) m (.CLK_OUT_CFG n) v.toNat s.dev ∧ s.dev.on (F.PG_LOCK_LOCK_BASIC .CLK) = false ∧
      s.dev.on (F.CLK_OUT_CFG_EN n) = false ∧ 4 ≤ bitsOf v.toNat 0 8) ∧
    (∃ (m : Nat) (n : Fin 8) (v : Word) (s : State),
      Accepts (outCfgWrite n) m (.CLK_OUT_CFG n) v.toNat s.dev ∧ s.dev.on (F.PG_LOCK_LOCK_BASIC .CLK) = false ∧
      bitsOf v.toNat 0 8 < 4) ∧
    (∃ (m : Nat) (n : Fin 8) (v : Word) (s : State),
      Accepts (outCfgWrite n) m (.CLK_OUT_CFG n) v.toNat s.dev ∧ s.dev.on (F.PG_LOCK_LOCK_BASIC .CLK) = false ∧
      s.dev.on (F.CLK_OUT_CFG_EN n) = true ∧ 4 ≤ bitsOf v.toNat 0 8 ∧ bitsOf v.toNat 0 16 = bitsOf (s.dev.word
      (.CLK_OUT_CFG n)) 0 16 ∧ bitAt v.toNat 16 = false ∧ s.dev.outInUse n = false) ∧
    (∃ (m : Nat) (n : Fin 8) (v : Word) (s : State),
      Accepts (outCfgWrite n) m (.CLK_OUT_CFG n) v.toNat s.dev ∧ s.dev.on (F.PG_LOCK_LOCK_BASIC .CLK) = false ∧
      s.dev.on (F.CLK_OUT_CFG_EN n) = true ∧ (bitsOf v.toNat 0 16 ≠ bitsOf (s.dev.word (.CLK_OUT_CFG n)) 0 16 ∨
      (bitAt v.toNat 16 = false ∧ s.dev.outInUse n = true))) ∧
    (∃ (m : Nat) (v : Word) (s : State) (f : Fin 6),
      let w := s.dev.merged m .CLK_DOMSEL v.toNat
      Accepts domselWrite m .CLK_DOMSEL v.toNat s.dev ∧ (domselOf w 2 = 3 ∨ (domselOf w f ≠ domselOf (s.dev.word
      .CLK_DOMSEL) f ∧ (s.dev.srcReady f (domselOf w f) = false ∨ s.dev.bit F.CLK_DOMSEL_BUSY f = true)))) ∧
    (∃ (m : Nat) (v : Word) (s : State),
      let w := s.dev.merged m .CLK_DOMSEL v.toNat
      Accepts domselWrite m .CLK_DOMSEL v.toNat s.dev ∧ (∀ f < 6, domselOf w f ≠ domselOf (s.dev.word .CLK_DOMSEL) f
      → s.dev.srcReady f (domselOf w f) = true ∧ s.dev.bit F.CLK_DOMSEL_BUSY f = false) ∧ domselOf w 2 ≠ 3) ∧
    (∃ (f : Fin 6) (s : State),
      s.dev.bit F.CLK_DOMSEL_BUSY f = true) ∧
    (∃ (m : Nat) (v : Word) (b : Nat) (s : State),
      let w := s.dev.merged m .CLK_GATE v.toNat
      Accepts gateWrite m .CLK_GATE v.toNat s.dev ∧ b < 21) ∧
    (∃ (b : Fin 21) (s : State),
      bitAt s.dev.clk.draining b = true) ∧
    (∃ (b : Fin 21) (s : State),
      bitAt s.dev.clk.draining b = true) ∧
    (∃ (m : Nat) (v : Word) (s : State),
      Accepts fmonCfgWrite m .CLK_FMON_CFG v.toNat s.dev ∧ (Instr.fmonStart m v).wf = true ∧ s.dev.clk.fmonRun =
      false ∧ bitsOf (s.dev.merged m .CLK_FMON_CFG v.toNat) F.CLK_FMON_CFG_N.lo F.CLK_FMON_CFG_N.w ≠ 0) ∧
    (∃ (m : Nat) (v : Word) (s : State),
      Accepts fmonCfgWrite m .CLK_FMON_CFG v.toNat s.dev ∧ (Instr.fmonStart m v).wf = true ∧ (s.dev.clk.fmonRun =
      true ∨ bitsOf (s.dev.merged m .CLK_FMON_CFG v.toNat) F.CLK_FMON_CFG_N.lo F.CLK_FMON_CFG_N.w = 0)) ∧
    (∃ (count : Nat) (s : State),
      let n := s.dev.fmonCount count
      s.dev.clk.fmonRun = true ∧ s.dev.fmonStopped (s.dev.rd F.CLK_FMON_CFG_GATE) = false) ∧
    (∃ (s : State),
      s.dev.clk.fmonRun = true ∧ s.dev.fmonPs (s.dev.rd F.CLK_FMON_CFG_GATE) = none) :=
  ⟨⟨0, 7, 0x10204, st (up.wr (F.CLK_OUT_CFG_EN 7) 0), acc (by decide +kernel), by decide +kernel⟩,
   ⟨0, 7, 3, st up, acc (by decide +kernel), by decide +kernel⟩,
   ⟨0, 3, 20, st up, acc (by decide +kernel), by decide +kernel⟩,
   ⟨0, 2, 0x10032, st up, acc (by decide +kernel), by decide +kernel⟩,
   ⟨0, 0x30, st up, 2, acc (by decide +kernel), by decide +kernel⟩,
   ⟨0, 0x400, st (((up.setWord .CLK_DOMSEL 0).wr F.CLK_PLLM_STAT_READY 1).wr F.CLK_PLLS_STAT_READY 1), acc (by
      decide +kernel), by decide +kernel⟩,
   ⟨0, st (up.wr F.CLK_DOMSEL_BUSY 1), by decide +kernel⟩,
   ⟨0, 0x100000, 20, st up, acc (by decide +kernel), by decide +kernel⟩,
   ⟨20, st { up with clk := { draining := 0x100000 } }, by decide +kernel⟩,
   ⟨20, st { up with clk := { draining := 0x100000 } }, by decide +kernel⟩,
   ⟨0, 0x80000110, st up, acc (by decide +kernel), by decide +kernel⟩,
   ⟨0, 0x80000110, st { up with clk := { up.clk with fmonRun := true } }, acc (by decide +kernel), by decide +kernel⟩,
   ⟨5, st { ((up.wr F.CLK_FMON_CFG_ALARM_EN 1).wr F.CLK_FMON_LO_LIMIT 6) with clk := { fmonRun := true } }, by
      decide +kernel, by decide +kernel⟩,
   ⟨st { up with clk := { fmonRun := true } }, by decide +kernel⟩⟩

end Hyps04

namespace Hyps05

/-- States and operands that meet the hypotheses of the clauses of `TimebaseReadAndSteered`. -/
theorem TimebaseReadAndSteered_hypotheses_met :
    (∃ (m : Nat) (s : State),
      Reads m .TIME_NOW_NS s.dev) ∧
    (∃ (m : Nat) (v : Word) (s : State),
      Accepts addendWrite m .TIME_ADDEND v.toNat s.dev ∧ s.dev.offBoundary ∧ 0x7FEF9DB2 ≤ v.toNat ∧ v.toNat ≤
      0x8010624E) ∧
    (∃ (m : Nat) (v : Word) (s : State),
      Accepts addendWrite m .TIME_ADDEND v.toNat s.dev ∧ s.dev.time.running = true ∧ s.dev.time.anchorPs ≤ 1000 *
      s.dev.now ∧ s.dev.time.pend = false ∧ s.dev.time.nextB ≤ s.dev.tns ∧ 0x7FEF9DB2 ≤ v.toNat ∧ v.toNat ≤
      0x8010624E) ∧
    (∃ (m : Nat) (v : Word) (s : State),
      Accepts addendWrite m .TIME_ADDEND v.toNat s.dev ∧ s.dev.offBoundary ∧ (v.toNat < 0x7FEF9DB2 ∨ 0x8010624E <
      v.toNat)) ∧
    (∃ (m : Nat) (v : Word) (s : State),
      Accepts adjWrite m .TIME_ADJ_NS v.toNat s.dev ∧ s.dev.offBoundary ∧ v ≠ 0) ∧
    (∃ (m : Nat) (v : Word) (s : State),
      Accepts adjWrite m .TIME_ADJ_NS v.toNat s.dev ∧ s.dev.offBoundary ∧ v = 0 ∧ s.dev.time.slewing = true ∧
      s.dev.time.ending = 0) :=
  ⟨⟨0, st { up with time := { count := 12345678901234567890 } }, rds (by decide +kernel)⟩,
   ⟨0, 0x7FEF9DB2, st up, acc (by decide +kernel), by decide +kernel⟩,
   ⟨0, 0x7FEF9DB2, st { up with time := { running := true, anchorPs := 0, pend := false, nextB := 0 } }, acc (by
      decide +kernel), by decide +kernel⟩,
   ⟨0, 0x7FEF9DB1, st up, acc (by decide +kernel), by decide +kernel⟩,
   ⟨0, 0xFFFFFFFF, st { up with time := { slewing := true, ending := 1 } }, acc (by decide +kernel), by
      decide +kernel⟩,
   ⟨0, 0, st { up with time := { slewing := true, remain := 5 } }, acc (by decide +kernel), by decide +kernel⟩⟩

/-- States and operands that meet the hypotheses of the clauses of `TimebaseSteps`. -/
theorem TimebaseSteps_hypotheses_met :
    (∃ (m : Nat) (s : State),
      Accepts stepWrite m .TIME_STEP 1 s.dev ∧ s.dev.time.stepCmd = 0 ∧ s.dev.cellsBlocked = true ∧ s.dev.rd
      F.TIME_SET_NS_VAL < 1000000000) ∧
    (∃ (m : Nat) (s : State),
      Accepts stepWrite m .TIME_STEP 2 s.dev ∧ s.dev.time.stepCmd = 0 ∧ s.dev.cellsBlocked = true ∧ s.dev.rd
      F.TIME_SET_NS_VAL < 1000000000) ∧
    (∃ (m : Nat) (s : State),
      Accepts stepWrite m .TIME_STEP 1 s.dev ∧ (s.dev.time.stepCmd ≠ 0 ∨ s.dev.cellsBlocked = false ∨ 1000000000 ≤
      s.dev.rd F.TIME_SET_NS_VAL)) ∧
    (∃ (m : Nat) (s : State),
      Accepts stepWrite m .TIME_STEP 2 s.dev ∧ (s.dev.time.stepCmd ≠ 0 ∨ s.dev.cellsBlocked = false ∨ 1000000000 ≤
      s.dev.rd F.TIME_SET_NS_VAL)) ∧
    (∃ (s : State),
      s.dev.time.stepCmd ≠ 0) :=
  ⟨⟨0, st (((up.setWord .TIME_SET_NS 999999999).setWord .TIME_SET_SEC_LO 7).setWord .TIME_SET_SEC_HI 1), acc (by
      decide +kernel), by decide +kernel⟩,
   ⟨0, st ((up.setWord .TIME_SET_SEC_LO 0xFFFFFFFF).setWord .TIME_SET_SEC_HI 0xFFFFFFFF), acc (by decide +kernel), by
      decide +kernel⟩,
   ⟨0, st ((rimUp 0).wr (F.EDGE_LEG_CTRL_EN 0) 1), acc (by decide +kernel), by decide +kernel⟩,
   ⟨0, st ((rimUp 0).wr (F.EDGE_LEG_CTRL_EN 0) 1), acc (by decide +kernel), by decide +kernel⟩,
   ⟨st { up with time := { stepCmd := 2, stepNs := -5, slewing := true, count := 99999999999999 } }, by
      decide +kernel⟩⟩

/-- States and operands that meet the hypotheses of the clauses of `DistributionBoundaries`. -/
theorem DistributionBoundaries_hypotheses_met :
    (∃ (s : State),
      s.dev.time.running = true ∧ s.dev.time.pend = false) ∧
    (∃ (s : State),
      s.dev.time.running = true ∧ s.dev.time.pend = true) ∧
    (∃ (s : State),
      s.dev.time.running = true ∧ s.dev.time.pend = true) :=
  ⟨⟨st { up with
      time := { running := true, annBase := 0x80000001, annSlew := 3, reload := true, slewing := true, remain := 55555 } },
      by decide +kernel⟩,
   ⟨st { up with time := { running := true, pend := true } }, by decide +kernel⟩,
   ⟨st { up.wr F.TIME_DIST_PERIOD 5 with time := { running := true, pend := true } }, by decide +kernel⟩⟩

/-- States and operands that meet the hypotheses of the clauses of `AlarmsWatchdogAndTimestamps`. -/
theorem AlarmsWatchdogAndTimestamps_hypotheses_met :
    (∃ (n : Fin 4) (s : State),
      let rep := repNs (s.dev.code (F.TIME_ALARM_CTRL_REP n) (List.range 5))
      s.dev.on (F.TIME_ALARM_CTRL_EN n) = true ∧ s.dev.time.running = true) ∧
    (∃ (n : Fin 4) (s : State),
      mhas s.dev.time.pulses n = true) ∧
    (∃ (m : Nat) (v : Word) (s : State),
      Accepts wdCfgWrite m .TIME_WD_CFG v.toNat s.dev ∧ s.dev.basicLocked (.TIME 0) = false ∧ bitAt v.toNat 16 ≠
      s.dev.on F.TIME_WD_CFG_EN) ∧
    (∃ (m : Nat) (v : Word) (s : State),
      Accepts wdKickWrite m .TIME_WD_KICK v.toNat s.dev ∧ s.dev.on F.TIME_WD_CFG_EN = true) ∧
    (∃ (s : State),
      s.dev.time.wdRun = true) ∧
    (∃ (n : Fin 32) (s : State),
      s.dev.rimOn n = true ∧ DownRec.time ∈ (s.dev.rim n).qTime) ∧
    (∃ (m : Nat) (x : Fin 2) (e : TsqEntry) (q : List TsqEntry) (s : State),
      Reads m (.TIME_PORT_TSQ_W0 x) s.dev ∧ s.dev.time.tsq x = e :: q) :=
  ⟨⟨3, st
      { (((up.wr (F.TIME_ALARM_CTRL_EN 3) 1).wr (F.TIME_ALARM_CTRL_GPIO_EN 3) 1).wr (F.TIME_ALARM_CTRL_WIDTH 3) 2) with
      time := { running := true } }, by decide +kernel, by decide +kernel⟩,
   ⟨3, st { up with time := { pulses := [(3, 7, 900)] } }, by decide +kernel⟩,
   ⟨0, 0x10003, st up, acc (by decide +kernel), by decide +kernel⟩,
   ⟨0, 0, st (up.wr F.TIME_WD_CFG_EN 1), acc (by decide +kernel), by decide +kernel⟩,
   ⟨st { up.wr F.TIME_WD_CFG_TIMEOUT 3 with time := { wdRun := true } }, by decide +kernel⟩,
   ⟨31, st { up.wr (F.PG_CTRL_ENABLE (.RIM 31)) 1 with rims := [(31, { qTime := [.time] })] }, by decide +kernel⟩,
   ⟨0, 1, { time := 77, seqId := 3 }, [], st { up with time := { tsqB := [{ time := 77, seqId := 3 }] } }, rds (by
      decide +kernel), by decide +kernel⟩⟩

end Hyps05

namespace Hyps06

/-- A part of the states below: hello0. -/
def hello0 : HelloRec := ⟨77, 5, 0xF0, 0, false, 0, 3, 9, 12⟩

/-- A part of the states below: telem0. -/
def telem0 : TelemRec := ⟨5, 3, 0, []⟩

/-- A frame of a rim with the given flags, and no record. -/
def frame0 (flags : BitVec 8) : List RimBlock :=
  let l : List (BitVec 8) := [1, flags, 0, 0, 0, 0, 0, 0] ++ [0, 24, 0, 0, 0x83, 0, 0xFF, 0] ++ beBytes 4 0
  frameWire (l ++ beBytes 4 (crc32c l))

/-- Position 7 of rim 2, which is spoke 23. -/
def node (x : SpokeState) (d : Dev) : State := st { d with spokes := [(23, x)] }

/-- States and operands that meet the hypotheses of the clauses of `RimPorts`. -/
theorem RimPorts_hypotheses_met :
    (∃ (m : Nat) (n : Fin 32) (v : Word) (s : State),
      Accepts (pgCtrlWrite (.RIM n)) m (.PG_CTRL (.RIM n)) v.toNat s.dev ∧ (Instr.rimEnable m n v).wf = true ∧
      s.dev.on (F.PG_LOCK_LOCK_CTRL (.RIM n)) = false ∧ s.dev.rimOn n = false) ∧
    (∃ (m : Nat) (n : Fin 32) (v : Word) (s : State),
      Accepts (pgCtrlWrite (.RIM n)) m (.PG_CTRL (.RIM n)) v.toNat s.dev ∧ (Instr.rimDisable m n v).wf = true ∧
      s.dev.on (F.PG_LOCK_LOCK_CTRL (.RIM n)) = false ∧ s.dev.rimOn n = true) ∧
    (∃ (n : Fin 32) (lock : Bool) (s : State),
      s.dev.rimOn n = true ∧ s.dev.on (F.RIM_STAT_RXLOCK n) ≠ lock) ∧
    (∃ (n : Fin 32) (s : State),
      s.dev.rimOn n = true ∧ s.dev.on (F.RIM_STAT_RXLOCK n) = false) ∧
    (∃ (n : Fin 32) (s : State),
      s.dev.time.running = true ∧ s.dev.rimSends n = true) ∧
    (∃ (k : Fin 256) (s : State),
      s.dev.configured k = true ∧ s.dev.on (F.RIM_CTRL_TRACK_EN (rimOf k)) = true ∧ s.dev.rimRuns (rimOf k) = true ∧
      (s.dev.spoke k).calDone = true) ∧
    (∃ (n : Fin 32) (s : State),
      s.dev.rimSends n = true ∧ s.dev.blockInForce n = true ∧ ((s.dev.rim n).pairDue = true ∨ (s.dev.rim n).blocked =
      false)) ∧
    (∃ (n : Fin 32) (q : List DownRec) (s : State),
      s.dev.rimSends n = true ∧ (s.dev.blockInForce n = false ∨ ((s.dev.rim n).blocked = true ∧ (s.dev.rim n).pairDue
      = false)) ∧ (s.dev.rim n).qTime = .time :: q) ∧
    (∃ (n : Fin 32) (s : State),
      s.dev.rimSends n = true ∧ (s.dev.blockInForce n = false ∨ ((s.dev.rim n).blocked = true ∧ (s.dev.rim n).pairDue
      = false)) ∧ (s.dev.rim n).qTime = [] ∧ (s.dev.rim n).qEdge ≠ []) ∧
    (∃ (n : Fin 32) (s : State),
      s.dev.rimSends n = true ∧ (s.dev.blockInForce n = false ∨ ((s.dev.rim n).blocked = true ∧ (s.dev.rim n).pairDue
      = false)) ∧ (s.dev.rim n).qTime = [] ∧ (s.dev.rim n).qEdge = [] ∧ (s.dev.rim n).qCfg = [] ∧ (s.dev.rim n).qFw =
      [] ∧ (s.dev.rim n).frameDue = true) :=
  ⟨⟨0, 3, 1, st up, acc (by decide +kernel), by decide +kernel⟩,
   ⟨0, 3, 0, st ((rimUp 3).wr (F.SPOKE_STATE_STATE 25) 5), acc (by decide +kernel), by decide +kernel⟩,
   ⟨31, true, st (rimUp 31), by decide +kernel⟩,
   ⟨31, st { rimUp 31 with rims := [(31, { everLock := true, lockAt := 5 })] }, by decide +kernel⟩,
   ⟨31, st { (rimUp 31).wr (F.SPOKE_STATE_STATE 250) 3 with time := { running := true } }, by decide +kernel⟩,
   ⟨255, st { ((rimUp 31).wr (F.SPOKE_STATE_STATE 255) 5).wr (F.RIM_CTRL_TRACK_EN 31) 1 with
      spokes := [(255, { calDone := true })] }, by decide +kernel⟩,
   ⟨2, st ((rimUp 2).wr F.SAFE_BLOCK_RIMS 4), by decide +kernel⟩,
   ⟨2, [], st { rimUp 2 with rims := [(2, { qTime := [.time], fseq := 65535 })] }, by decide +kernel⟩,
   ⟨2, st { rimUp 2 with rims := [(2, { qEdge := [.time] })] }, by decide +kernel⟩,
   ⟨2, st { rimUp 2 with rims := [(2, { frameDue := true })] }, by decide +kernel⟩⟩

/-- States and operands that meet the hypotheses of the clauses of `DiscoveryRuns`. -/
theorem DiscoveryRuns_hypotheses_met :
    (∃ (m : Nat) (n : Fin 32) (v : Word) (s : State),
      Accepts (rimCtrlWrite n) m (.RIM_CTRL n) v.toNat s.dev ∧ (Instr.discover m n v).wf = true ∧ s.dev.rimRuns n =
      true ∧ (s.dev.rim n).run = none) ∧
    (∃ (n : Fin 32) (r : DiscRun) (s : State),
      (s.dev.rim n).run = some r ∧ r.window = true ∧ s.dev.rimRuns n = true) ∧
    (∃ (n : Fin 32) (r : DiscRun) (s : State),
      (s.dev.rim n).run = some r ∧ r.sent = false ∧ r.again = false ∧ s.dev.againOne (.RIM_CTRL n) 8 = false ∧
      s.dev.rimRuns n = true) ∧
    (∃ (n : Fin 32) (r : DiscRun) (s : State),
      (s.dev.rim n).run = some r ∧ r.sent = true ∧ r.window = false ∧ r.again = false ∧ s.dev.againOne (.RIM_CTRL n)
      8 = false ∧ s.dev.rimRuns n = true ∧ (∀ p < s.dev.nodes n, ¬ (1 ≤ s.dev.spokeSt (8 * n + p) ∧ s.dev.spokeSt (8
      * n + p) < s.dev.runTarget n))) ∧
    (∃ (n : Fin 32) (s : State),
      s.dev.on (F.RIM_CTRL_AUTO_RESCAN n) = true ∧ s.dev.rimRuns n = true ∧ (s.dev.rim n).run = none ∧ (∃ p <
      s.dev.nodes n, s.dev.spokeSt (8 * n + p) = 0)) :=
  ⟨⟨0, 31, 0x108, st (rimUp 31), acc (by decide +kernel), by decide +kernel⟩,
   ⟨2, { start := 0, sent := true, sentAt := 7, window := true }, st { (rimUp 2).wr (F.SPOKE_STATE_STATE 23) 1 with
      rims := [(2, { run := some { start := 0, sent := true, sentAt := 7, window := true } })] }, by decide +kernel⟩,
   ⟨2, { start := 3 }, st { rimUp 2 with rims := [(2, { run := some { start := 3 } })] }, by decide +kernel⟩,
   ⟨2, { start := 3, sent := true }, st { rimUp 2 with rims := [(2, { run := some { start := 3, sent := true } })] },
      by decide +kernel⟩,
   ⟨2, st ((rimUp 2).wr (F.RIM_CTRL_AUTO_RESCAN 2) 1), by decide +kernel⟩⟩

/-- States and operands that meet the hypotheses of the clauses of `NodeRecords`. -/
theorem NodeRecords_hypotheses_met :
    (∃ (n : Fin 32) (c : BitVec 48) (r : HelloRec) (s : State),
      s.dev.rimOn n = true) ∧
    (∃ (n : Fin 32) (c : BitVec 48) (r : HelloRec) (p : Nat) (s : State),
      s.dev.rimRuns n = true ∧ s.dev.helloPos n r = some p ∧ s.dev.spokeSt (8 * n + p) = 0 ∧ c.toNat ≤ s.dev.claim ∧
      r.posValid = false ∧ s.dev.rd (F.SPOKE_XUID_LO_VAL (8 * n + p)) = 0 ∧ s.dev.rd (F.SPOKE_XUID_HI_VAL (8 * n +
      p)) = 0 ∧ s.dev.rd (F.SPOKE_XTYPE_VAL (8 * n + p)) = 0) ∧
    (∃ (n : Fin 32) (c : BitVec 48) (r : HelloRec) (p : Nat) (s : State),
      s.dev.rimRuns n = true ∧ s.dev.helloPos n r = some p ∧ s.dev.spokeSt (8 * n + p) = 0 ∧ s.dev.rd
      (F.SPOKE_XTYPE_VAL (8 * n + p)) ≠ 0 ∧ s.dev.rd (F.SPOKE_XTYPE_VAL (8 * n + p)) ≠ r.type_.toNat) ∧
    (∃ (n : Fin 32) (c : BitVec 48) (r : HelloRec) (s : State),
      s.dev.rimRuns n = true ∧ s.dev.helloPos n r = none) ∧
    (∃ (n : Fin 32) (pos : Fin 8) (r : EchoRec) (t4 : Nat) (e : Nat × Nat) (s : State),
      let k := 8 * n.val + pos.val
      s.dev.rimRuns n = true ∧ s.dev.spokeSt k = 3 ∧ (s.dev.spoke k).calDone = false ∧ s.dev.shadow k = false ∧
      r.etag.toNat / 0x8000 = s.dev.tid % 2 ∧ (s.dev.spoke k).pend.find? (fun e => e.1 == r.etag.toNat) = some e ∧
      (s.dev.spoke k).echoes.length < 63) ∧
    (∃ (n : Fin 32) (pos : Fin 8) (r : EchoRec) (t4 : Nat) (e : Nat × Nat) (s : State),
      let k := 8 * n.val + pos.val
      let x := ((t4 : Int) - e.2 - r.turn.toNat) / 2 + s.dev.rdInt (F.SPOKE_ASYM_ASYM k)
      s.dev.rimRuns n = true ∧ s.dev.spokeSt k = 3 ∧ (s.dev.spoke k).calDone = false ∧ s.dev.shadow k = false ∧
      r.etag.toNat / 0x8000 = s.dev.tid % 2 ∧ (s.dev.spoke k).pend.find? (fun e => e.1 == r.etag.toNat) = some e ∧ 63
      ≤ (s.dev.spoke k).echoes.length ∧ bitAt r.nstat.toNat 0 = false) ∧
    (∃ (n : Fin 32) (pos : Fin 8) (r : EchoRec) (t4 : Nat) (s : State),
      r.etag.toNat / 0x8000 ≠ s.dev.tid % 2) ∧
    (∃ (n : Fin 32) (pos : Fin 8) (r : CfgAckRec) (i : CfgItem) (s : State),
      let k := 8 * n.val + pos.val
      s.dev.rimRuns n = true ∧ s.dev.spokeSt k = 2 ∧ (s.dev.spoke k).init = true ∧ (s.dev.spoke k).cfg = [i] ∧
      i.param = r.param.toNat ∧ i.vals.length = r.count.toNat ∧ cfgCrc i.vals = r.crc.toNat ∧ i.param ≠ 4 ∧ r.status
      = 0) ∧
    (∃ (n : Fin 32) (pos : Fin 8) (r : CfgAckRec) (i : CfgItem) (s : State),
      let k := 8 * n.val + pos.val
      s.dev.rimRuns n = true ∧ (s.dev.spoke k).cfg = [i] ∧ i.param = r.param.toNat ∧ i.vals.length = r.count.toNat ∧
      cfgCrc i.vals = r.crc.toNat ∧ r.status ≠ 0) ∧
    (∃ (n : Fin 32) (pos : Fin 8) (r : FaultRec) (s : State),
      let k := 8 * n.val + pos.val
      s.dev.rimOn n = true ∧ (s.dev.spoke k).faults.contains r.fseq.toNat = false ∧ s.dev.unwritten (.SPOKE_CTRL k)) ∧
    (∃ (n : Fin 32) (pos : Fin 8) (r : FaultRec) (s : State),
      let k := 8 * n.val + pos.val
      s.dev.rimRuns n = true ∧ (s.dev.spoke k).acked.contains r.fseq.toNat = false ∧ s.dev.unwritten (.SPOKE_CTRL k)) ∧
    (∃ (n : Fin 32) (pos : Fin 8) (r : FaultRec) (s : State),
      let k := 8 * n.val + pos.val
      (s.dev.spoke k).faults.contains r.fseq.toNat = true ∧ (s.dev.rimRuns n = false ∨ (s.dev.spoke k).acked.contains
      r.fseq.toNat = true)) ∧
    (∃ (n : Fin 32) (pos : Fin 8) (port : Fin 2) (r : TelemRec) (x : Nat) (s : State),
      let k := 8 * n.val + pos.val
      s.dev.rimOn n = true ∧ s.dev.identified k = true ∧ ((s.dev.rim n).samples.filter fun y => decide (y ≤
      s.dev.tns)).getLast? = some x ∧ x % 1000000000 = r.sampleNs.toNat ∧ s.dev.tns < x + max 500 (s.dev.rd
      (F.RIM_TCFG_CUT_DLY n))) ∧
    (∃ (n : Fin 32) (pos : Fin 8) (port : Fin 2) (r : TelemRec) (s : State),
      let k := 8 * n.val + pos.val
      s.dev.rimOn n = true ∧ (∀ x, ((s.dev.rim n).samples.filter fun y => decide (y ≤ s.dev.tns)).getLast? = some x →
      x % 1000000000 ≠ r.sampleNs.toNat ∨ x + max 500 (s.dev.rd (F.RIM_TCFG_CUT_DLY n)) ≤ s.dev.tns)) ∧
    (∃ (n : Fin 32) (pos : Fin 8) (c : BitVec 48) (e : DelayEntry) (s : State),
      let l := 4 * (8 * n.val + pos.val)
      s.dev.rimOn n = true ∧ c.toNat = s.dev.claim ∧ s.dev.on (F.EDGE_LEG_DT_ADAPT l) = true ∧ e.eseq ≠ 0 ∧
      (s.dev.leg l).doneR ≠ some e.eseq.toNat ∧ (s.dev.leg l).edges.find? (fun x => x.1 == e.eseq.toNat) = none) ∧
    (∃ (n : Fin 32) (pos : Fin 8) (c : BitVec 48) (es : List DelayEntry) (s : State),
      s.dev.rimOn n = true ∧ c.toNat ≠ s.dev.claim) ∧
    (∃ (n : Fin 32) (b : RimBlock) (bs : List RimBlock) (t4 : Nat) (s : State),
      s.dev.rimOn n = true ∧ ((frameOf (b :: bs)).bind fun x => parseUp x.1) = none) ∧
    (∃ (n : Fin 32) (b : RimBlock) (bs : List RimBlock) (t4 : Nat) (f : UpFrame) (s : State),
      s.dev.rimOn n = true ∧ ((frameOf (b :: bs)).bind fun x => parseUp x.1) = some f ∧ f.up = true ∧ f.recs = []) ∧
    (∃ (n : Fin 32) (b : RimBlock) (bs : List RimBlock) (t4 : Nat) (f : UpFrame) (s : State),
      ((frameOf (b :: bs)).bind fun x => parseUp x.1) = some f ∧ f.up = false) :=
  ⟨⟨2, 5, hello0, st (rimUp 2), by decide +kernel⟩,
   ⟨2, 0, hello0, 0, st (rimUp 2), by decide +kernel⟩,
   ⟨2, 0, hello0, 0, st ((rimUp 2).wr (F.SPOKE_XTYPE_VAL 16) 6), by decide +kernel⟩,
   ⟨2, 0, { hello0 with hopRx := 0xF1 }, st (rimUp 2), by decide +kernel⟩,
   ⟨2, 7, ⟨3, 1, 4⟩, 100, (3, 10), st
      { (rimUp 2).wr (F.SPOKE_STATE_STATE 23) 3 with spokes := [(23, { pend := [(3, 10)] })] }, by decide +kernel, by
      decide +kernel⟩,
   ⟨2, 7, ⟨3, 0, 4⟩, 100, (3, 10), node { pend := [(3, 10)], echoes := List.replicate 63 5 } ((rimUp 2).wr
      (F.SPOKE_STATE_STATE 23) 3), by decide +kernel, by decide +kernel⟩,
   ⟨2, 7, ⟨0x8000, 1, 4⟩, 100, st (rimUp 2), by decide +kernel⟩,
   ⟨2, 7, ⟨1, 1, 0, BitVec.ofNat 32 (cfgCrc [5])⟩, { param := 1, vals := [5] }, st
      { (rimUp 2).wr (F.SPOKE_STATE_STATE 23) 2 with
      spokes := [(23, { init := true, cfg := [{ param := 1, vals := [5] }] })] }, by decide +kernel, by
      decide +kernel⟩,
   ⟨2, 7, ⟨1, 1, 1, BitVec.ofNat 32 (cfgCrc [5])⟩, { param := 1, vals := [5] }, st
      { (rimUp 2).wr (F.SPOKE_STATE_STATE 23) 4 with
      spokes := [(23, { cfg := [{ param := 1, vals := [5] }] })] }, by decide +kernel, by decide +kernel⟩,
   ⟨2, 7, ⟨9, 3, 0, 2, 0⟩, st ((rimUp 2).wr (F.SPOKE_STATE_STATE 23) 5), by decide +kernel, by decide +kernel⟩,
   ⟨2, 7, ⟨9, 3, 0, 2, 0⟩, node { faults := [3] } (rimUp 2), by decide +kernel, by decide +kernel⟩,
   ⟨2, 7, ⟨9, 3, 0, 2, 0⟩, node { acked := [3], faults := [3] } (rimUp 2), by decide +kernel, by decide +kernel⟩,
   ⟨2, 7, 1, telem0, 5, st { (rimUp 2).wr (F.SPOKE_STATE_STATE 23) 5 with
      time := { count := 10 * nsUnit }, rims := [(2, { samples := [5] })] }, by decide +kernel, by decide +kernel⟩,
   ⟨2, 7, 1, telem0, st (rimUp 2), by decide +kernel, by decide +kernel⟩,
   ⟨2, 7, 0, ⟨1, 5, false, false⟩, st ((rimUp 2).wr (F.EDGE_LEG_DT_ADAPT 92) 1), by decide +kernel, by
      decide +kernel⟩,
   ⟨2, 7, 1, [], st (rimUp 2), by decide +kernel⟩,
   ⟨2, sofBlock, [], 0, st (rimUp 2), by decide +kernel⟩,
   ⟨2, sofBlock, (frame0 6).tail, 0, ⟨true, 1, 0, some 3, 255, []⟩, st (rimUp 2), by decide +kernel⟩,
   ⟨2, sofBlock, (frame0 0).tail, 0, ⟨false, 0, 0, some 3, 255, []⟩, st (rimUp 2), by decide +kernel⟩⟩

/-- States and operands that meet the hypotheses of the clauses of `Positions`. -/
theorem Positions_hypotheses_met :
    (∃ (k : Fin 256) (i : CfgItem) (q : List CfgItem) (s : State),
      (s.dev.spoke k).cfg = i :: q ∧ s.dev.rimRuns (rimOf k) = true ∧ s.dev.shadow k = false ∧ i.tries < 3) ∧
    (∃ (k : Fin 256) (i : CfgItem) (q : List CfgItem) (s : State),
      (s.dev.spoke k).cfg = i :: q ∧ s.dev.rimRuns (rimOf k) = true ∧ s.dev.shadow k = false ∧ 3 ≤ i.tries) ∧
    (∃ (k : Fin 256) (i : CfgItem) (q : List CfgItem) (s : State),
      (s.dev.spoke k).cfg = i :: q ∧ s.dev.rimRuns (rimOf k) = true ∧ s.dev.shadow k = true) ∧
    (∃ (k : Fin 256) (s : State),
      s.dev.spokeSt k = 3 ∧ (s.dev.spoke k).calDone = true ∧ s.dev.rimRuns (rimOf k) = true) ∧
    (∃ (k : Fin 256) (s : State),
      s.dev.identified k = true ∧ (s.dev.spoke k).restarting = false ∧ s.dev.rimRuns (rimOf k) = true) ∧
    (∃ (k : Fin 256) (s : State),
      s.dev.identified k = true ∧ (s.dev.spoke k).restarting = true) ∧
    (∃ (m : Nat) (k : Fin 256) (v : Word) (s : State),
      Accepts (spokeCtrlWrite k) m (.SPOKE_CTRL k) v.toNat s.dev ∧ (Instr.spokeAdmit m k v).wf = true ∧ s.dev.rimRuns
      (rimOf k) = true ∧ s.dev.spokeSt k = 4 ∧ s.dev.shadow k = false) ∧
    (∃ (m : Nat) (k : Fin 256) (v : Word) (s : State),
      Accepts (spokeCtrlWrite k) m (.SPOKE_CTRL k) v.toNat s.dev ∧ (Instr.spokeBypass m k v).wf = true ∧
      s.dev.rimRuns (rimOf k) = true ∧ s.dev.spokeSt k = 5 ∧ s.dev.shadow k = false) ∧
    (∃ (m : Nat) (k : Fin 256) (v : Word) (s : State),
      Accepts (spokeCtrlWrite k) m (.SPOKE_CTRL k) v.toNat s.dev ∧ (Instr.spokeUnbypass m k v).wf = true ∧
      s.dev.rimRuns (rimOf k) = true ∧ s.dev.spokeSt k = 6 ∧ s.dev.shadow k = false) ∧
    (∃ (m : Nat) (k : Fin 256) (v : Word) (s : State),
      Accepts (spokeCtrlWrite k) m (.SPOKE_CTRL k) v.toNat s.dev ∧ (Instr.spokeRescan m k v).wf = true ∧
      s.dev.rimRuns (rimOf k) = true ∧ (s.dev.spokeSt k = 6 ∨ s.dev.spokeSt k = 7)) ∧
    (∃ (m : Nat) (k : Fin 256) (i : Fin 18) (v : Word) (s : State),
      Accepts (spokeCfgWrite k (cfgReg k i)) m (cfgReg k i) v.toNat s.dev ∧ s.dev.configured k = false) ∧
    (∃ (m : Nat) (k : Fin 256) (i : Fin 18) (v : Word) (s : State),
      Accepts (spokeCfgWrite k (cfgReg k i)) m (cfgReg k i) v.toNat s.dev ∧ 2 ≤ i.val ∧ s.dev.on (F.PG_CTRL_EXPERT_EN
      (cfgReg k i).page) = true ∧ s.dev.on (F.PG_LOCK_LOCK_EXPERT (cfgReg k i).page) = false ∧ s.dev.configured k =
      true ∧ s.dev.rimRuns (rimOf k) = true ∧ s.dev.shadow k = false) ∧
    (∃ (m : Nat) (k : Fin 256) (i : Fin 18) (v : Word) (s : State),
      Accepts (spokeCfgWrite k (cfgReg k i)) m (cfgReg k i) v.toNat s.dev ∧ ((cfgReg k i).fields.any fun f =>
      s.dev.takes m (cfgReg k i) f) = true ∧ s.dev.configured k = true ∧ s.dev.rimRuns (rimOf k) = true ∧
      s.dev.shadow k = false) ∧
    (∃ (k : Fin 256) (v : Nat) (s : State),
      (s.dev.spoke k).ilkCur = some v ∧ (s.dev.spoke k).ilkUp = true ∧ s.dev.configured k = true ∧ s.dev.shadow k =
      false ∧ s.dev.oldEdges k v = false ∧ (s.dev.spoke k).cfg.any (fun i => i.param == 4) = false) ∧
    (∃ (n : Fin 32) (x : Nat) (s : State),
      s.memWf ∧ s.dev.rimOn n = true ∧ s.dev.nextCut n = some x) :=
  ⟨⟨23, { param := 1, vals := [5], at_ := 7 }, [], st
      { rimUp 2 with spokes := [(23, { cfg := [{ param := 1, vals := [5], at_ := 7 }] })] }, by decide +kernel⟩,
   ⟨23, { param := 1, vals := [5], tries := 3 }, [], st
      { rimUp 2 with spokes := [(23, { cfg := [{ param := 1, vals := [5], tries := 3 }] })] }, by decide +kernel⟩,
   ⟨23, { param := 1, vals := [5] }, [], node { cfg := [{ param := 1, vals := [5] }] } ((rimUp 2).wr
      (F.SPOKE_CLAIM_LO_CLAIM 23) 9), by decide +kernel⟩,
   ⟨23, st { (rimUp 2).wr (F.SPOKE_STATE_STATE 23) 3 with spokes := [(23, { calDone := true })] }, by decide +kernel⟩,
   ⟨23, st ((rimUp 2).wr (F.SPOKE_STATE_STATE 23) 2), by decide +kernel⟩,
   ⟨23, st { (rimUp 2).wr (F.SPOKE_STATE_STATE 23) 6 with spokes := [(23, { restarting := true })] }, by
      decide +kernel⟩,
   ⟨0, 23, 1, st { (rimUp 2).wr (F.SPOKE_STATE_STATE 23) 4 with spokes := [(23, { legs := 3 })] }, acc (by
      decide +kernel), by decide +kernel⟩,
   ⟨0, 23, 2, st ((rimUp 2).wr (F.SPOKE_STATE_STATE 23) 5), acc (by decide +kernel), by decide +kernel⟩,
   ⟨0, 23, 4, st ((rimUp 2).wr (F.SPOKE_STATE_STATE 23) 6), acc (by decide +kernel), by decide +kernel⟩,
   ⟨0, 23, 8, st ((rimUp 2).wr (F.SPOKE_STATE_STATE 23) 7), acc (by decide +kernel), by decide +kernel⟩,
   ⟨0, 23, 1, 0x200BB8, st (rimUp 2), acc (by decide +kernel), by decide +kernel⟩,
   ⟨0, 23, 17, 7, st { ((rimUp 2).wr (F.SPOKE_STATE_STATE 23) 3).wr (F.PG_CTRL_EXPERT_EN (.SPOKE 2)) 1 with
      spokes := [(23, { sent := List.replicate 18 0 })] }, acc (by decide +kernel), by decide +kernel⟩,
   ⟨0, 23, 1, 7, node { sent := List.replicate 18 0 } ((rimUp 2).wr (F.SPOKE_STATE_STATE 23) 3), acc (by
      decide +kernel), by decide +kernel⟩,
   ⟨23, 40, st
      { (rimUp 2).wr (F.SPOKE_STATE_STATE 23) 5 with spokes := [(23, { ilkCur := some 40, ilkUp := true })] }, by
      decide +kernel⟩,
   ⟨2, 5, { st { (rimUp 2).wr (F.SPOKE_STATE_STATE 23) 5 with
      time := { running := true },
      rims := [(2, { samples := [5], back := [(7, 9, 1, telem0)] })] } with mem := [(0x43000900, 3)] }, by
      decide +kernel⟩⟩

/-- States and operands that meet the hypotheses of the clauses of `CellFirmwareAndPeriod`. -/
theorem CellFirmwareAndPeriod_hypotheses_met :
    (∃ (m : Nat) (n : Fin 32) (v : Word) (s : State),
      Accepts (fwCtrlWrite n) m (.RIM_FW_CTRL n) v.toNat s.dev ∧ (Instr.fwStart m n v).wf = true ∧ s.dev.on
      (F.PG_LOCK_LOCK_BASIC (.RIM n)) = false ∧ s.dev.rimRuns n = true ∧ (s.dev.rim n).fw = none) ∧
    (∃ (m : Nat) (n : Fin 32) (v : Word) (s : State),
      Accepts (fwCtrlWrite n) m (.RIM_FW_CTRL n) v.toNat s.dev ∧ (Instr.fwActivate m n v).wf = true ∧ s.dev.rimRuns n
      = true ∧ (bitAt v.toNat 8 = false ∨ (s.dev.rim n).fw.isSome = true)) ∧
    (∃ (m : Nat) (n : Fin 32) (v : Word) (x : FwXfer) (s : State),
      Accepts (fwCtrlWrite n) m (.RIM_FW_CTRL n) v.toNat s.dev ∧ (Instr.fwAbort m n v).wf = true ∧ (s.dev.rim n).fw =
      some x) ∧
    (∃ (n : Fin 32) (x : FwXfer) (s : State),
      (s.dev.rim n).fw = some x ∧ x.asked = false ∧ x.abort = false ∧ s.dev.rimRuns n = true ∧ x.next = 0 ∧ x.pass =
      0 ∧ 0 < x.blocks ∧ s.dev.fwReadable n x 0 = none) ∧
    (∃ (n : Fin 32) (x : FwXfer) (b : Nat) (s : State),
      (s.dev.rim n).fw = some x ∧ x.asked = false ∧ x.abort = false ∧ s.dev.rimRuns n = true ∧ ¬ (x.next = 0 ∧ x.pass
      = 0) ∧ s.dev.fwNext n x x.next = some b ∧ s.dev.fwReadable n x b = none) ∧
    (∃ (n : Fin 32) (x : FwXfer) (s : State),
      (s.dev.rim n).fw = some x ∧ x.asked = false ∧ x.abort = false ∧ s.dev.rimRuns n = true ∧ ¬ (x.next = 0 ∧ x.pass
      = 0) ∧ s.dev.fwNext n x 0 = none ∧ (List.range 8).filter (bitAt (s.dev.fwLive n x)) ≠ []) ∧
    (∃ (n : Fin 32) (x : FwXfer) (s : State),
      (s.dev.rim n).fw = some x ∧ x.asked = false ∧ x.abort = true ∧ s.dev.rimRuns n = true) ∧
    (∃ (n : Fin 32) (pos : Fin 8) (r : FwAckRec) (s : State),
      s.dev.rimRuns n = true ∧ r.status = 4) ∧
    (∃ (n : Fin 32) (pos : Fin 8) (r : FwAckRec) (x : FwXfer) (s : State),
      s.dev.rimRuns n = true ∧ r.status = 0 ∧ (s.dev.rim n).fw = some x ∧ x.asked = false ∧ bitAt x.mask pos = true ∧
      bitAt (s.dev.rd (F.RIM_FW_STAT_FAIL n)) pos = false) ∧
    (∃ (n : Fin 32) (pos : Fin 8) (r : FwAckRec) (x : FwXfer) (s : State),
      s.dev.rimRuns n = true ∧ (r.status = 2 ∨ r.status = 3) ∧ (s.dev.rim n).fw = some x ∧ x.asked = true ∧ bitAt
      x.mask pos = true ∧ bitAt (s.dev.rd (F.RIM_FW_STAT_FAIL n)) pos = false) ∧
    (∃ (m : Nat) (v : Word) (s : State),
      Accepts periodWrite m .TIME_DIST v.toNat s.dev ∧ s.dev.basicLocked (.TIME 0) = false ∧ s.dev.cellsBlocked =
      true ∧ s.dev.time.pend = false) ∧
    (∃ (m : Nat) (v : Word) (s : State),
      Accepts periodWrite m .TIME_DIST v.toNat s.dev ∧ s.dev.basicLocked (.TIME 0) = false ∧ (s.dev.cellsBlocked =
      false ∨ s.dev.time.pend = true)) :=
  ⟨⟨0, 2, 0x1FF, st ((rimUp 2).setWord (.RIM_FW_LEN 2) 1025), acc (by decide +kernel), by decide +kernel⟩,
   ⟨0, 2, 0x200, st ((rimUp 2).wr (F.RIM_FW_STAT_DONE 2) 0x81), acc (by decide +kernel), by decide +kernel⟩,
   ⟨0, 2, 0x400, ⟨0, 512, 1, 1, 0, 0, 0, [], false, false⟩, st
      { rimUp 2 with rims := [(2, { fw := some ⟨0, 512, 1, 1, 0, 0, 0, [], false, false⟩ })] }, acc (by
      decide +kernel), by decide +kernel⟩,
   ⟨2, ⟨0x20000000, 512, 1, 1, 0, 0, 0, [], false, false⟩, st
      { rimUp 2 with rims := [(2, { fw := some ⟨0x20000000, 512, 1, 1, 0, 0, 0, [], false, false⟩ })] }, by
      decide +kernel⟩,
   ⟨2, ⟨0x20000000, 1024, 2, 1, 1, 0, 0, [], false, false⟩, 1, st
      { rimUp 2 with rims := [(2, { fw := some ⟨0x20000000, 1024, 2, 1, 1, 0, 0, [], false, false⟩ })] }, by
      decide +kernel⟩,
   ⟨2, ⟨0x20000000, 512, 1, 1, 1, 0, 0, [(0, 1)], false, false⟩, st
      { rimUp 2 with rims := [(2, { fw := some ⟨0x20000000, 512, 1, 1, 1, 0, 0, [(0, 1)], false, false⟩ })] }, by
      decide +kernel⟩,
   ⟨2, ⟨0, 512, 1, 1, 0, 0, 0, [], false, true⟩, st
      { rimUp 2 with rims := [(2, { fw := some ⟨0, 512, 1, 1, 0, 0, 0, [], false, true⟩ })] }, by decide +kernel⟩,
   ⟨2, 7, ⟨0, 4⟩, st (rimUp 2), by decide +kernel⟩,
   ⟨2, 7, ⟨0, 0⟩, ⟨0, 512, 1, 128, 1, 0, 0, [], false, false⟩, st
      { rimUp 2 with rims := [(2, { fw := some ⟨0, 512, 1, 128, 1, 0, 0, [], false, false⟩ })] }, by decide +kernel⟩,
   ⟨2, 7, ⟨0, 3⟩, ⟨0, 512, 1, 128, 1, 0, 0, [], true, false⟩, st
      { rimUp 2 with rims := [(2, { fw := some ⟨0, 512, 1, 128, 1, 0, 0, [], true, false⟩ })] }, by decide +kernel⟩,
   ⟨0, 5, st up, acc (by decide +kernel), by decide +kernel⟩,
   ⟨0, 5, st { up with time := { pend := true } }, acc (by decide +kernel), by decide +kernel⟩⟩

end Hyps06

namespace Hyps07

/-- A part of the states below: j0. -/
def j0 : LegJob := ⟨92, 0, 0, 20, 25, 10, 0, 20⟩

/-- States and operands that meet the hypotheses of the clauses of `Carriers`. -/
theorem Carriers_hypotheses_met :
    (∃ (m : Nat) (c : Fin 64) (v : Word) (s : State),
      Accepts (carCtrlWrite c) m (.EDGE_CAR_CTRL c) v.toNat s.dev ∧ (Instr.carrierArm m c v).wf = true ∧ s.dev.on
      (F.PG_LOCK_LOCK_BASIC (Reg.EDGE_CAR_CTRL c).page) = false ∧ s.dev.on (F.EDGE_CAR_CTRL_EN c) = false ∧ bitAt
      v.toNat 1 = false) ∧
    (∃ (m : Nat) (c : Fin 64) (v : Word) (s : State),
      Accepts (carCtrlWrite c) m (.EDGE_CAR_CTRL c) v.toNat s.dev ∧ (Instr.carrierArm m c v).wf = true ∧ s.dev.on
      (F.PG_LOCK_LOCK_BASIC (Reg.EDGE_CAR_CTRL c).page) = false ∧ s.dev.on (F.EDGE_CAR_CTRL_EN c) = false ∧ bitAt
      v.toNat 1 = true ∧ (let ref := bitsOf v.toNat (F.EDGE_CAR_CTRL_REF c).lo (F.EDGE_CAR_CTRL_REF c).w; ref = c.val
      ∨ s.dev.carRuns ref = false)) ∧
    (∃ (m : Nat) (c : Fin 64) (v : Word) (s : State),
      Accepts (carCtrlWrite c) m (.EDGE_CAR_CTRL c) v.toNat s.dev ∧ (Instr.carrierArm m c v).wf = true ∧ s.dev.on
      (F.PG_LOCK_LOCK_BASIC (Reg.EDGE_CAR_CTRL c).page) = false ∧ s.dev.on (F.EDGE_CAR_CTRL_EN c) = false ∧ bitAt
      v.toNat 1 = true ∧ (let ref := bitsOf v.toNat (F.EDGE_CAR_CTRL_REF c).lo (F.EDGE_CAR_CTRL_REF c).w; ref ≠ c.val
      ∧ s.dev.carRuns ref = true)) ∧
    (∃ (m : Nat) (c : Fin 64) (v : Word) (s : State),
      Accepts (carCtrlWrite c) m (.EDGE_CAR_CTRL c) v.toNat s.dev ∧ (Instr.carrierArm m c v).wf = true ∧ s.dev.on
      (F.PG_LOCK_LOCK_BASIC (Reg.EDGE_CAR_CTRL c).page) = false ∧ s.dev.on (F.EDGE_CAR_CTRL_EN c) = true) ∧
    (∃ (m : Nat) (c : Fin 64) (v : Word) (s : State),
      Accepts (carCtrlWrite c) m (.EDGE_CAR_CTRL c) v.toNat s.dev ∧ (Instr.carrierDisable m c v).wf = true ∧ s.dev.on
      (F.PG_LOCK_LOCK_BASIC (Reg.EDGE_CAR_CTRL c).page) = false ∧ s.dev.on (F.EDGE_CAR_CTRL_EN c) = true ∧
      s.dev.carBound c = false) ∧
    (∃ (m : Nat) (c : Fin 64) (v : Word) (s : State),
      Accepts (carCtrlWrite c) m (.EDGE_CAR_CTRL c) v.toNat s.dev ∧ (Instr.carrierDisable m c v).wf = true ∧ s.dev.on
      (F.PG_LOCK_LOCK_BASIC (Reg.EDGE_CAR_CTRL c).page) = false ∧ s.dev.on (F.EDGE_CAR_CTRL_EN c) = true ∧
      s.dev.carBound c = true) ∧
    (∃ (c : Fin 64) (x : Nat) (q : List Nat) (s : State),
      (s.dev.car c).firsts = x :: q) ∧
    (∃ (c : Fin 64) (e : Nat) (s : State),
      (s.dev.car c).stopAt = some e ∧ (s.dev.car c).begun = true ∧ (s.dev.car c).firsts = [] ∧ s.dev.on
      (F.EDGE_CAR_CTRL_EN c) = true) ∧
    (∃ (c : Fin 64) (e : Nat) (s : State),
      (s.dev.car c).stopAt = some e ∧ ¬ ((s.dev.car c).begun = true ∧ (s.dev.car c).firsts = [] ∧ s.dev.on
      (F.EDGE_CAR_CTRL_EN c) = true)) ∧
    (∃ (c : Fin 64) (x : Nat) (s : State),
      let b := (s.dev.jumpToTb (s.dev.commitTick x)).before
      let p := b.carPeriod c
      (s.dev.car c).next = some x ∧ b.on (F.EDGE_CAR_CTRL_GATED c) = false) ∧
    (∃ (c : Fin 64) (x : Nat) (s : State),
      let d := s.dev.jumpToTb (s.dev.commitTick x)
      (s.dev.car c).next = some x ∧ d.before.on (F.EDGE_CAR_CTRL_GATED c) = true ∧ (s.dev.car c).begun = true ∧
      (s.dev.car c).xferBefore d.now = false) ∧
    (∃ (c : Fin 64) (x : Nat) (s : State),
      let d := s.dev.jumpToTb (s.dev.commitTick x)
      (s.dev.car c).next = some x ∧ d.before.on (F.EDGE_CAR_CTRL_GATED c) = true ∧ (s.dev.car c).xferBefore d.now =
      true) ∧
    (∃ (m : Nat) (v : Word) (s : State),
      Accepts (plainEffect .EDGE_LEAD) m .EDGE_LEAD v.toNat s.dev ∧ s.dev.on (F.PG_LOCK_LOCK_BASIC
      (Reg.EDGE_LEAD).page) = false) ∧
    (∃ (m : Nat) (c : Fin 64) (v : Word) (s : State),
      Accepts (xferWrite c) m (.EDGE_CAR_XFER c) v.toNat s.dev) :=
  ⟨⟨0, 63, 1, st up, acc (by decide +kernel), by decide +kernel⟩,
   ⟨0, 63, 3, st up, acc (by decide +kernel), by decide +kernel⟩,
   ⟨0, 63, 0x3, st ((up.wr (F.EDGE_CAR_CTRL_EN 0) 1).wr (F.EDGE_CAR_STAT_RUN 0) 1), acc (by decide +kernel), by
      decide +kernel⟩,
   ⟨0, 63, 1, st (up.wr (F.EDGE_CAR_CTRL_EN 63) 1), acc (by decide +kernel), by decide +kernel⟩,
   ⟨0, 63, 0, st { (up.wr (F.EDGE_CAR_CTRL_EN 63) 1).wr (F.EDGE_CAR_STAT_RUN 63) 1 with
      edge := { cars := [(63, { next := some 5000 })] } }, acc (by decide +kernel), by decide +kernel⟩,
   ⟨0, 0, 0, st ((up.wr (F.EDGE_CAR_CTRL_EN 0) 1).wr (F.EDGE_LEG_CTRL_EN 1023) 1), acc (by decide +kernel), by
      decide +kernel⟩,
   ⟨5, 7000, [], st { up.wr (F.EDGE_CAR_STAT_ARMED 5) 1 with edge := { cars := [(5, { firsts := [7000] })] } }, by
      decide +kernel⟩,
   ⟨0, 9000, st { (up.wr (F.EDGE_CAR_STAT_RUN 0) 1).wr (F.EDGE_CAR_CTRL_EN 0) 1 with
      edge := { cars := [(0, { stopAt := some 9000, begun := true })] } }, by decide +kernel⟩,
   ⟨0, 9000, st { up.wr (F.EDGE_CAR_STAT_RUN 0) 1 with
      edge := { cars := [(0, { stopAt := some 9000, begun := true })] } }, by decide +kernel⟩,
   ⟨5, 9000, st { (up.wr (F.EDGE_LEG_CTRL_CAR 7) 5).wr (F.EDGE_CAR_STAT_XFER_PEND 5) 1 with
      edge := { cars := [(5, { next := some 9000 })] }, spokes := [(1, { ilkCommit := some 44 })] }, by
      decide +kernel, by decide +kernel⟩,
   ⟨5, 9000, st { up.wr (F.EDGE_CAR_CTRL_GATED 5) 1 with
      edge := { cars := [(5, { next := some 9000, begun := true, period := 4000 })] } }, by decide +kernel, by
      decide +kernel⟩,
   ⟨5, 9000, st { up.wr (F.EDGE_CAR_CTRL_GATED 5) 1 with
      now := 7, edge := { cars := [(5, { next := some 9000, begun := true, xfer := true })] } }, by decide +kernel,
      by decide +kernel⟩,
   ⟨0, 2001, st up, acc (by decide +kernel), by decide +kernel⟩,
   ⟨0, 63, 1, st up, acc (by decide +kernel)⟩⟩

/-- States and operands that meet the hypotheses of the clauses of `LegsBlocksAndTriggers`. -/
theorem LegsBlocksAndTriggers_hypotheses_met :
    (∃ (m : Nat) (l : Fin 1024) (v : Word) (s : State),
      Accepts (legCtrlWrite l) m (.EDGE_LEG_CTRL l) v.toNat s.dev ∧ s.dev.on (F.PG_LOCK_LOCK_BASIC (Reg.EDGE_LEG_CTRL
      l).page) = false ∧ s.dev.on (F.EDGE_LEG_CTRL_EN l) = true ∧ bitsOf v.toNat 8 6 ≠ s.dev.rd (F.EDGE_LEG_CTRL_CAR
      l)) ∧
    (∃ (m : Nat) (l : Fin 1024) (v : Word) (s : State),
      Accepts (legCtrlWrite l) m (.EDGE_LEG_CTRL l) v.toNat s.dev ∧ s.dev.on (F.PG_LOCK_LOCK_BASIC (Reg.EDGE_LEG_CTRL
      l).page) = false ∧ s.dev.on (F.EDGE_LEG_CTRL_EN l) = true ∧ bitsOf v.toNat 8 6 = s.dev.rd (F.EDGE_LEG_CTRL_CAR
      l)) ∧
    (∃ (m : Nat) (l : Fin 1024) (v : Word) (s : State),
      Accepts (legCtrlWrite l) m (.EDGE_LEG_CTRL l) v.toNat s.dev ∧ s.dev.on (F.PG_LOCK_LOCK_BASIC (Reg.EDGE_LEG_CTRL
      l).page) = false ∧ s.dev.on (F.EDGE_LEG_CTRL_EN l) = false) ∧
    (∃ (m : Nat) (l : Fin 1024) (v : Word) (s : State),
      Accepts (dtWrite l) m (.EDGE_LEG_DT l) v.toNat s.dev ∧ s.dev.on (F.PG_LOCK_LOCK_BASIC (Reg.EDGE_LEG_DT l).page)
      = false ∧ s.dev.on (F.EDGE_LEG_DT_ADAPT l) = false ∧ bitAt v.toNat 12 = true) ∧
    (∃ (m : Nat) (l : Fin 1024) (v : Word) (s : State),
      Accepts (dtWrite l) m (.EDGE_LEG_DT l) v.toNat s.dev ∧ s.dev.on (F.EDGE_LEG_DT_ADAPT l) = true) ∧
    (∃ (g : GenJob) (q : List GenJob) (s : State),
      s.dev.edge.gens = g :: q ∧ (∀ j ∈ g.legs, s.dev.blockInForce (legRim j.leg) = true)) ∧
    (∃ (g : GenJob) (j : LegJob) (q : List GenJob) (s : State),
      s.dev.edge.gens = g :: q ∧ g.legs = [j] ∧ s.dev.blockInForce (legRim j.leg) = false ∧ j.duty = 0 ∧
      s.dev.heldState j.leg = some true ∧ (s.dev.leg j.leg).lastq = none ∧ max g.at_ s.dev.edge.genAt + 2 < g.start ∧
      s.dev.edgesQueued (legRim j.leg) < 512) ∧
    (∃ (n : Fin 32) (s : State),
      s.dev.blockInForce n = true ∧ (s.dev.rim n).blocked = false) ∧
    (∃ (n : Fin 32) (s : State),
      s.dev.blockInForce n = false ∧ (s.dev.rim n).blocked = true) ∧
    (∃ (n : Fin 32) (s : State),
      s.dev.time.running = true ∧ s.dev.rimSends n = true ∧ s.dev.rimRuns n = true ∧ s.dev.blockInForce n = false ∧
      (s.dev.rim n).relDue = true) ∧
    (∃ (m : Nat) (s : State),
      Accepts (captureWrite .EDGE_LATEINFO none) m .EDGE_LATEINFO (2 ^ 31) s.dev ∧ (∀ e ∈ s.dev.captures, e.1 =
      .EDGE_LATEINFO → e.2.1 ≠ s.dev.now)) ∧
    (∃ (f : Firing) (i : Fin 8) (s : State),
      s.dev.edge.fires = [f] ∧ s.dev.rd (F.EDGE_TRG_CMP_ACTION f.trg) = 0x60 + i ∧ s.dev.domUp domMEM = true) :=
  ⟨⟨0, 1023, 0x101, st (up.wr (F.EDGE_LEG_CTRL_EN 1023) 1), acc (by decide +kernel), by decide +kernel⟩,
   ⟨0, 1023, 0x1, st (up.wr (F.EDGE_LEG_CTRL_EN 1023) 1), acc (by decide +kernel), by decide +kernel⟩,
   ⟨0, 1023, 0x3F01, st ((up.wr (F.EDGE_LEG_ESEQ_HELD 1023) 1).wr (F.EDGE_LEG_CARRY_UPPER 1023) 3), acc (by
      decide +kernel), by decide +kernel⟩,
   ⟨0, 1023, 0x1FFF, st up, acc (by decide +kernel), by decide +kernel⟩,
   ⟨0, 1023, 0x1FFF, st (up.wr (F.EDGE_LEG_DT_ADAPT 1023) 1), acc (by decide +kernel), by decide +kernel⟩,
   ⟨⟨0, 9000, 4000, 0, [j0]⟩, [], st
      { up.wr F.SAFE_BLOCK_RIMS 4 with edge := { gens := [⟨0, 9000, 4000, 0, [j0]⟩] } }, by decide +kernel⟩,
   ⟨⟨0, 9000, 4000, 0, [j0]⟩, j0, [], st
      { (rimUp 2).wr (F.EDGE_LEG_ESEQ_HELD 92) 1 with edge := { gens := [⟨0, 9000, 4000, 0, [j0]⟩] } }, by
      decide +kernel⟩,
   ⟨31, st ((rimUp 31).wr F.SAFE_BLOCK_RIMS 0x80000000), by decide +kernel⟩,
   ⟨2, st { (rimUp 2).wr (F.SPOKE_STATE_STATE 23) 5 with
      rims := [(2, { blocked := true, pairBypass := true })], spokes := [(23, { legs := 3 })] }, by decide +kernel⟩,
   ⟨2, st { rimUp 2 with time := { running := true }, rims := [(2, { relDue := true })] }, by decide +kernel⟩,
   ⟨0, st (up.setWord .EDGE_LATEINFO 0x80000005), acc (by decide +kernel), by decide +kernel⟩,
   ⟨⟨7000, 511⟩, 7, st { up.wr (F.EDGE_TRG_CMP_ACTION 511) 0x67 with edge := { fires := [⟨7000, 511⟩] } }, by
      decide +kernel⟩⟩

end Hyps07

namespace Hyps08

/-- A part of the states below: cup. -/
def cup (c : Nat) (x : AdcConv) : Dev := { up.wr (F.PG_CTRL_ENABLE (convPage c)) 1 with adc := { convs := [(c, x)] } }

/-- A part of the states below: slot0. -/
def slot0 : AdcSlot :=
      { owner := 15, sel := 0x2F, inj := false, qempty := false, res := 0, align := false, ts := true, endAt := 50, stamp := 7 }

/-- A slot just begun, and what stood before it. -/
def undo0 : AdcUndo := ⟨9000, {}, {}, slot0, 0, 0, 0, 0⟩

/-- States and operands that meet the hypotheses of the clauses of `ConverterQueuesAndSlots`. -/
theorem ConverterQueuesAndSlots_hypotheses_met :
    (∃ (m : Nat) (c : Fin 16) (v : Word) (s : State),
      Accepts (selWrite c) m (.ADC_SEL c) v.toNat s.dev ∧ s.dev.basicLocked (convPage c) = false ∧ chanOk (selChan
      v.toNat) = true ∧ ((s.dev.conv c).queue.length < 8 ∨ ((s.dev.conv c).queue.length = 8 ∧ s.dev.popDue c =
      true))) ∧
    (∃ (m : Nat) (c : Fin 16) (v : Word) (s : State),
      Accepts (selWrite c) m (.ADC_SEL c) v.toNat s.dev ∧ s.dev.basicLocked (convPage c) = false) ∧
    (∃ (m : Nat) (c : Fin 16) (v : Word) (s : State),
      Accepts (adcCtrlWrite c) m (.ADC_CTRL c) v.toNat s.dev ∧ (Instr.queueFlush m c v).wf = true) ∧
    (∃ (c : Fin 16) (s : State),
      s.dev.adcMode c = 1 ∧ s.dev.convRuns c = true ∧ (s.dev.conv c).handed = false ∧ (s.dev.conv c).slot = none ∧
      (s.dev.conv c).wait = none ∧ (s.dev.conv c).burst = 0 ∧ (s.dev.conv c).trigAt ≠ some s.dev.now) ∧
    (∃ (c : Fin 16) (s : State),
      s.dev.convRuns c = true ∧ ((s.dev.conv c).slot.isSome = true ∨ (s.dev.conv c).wait.isSome = true ∨ 0 <
      (s.dev.conv c).burst) ∧ (if (s.dev.conv c).slot.isNone && !(s.dev.conv c).handed then s.dev.adcMode c else
      (s.dev.conv c).mode) = 1 ∧ (s.dev.conv c).trigAt ≠ some s.dev.now) ∧
    (∃ (c : Fin 16) (s : State),
      ((s.dev.conv c).trigAt = some s.dev.now ∨ ((s.dev.conv c).slot = none ∧ (s.dev.conv c).handed = false ∧
      s.dev.adcMode c ≠ 1))) ∧
    (∃ (m : Nat) (c : Fin 16) (v : Word) (s : State),
      Accepts (adcCtrlWrite c) m (.ADC_CTRL c) v.toNat s.dev ∧ (Instr.adcSwtrig m c v).wf = true ∧ s.dev.basicLocked
      (convPage c) = false ∧ bitsOf v.toNat 0 2 = 1 ∧ s.dev.convRuns c = true ∧ (s.dev.conv c).handed = false ∧
      (s.dev.conv c).slot = none ∧ (s.dev.conv c).wait = none ∧ (s.dev.conv c).burst = 0 ∧ (s.dev.conv c).trigAt ≠
      some s.dev.now) ∧
    (∃ (c : Fin 16) (sl : AdcSlot) (s : State),
      s.dev.convRuns c = true ∧ (s.dev.conv c).cal = none ∧ (s.dev.conv (partner c)).handed = false ∧ (s.dev.conv
      c).slot = some sl ∧ (s.dev.conv c).wait = none ∧ (s.dev.conv c).inj = none ∧ (s.dev.conv c).calReq = false ∧
      s.dev.rd (F.ADC_CTRL_MODE c) = 0) ∧
    (∃ (c : Fin 16) (i : Nat) (s : State),
      s.dev.convRuns c = true ∧ (s.dev.conv c).cal = none ∧ (s.dev.conv c).inj = some i) ∧
    (∃ (c : Fin 16) (x : Nat) (q : List Nat) (s : State),
      s.dev.convRuns c = true ∧ (s.dev.conv c).cal = none ∧ (s.dev.conv (partner c)).handed = false ∧ (s.dev.conv
      c).wait = none ∧ (s.dev.conv c).inj = none ∧ (s.dev.conv c).calReq = false ∧ (s.dev.adcMode c = 2 ∨
      (s.dev.adcMode c = 1 ∧ 0 < (s.dev.conv c).burst)) ∧ (s.dev.conv c).queue = x :: q ∧ selPaired x = false) ∧
    (∃ (m : Nat) (c : Fin 16) (v : Word) (s : State),
      Accepts (injWrite c) m (.ADC_INJ c) v.toNat s.dev ∧ s.dev.basicLocked (convPage c) = false ∧ chanOk (selChan
      v.toNat) = true ∧ s.dev.on (F.ADC_INJ_PEND c) = false ∧ (∀ e, s.dev.adc.undo.find? (fun e => e.1 ==
      s.dev.carrier c) = some e → (s.dev.conv (s.dev.carrier c)).slot ≠ some e.2.slot ∨ e.2.till ≤ 1000 * s.dev.now)) ∧
    (∃ (m : Nat) (c : Fin 16) (v : Word) (e : Nat × AdcUndo) (s : State),
      Accepts (injWrite c) m (.ADC_INJ c) v.toNat s.dev ∧ s.dev.basicLocked (convPage c) = false ∧ chanOk (selChan
      v.toNat) = true ∧ s.dev.on (F.ADC_INJ_PEND c) = false ∧ s.dev.adc.undo.find? (fun e => e.1 == s.dev.carrier c)
      = some e ∧ (s.dev.conv (s.dev.carrier c)).slot = some e.2.slot ∧ 1000 * s.dev.now < e.2.till) ∧
    (∃ (m : Nat) (c : Fin 16) (v : Word) (s : State),
      Accepts (injWrite c) m (.ADC_INJ c) v.toNat s.dev ∧ s.dev.basicLocked (convPage c) = false ∧ (s.dev.on
      (F.ADC_INJ_PEND c) = true ∨ chanOk (selChan v.toNat) = false)) ∧
    (∃ (c : Fin 16) (w : AdcWait) (s : State),
      (s.dev.conv c).wait = some w ∧ (s.dev.conv c).slot = none ∧ s.dev.convRuns c = true) :=
  ⟨⟨0, 15, 0x47, st (cup 15 { queue := [1,2,3,4,5,6,7] }), acc (by decide +kernel), by decide +kernel⟩,
   ⟨0, 15, 0x47, st (cup 15 { queue := [1,2,3,4,5,6,7,8] }), acc (by decide +kernel), by decide +kernel⟩,
   ⟨0, 15, 0x400, st (cup 15 { queue := [1,2] }), acc (by decide +kernel), by decide +kernel⟩,
   ⟨15, st ((cup 15 { queue := [3, 4] }).wr (F.ADC_CTRL_MODE 15) 1), by decide +kernel⟩,
   ⟨15, st (cup 15 { slot := some slot0, mode := 1, burst := 2 }), by decide +kernel⟩,
   ⟨15, st (cup 15 { trigAt := some 0 }), by decide +kernel⟩,
   ⟨0, 15, 0x201, st (cup 15 { queue := [3, 4] }), acc (by decide +kernel), by decide +kernel⟩,
   ⟨15, slot0, st (cup 15 { slot := some slot0 }), by decide +kernel⟩,
   ⟨15, 5, st (cup 15 { inj := some 5, queue := [3] }), by decide +kernel⟩,
   ⟨15, 3, [4], st ((cup 15 { queue := [3, 4] }).wr (F.ADC_CTRL_MODE 15) 2), by decide +kernel⟩,
   ⟨0, 15, 0x53, st ((cup 15 {}).setWord (.ADC_INJRES 15) 0xF8000001), acc (by decide +kernel), by decide +kernel⟩,
   ⟨0, 15, 0x53, (15, undo0), st { cup 15 { slot := some slot0 } with
      adc := { convs := [(15, { slot := some slot0 })], undo := [(15, undo0)] } }, acc (by decide +kernel), by
      decide +kernel⟩,
   ⟨0, 15, 0x53, st ((cup 15 {}).wr (F.ADC_INJ_PEND 15) 1), acc (by decide +kernel), by decide +kernel⟩,
   ⟨15, ⟨0x4003, false, 10, 20⟩, st (cup 15 { wait := some ⟨0x4003, false, 10, 20⟩ }), by decide +kernel⟩⟩

/-- States and operands that meet the hypotheses of the clauses of `ConverterResults`. -/
theorem ConverterResults_hypotheses_met :
    (∃ (c : Fin 16) (v : Int) (vref : Nat) (sl : AdcSlot) (q : List AdcSlot) (s : State),
      (s.dev.conv c).done = sl :: q ∧ sl.inj = false ∧ sl.paired = false ∧ s.dev.convRuns c = true ∧ selDiag sl.sel =
      false ∧ (s.dev.conv sl.owner).fifo.length ≤ 30) ∧
    (∃ (c : Fin 16) (v : Int) (vref : Nat) (sl : AdcSlot) (q : List AdcSlot) (s : State),
      (s.dev.conv c).done = sl :: q ∧ sl.inj = false ∧ sl.paired = false ∧ s.dev.convRuns c = true ∧ selDiag sl.sel =
      true ∧ s.dev.on (F.ADC_DIAG_CFG_MODE (pairOf c)) = false) ∧
    (∃ (c : Fin 16) (v : Int) (vref : Nat) (sl : AdcSlot) (q : List AdcSlot) (s : State),
      (∀ k, s.dev.pairMate c = some k → k.word = none) ∧ (s.dev.conv c).done = sl :: q ∧ sl.inj = false ∧ sl.paired =
      true ∧ s.dev.convRuns c = true) ∧
    (∃ (c : Fin 16) (v : Int) (vref wm : Nat) (sl k : AdcSlot) (q : List AdcSlot) (s : State),
      (s.dev.conv c).done = sl :: q ∧ sl.inj = false ∧ sl.paired = true ∧ s.dev.convRuns c = true ∧ s.dev.pairMate c
      = some k ∧ k.word = some wm ∧ s.dev.on (F.ADC_PAIR_TOL_EN (pairOf c)) = true ∧ (let w := (resultWord c sl v
      vref (s.dev.jumpTo (sl.endAt + s.dev.adcNs 4))).1; s.dev.rd (F.ADC_PAIR_TOL_TOL (pairOf c)) < (leftForm w
      (sl.res + b2n sl.align * 4) - leftForm wm (k.res + b2n k.align * 4)).natAbs)) ∧
    (∃ (c : Fin 16) (v : Int) (vref : Nat) (sl : AdcSlot) (q : List AdcSlot) (s : State),
      (s.dev.conv c).done = sl :: q ∧ sl.inj = true ∧ s.dev.convRuns c = true) ∧
    (∃ (m : Nat) (c : Fin 16) (w : Nat) (q : List Nat) (s : State),
      Reads m (.ADC_RES c) s.dev ∧ (s.dev.conv c).fifo = w :: q) ∧
    (∃ (m : Nat) (c : Fin 16) (s : State),
      Reads m (.ADC_RES c) s.dev ∧ (s.dev.conv c).fifo = []) :=
  ⟨⟨15, 1250000000, 0, slot0, [], st (cup 15 { done := [slot0], fifo := List.replicate 30 0 }), by decide +kernel⟩,
   ⟨15, 1250000000, 0, { slot0 with sel := 0x802F }, [], st (cup 15 { done := [{ slot0 with sel := 0x802F }] }), by
      decide +kernel⟩,
   ⟨15, 1250000000, 0, { slot0 with paired := true }, [], st (cup 15 { done := [{ slot0 with paired := true }] }), by
      rintro k ⟨⟩, by decide +kernel⟩,
   ⟨15, 1250000000, 0, 0, { slot0 with paired := true }, { slot0 with paired := true, word := some 0 }, [], st
      { ((cup 15 {}).wr (F.ADC_PAIR_TOL_EN 7) 1) with
      adc := { convs := [(14, { done := [{ slot0 with paired := true, word := some 0 }] }), (15, { done := [{ slot0 with paired := true }] })] } },
      by decide +kernel⟩,
   ⟨15, 5, 0, { slot0 with inj := true }, [], st ((cup 15 { done := [{ slot0 with inj := true }] }).wr
      (F.ADC_INJ_PEND 15) 1), by decide +kernel⟩,
   ⟨0, 15, 9, [8], st (cup 15 { fifo := [9, 8] }), rds (by decide +kernel), by decide +kernel⟩,
   ⟨0, 15, st (cup 15 {}), rds (by decide +kernel), by decide +kernel⟩⟩

/-- States and operands that meet the hypotheses of the clauses of `ConverterReferenceAndCalibration`. -/
theorem ConverterReferenceAndCalibration_hypotheses_met :
    (∃ (m : Nat) (v : Word) (s : State),
      Accepts refWrite m .ADC_REF v.toNat s.dev ∧ s.dev.on (F.PG_LOCK_LOCK_BASIC (.ADC 0)) = false ∧ bitsOf v.toNat 0
      1 ≠ s.dev.rd F.ADC_REF_SRC ∧ (∀ c < 16, s.dev.on (F.ADC_CTRL_MODE c) = false ∧ s.dev.on (F.ADC_INJ_PEND c) =
      false ∧ (s.dev.conv c).cal = none)) ∧
    (∃ (m : Nat) (v : Word) (c : Nat) (s : State),
      Accepts refWrite m .ADC_REF v.toNat s.dev ∧ s.dev.on (F.PG_LOCK_LOCK_BASIC (.ADC 0)) = false ∧ bitsOf v.toNat 0
      1 ≠ s.dev.rd F.ADC_REF_SRC ∧ c < 16 ∧ (s.dev.on (F.ADC_CTRL_MODE c) = true ∨ s.dev.on (F.ADC_INJ_PEND c) = true
      ∨ (s.dev.conv c).cal ≠ none)) ∧
    (∃ (m : Nat) (v : Word) (s : State),
      Accepts refWrite m .ADC_REF v.toNat s.dev ∧ s.dev.on (F.PG_LOCK_LOCK_BASIC (.ADC 0)) = false ∧ bitsOf v.toNat 0
      1 = s.dev.rd F.ADC_REF_SRC) ∧
    (∃ (s : State),
      s.dev.adc.settling = true ∧ s.dev.enabled (.ADC 0) = true ∧ s.dev.on F.PWR_VMON_VDDA_LOW = false) ∧
    (∃ (m : Nat) (p : Fin 8) (v : Word) (s : State),
      let w := s.dev.merged m (.ADC_DAC p) v.toNat
      Accepts (dacWrite p) m (.ADC_DAC p) v.toNat s.dev ∧ (bitsOf w 12 2 < 2 ∨ s.dev.pinTaken p (bitsOf w 16 6) =
      false)) ∧
    (∃ (m : Nat) (p : Fin 8) (v : Word) (s : State),
      let w := s.dev.merged m (.ADC_DAC p) v.toNat
      Accepts (dacWrite p) m (.ADC_DAC p) v.toNat s.dev ∧ 2 ≤ bitsOf w 12 2 ∧ s.dev.pinTaken p (bitsOf w 16 6) =
      true) ∧
    (∃ (m : Nat) (p : Fin 8) (v : Word) (s : State),
      Accepts (diagCfgWrite p) m (.ADC_DIAG_CFG p) v.toNat s.dev ∧ s.dev.on (F.PG_LOCK_LOCK_BASIC (pairPage p)) =
      false) ∧
    (∃ (g : Fin 6) (s : State),
      s.dev.bit F.ADC_GRPINJ_ACTIVE g = false ∧ s.dev.domUp domANALOG = true) ∧
    (∃ (g : Fin 6) (s : State),
      s.dev.bit F.ADC_GRPINJ_ACTIVE g = true ∧ s.dev.domUp domANALOG = true) ∧
    (∃ (g : Fin 6) (a : Bool) (s : State),
      s.dev.bit F.ADC_GRPINJ_ACTIVE g = a) ∧
    (∃ (m : Nat) (c : Fin 16) (v : Word) (s : State),
      Accepts (calWrite c) m (.ADC_CAL c) v.toNat s.dev ∧ (Instr.calStart m c v).wf = true ∧ (s.dev.conv c).calReq =
      false ∧ (s.dev.conv c).cal = none ∧ s.dev.enabled (convPage c) = true ∧ s.dev.enabled (convPage (partner c)) =
      true ∧ (s.dev.conv (partner c)).cal = none) ∧
    (∃ (m : Nat) (c : Fin 16) (v : Word) (s : State),
      Accepts (calWrite c) m (.ADC_CAL c) v.toNat s.dev ∧ (Instr.calStart m c v).wf = true ∧ (s.dev.conv c).calReq =
      false ∧ (s.dev.conv c).cal = none ∧ ((s.dev.conv (partner c)).cal ≠ none ∨ s.dev.enabled (convPage (partner c))
      = false ∨ s.dev.enabled (convPage c) = false)) ∧
    (∃ (c : Fin 16) (s : State),
      (s.dev.conv c).calReq = true ∧ (s.dev.conv c).cal = none ∧ s.dev.convRuns c = true ∧ (s.dev.conv c).wait = none
      ∧ (s.dev.conv c).inj = none) ∧
    (∃ (c : Fin 16) (ok : Bool) (gain offset : BitVec 16) (x : Nat) (s : State),
      (s.dev.conv c).cal = some x) :=
  ⟨⟨0, 1, st up, acc (by decide +kernel), by decide +kernel⟩,
   ⟨0, 1, 15, st (up.wr (F.ADC_CTRL_MODE 15) 2), acc (by decide +kernel), by decide +kernel⟩,
   ⟨0, 0, st up, acc (by decide +kernel), by decide +kernel⟩,
   ⟨st { up.wr (F.PG_CTRL_ENABLE (.ADC 0)) 1 with adc := { settling := true, setAt := 5 } }, by decide +kernel⟩,
   ⟨0, 7, 0x52003, st up, acc (by decide +kernel), by decide +kernel⟩,
   ⟨0, 7, 0x52003, st ((up.wr (F.ADC_DAC_MODE 0) 3).wr (F.ADC_DAC_PIN 0) 5), acc (by decide +kernel), by
      decide +kernel⟩,
   ⟨0, 7, 1, st { up with adc := { ref := [(7, 3)] } }, acc (by decide +kernel), by decide +kernel⟩,
   ⟨5, st up, by decide +kernel⟩,
   ⟨5, st (up.wr F.ADC_GRPINJ_ACTIVE 0x20), by decide +kernel⟩,
   ⟨5, false, st up, by decide +kernel⟩,
   ⟨0, 15, 1, st ((cup 15 {}).wr (F.PG_CTRL_ENABLE (convPage 14)) 1), acc (by decide +kernel), by decide +kernel⟩,
   ⟨0, 15, 1, st (cup 15 {}), acc (by decide +kernel), by decide +kernel⟩,
   ⟨15, st (cup 15 { calReq := true }), by decide +kernel⟩,
   ⟨15, false, 3, 4, 5, st (cup 15 { cal := some 5 }), by decide +kernel⟩⟩

end Hyps08

namespace Hyps09

/-- A part of the states below: eup. -/
def eup (e : Nat) (g : Engine) : Dev :=
      { (up.wr (F.PG_CTRL_ENABLE (.LOOP e)) 1).wr (F.PG_CTRL_ENABLE (.LOOP 8)) 1 with loop := { engines := [(e, g)] } }

/-- A part of the states below: run0. -/
def run0 : LoopRun :=
      { start := 0, startNs := 0, startSec := 0, pc := 3, since := 0, deadline := 5000, nextAdmit := 7 }

/-- A part of the states below: fl0. -/
def fl0 : Flight :=
      { casc := 9, admitAt := 0, first := 4095, count := 1, group := 0, opc := none, dsts := [], x0 := 0, x := 0 }

/-- A part of the states below: work0. -/
def work0 : SecWork := ⟨4095, 1, 2, 3, false, false, true⟩

/-- A part of the states below: end0. -/
def end0 : RunEnd := ⟨1, 2, 3, false, false, false, 7, [5], 6, false⟩

/-- States and operands that meet the hypotheses of the clauses of `LoopRuns`. -/
theorem LoopRuns_hypotheses_met :
    (∃ (e : Fin 8) (s : State),
      (s.dev.eng e).startDue = true ∧ s.dev.takesStart e = true ∧ (s.dev.eng e).run = none ∧ (s.dev.eng e).prevStart
      ≠ some s.dev.now) ∧
    (∃ (e : Fin 8) (s : State),
      (s.dev.eng e).startDue = true ∧ (s.dev.takesStart e = false ∨ (s.dev.eng e).prevStart = some s.dev.now)) ∧
    (∃ (e : Fin 8) (r : LoopRun) (s : State),
      (s.dev.eng e).startDue = true ∧ s.dev.takesStart e = true ∧ (s.dev.eng e).run = some r ∧ (s.dev.eng
      e).prevStart ≠ some s.dev.now) ∧
    (∃ (m : Nat) (e : Fin 8) (v : Word) (s : State),
      Accepts (loopCtrlWrite s.mem e) m (.LOOP_CTRL e) v.toNat s.dev ∧ (Instr.loopSwstart m e v).wf = true ∧ s.dev.on
      (F.PG_LOCK_LOCK_BASIC (.LOOP e)) = false ∧ bitAt v.toNat 0 = true ∧ s.dev.loopClocked e = true ∧
      s.dev.loopsHeld = false ∧ (s.dev.eng e).prevStart ≠ some s.dev.now) ∧
    (∃ (e : Fin 8) (r : LoopRun) (arg : Nat) (s : State),
      let x := s.dev.cycleAt r.start (max (s.dev.cycleOf r.start s.dev.now) r.nextAdmit)
      (s.dev.eng e).run = some r ∧ r.ended = false ∧ r.flights = [] ∧ s.dev.loopClocked e = true ∧ s.dev.memory.bad =
      [] ∧ s.dev.entry s.mem e r.pc = (0, arg) ∧ x < r.deadline) ∧
    (∃ (e : Fin 8) (r : LoopRun) (s : State),
      (s.dev.eng e).run = some r) :=
  ⟨⟨7, st ((((eup 7 { startDue := true }).wr (F.LOOP_CTRL_EN 7) 1).setBit F.LOOP_SWAP_REQ 15).wr (F.LOOP_GRP_CFG_ENG
      15) 7), by decide +kernel⟩,
   ⟨7, st (eup 7 { startDue := true, run := some run0 }), by decide +kernel⟩,
   ⟨7, { run0 with flights := [fl0] }, st { (eup 7 { startDue := true, run := some { run0 with
      flights := [fl0] } }).wr (F.LOOP_CTRL_EN 7) 1 with now := 9 }, by decide +kernel⟩,
   ⟨0, 7, 0x01FF0003, st (eup 7 {}), acc (by decide +kernel), by decide +kernel⟩,
   ⟨7, run0, 0, st (eup 7 { run := some run0 }), by decide +kernel, by decide +kernel⟩,
   ⟨7, { run0 with flights := [fl0] }, st ((eup 7 { run := some { run0 with flights := [fl0] } }).wr
      (F.LOOP_XCFG_MISS_SRC 7) 1), by decide +kernel⟩⟩

/-- States and operands that meet the hypotheses of the clauses of `LoopCascades`. -/
theorem LoopCascades_hypotheses_met :
    (∃ (e : Fin 8) (r : LoopRun) (arg : Nat) (s : State),
      let c := max (s.dev.cycleOf r.start s.dev.now) r.nextAdmit
      (s.dev.eng e).run = some r ∧ r.ended = false ∧ r.window.length < 8 ∧ s.dev.loopClocked e = true ∧
      s.dev.memory.bad = [] ∧ s.dev.cycleAt r.start c < r.deadline ∧ s.dev.entry s.mem e r.pc = (1, arg) ∧
      s.dev.cascOk s.mem (arg % 1024) = true) ∧
    (∃ (e : Fin 8) (r : LoopRun) (arg : Nat) (s : State),
      let c := max (s.dev.cycleOf r.start s.dev.now) r.nextAdmit
      (s.dev.eng e).run = some r ∧ r.ended = false ∧ r.window.length < 8 ∧ s.dev.loopClocked e = true ∧
      s.dev.memory.bad = [] ∧ s.dev.cycleAt r.start c < r.deadline ∧ s.dev.entry s.mem e r.pc = (1, arg) ∧
      s.dev.cascOk s.mem (arg % 1024) = false) ∧
    (∃ (e : Fin 8) (r : LoopRun) (op arg : Nat) (s : State),
      let c := max (s.dev.cycleOf r.start s.dev.now) r.nextAdmit
      (s.dev.eng e).run = some r ∧ r.ended = false ∧ r.window.length < 8 ∧ s.dev.loopClocked e = true ∧
      s.dev.memory.bad = [] ∧ s.dev.cycleAt r.start c < r.deadline ∧ s.dev.entry s.mem e r.pc = (op, arg) ∧ 7 ≤ op) ∧
    (∃ (e : Fin 8) (r : LoopRun) (op arg : Nat) (s : State),
      let c := max (max (s.dev.cycleOf r.start s.dev.now) r.nextAdmit) (if op = 4 then arg % 2 ^ 18 else 0)
      let x := s.dev.cycleAt r.start c
      (s.dev.eng e).run = some r ∧ r.ended = false ∧ r.window.length < 8 ∧ s.dev.loopClocked e = true ∧ s.dev.entry
      s.mem e r.pc = (op, arg) ∧ 2 ≤ op ∧ op ≤ 5 ∧ x < r.deadline ∧ (s.dev.jumpTo x).waitOver r op arg = true) ∧
    (∃ (e : Fin 8) (r : LoopRun) (s : State),
      (s.dev.eng e).run = some r ∧ r.ended = false ∧ r.window.length < 8 ∧ s.dev.loopClocked e = true ∧ r.pc < 512 ∧
      s.dev.touchesBad (entryAddr e r.pc) 4 = true ∧ s.dev.cycleAt r.start (max (s.dev.cycleOf r.start s.dev.now)
      r.nextAdmit) < r.deadline) ∧
    (∃ (e : Fin 8) (r : LoopRun) (c : Nat) (f : Flight) (s : State),
      (s.dev.eng e).run = some r ∧ s.dev.issueAt r = some c ∧ r.window.find? (fun f => decide (f.readyAt ≤ c)) = some
      f ∧ s.dev.loopClocked e = true ∧ s.dev.cycleAt r.start c < r.deadline ∧ s.dev.memory.bad = []) ∧
    (∃ (e : Fin 8) (r : LoopRun) (f : Flight) (w : SecWork) (s : State),
      s.memWf ∧ (s.dev.eng e).run = some r ∧ r.flights = [f] ∧ f.issued = f.count ∧ f.work = [w] ∧ s.dev.loopClocked
      e = true ∧ max s.dev.now (s.dev.cycleAt r.start (f.lastIssue + 6)) < r.deadline) ∧
    (∃ (e : Fin 8) (l : Landing) (o : Nat) (s : State),
      (s.dev.eng e).landings = [l] ∧ s.dev.loopClocked e = true ∧ l.out = some o) :=
  ⟨⟨7, run0, 0x3FF, stm (eup 7 { run := some run0 }) [(entryAddr 7 3, [0xFF, 3, 0, 0x10]), (cascAddr 1023, [0xFF,
      0x0F, 1, 0])], by decide +kernel, by decide +kernel⟩,
   ⟨7, run0, 5, stm (eup 7 { run := some run0 }) [(entryAddr 7 3, [5, 0, 0, 0x10])], by decide +kernel, by
      decide +kernel⟩,
   ⟨7, run0, 15, 0, stm (eup 7 { run := some run0 }) [(entryAddr 7 3, [0, 0, 0, 0xF0])], by decide +kernel, by
      decide +kernel⟩,
   ⟨7, run0, 4, 3, stm (eup 7 { run := some run0 }) [(entryAddr 7 3, [3, 0, 0, 0x40])], by decide +kernel, by
      decide +kernel⟩,
   ⟨7, run0, st { eup 7 { run := some run0 } with memory := { sramOk := true, bad := [entryAddr 7 3 / 8 * 8] } }, by
      decide +kernel⟩,
   ⟨7, { run0 with flights := [fl0] }, 2, fl0, st (eup 7 { run := some { run0 with flights := [fl0] } }), by
      decide +kernel⟩,
   ⟨7, { run0 with flights := [{ fl0 with issued := 1, work := [work0] }] },
      { fl0 with issued := 1, work := [work0] }, work0, st (eup 7
      { run := some { run0 with flights := [{ fl0 with issued := 1, work := [work0] }] } }), by decide +kernel⟩,
   ⟨7, ⟨9, 1023, some 7, [(1, 511, 8)]⟩, 7, st (eup 7 { landings := [⟨9, 1023, some 7, [(1, 511, 8)]⟩] }), by
      decide +kernel⟩⟩

/-- States and operands that meet the hypotheses of the clauses of `LoopSwapsAndTraces`. -/
theorem LoopSwapsAndTraces_hypotheses_met :
    (∃ (m : Nat) (v : Word) (s : State),
      Accepts swapWrite m .LOOP_SWAP v.toNat s.dev) ∧
    (∃ (m : Nat) (g : Fin 16) (v : Word) (s : State),
      Accepts (grpCfgWrite g) m (.LOOP_GRP_CFG g) v.toNat s.dev ∧ s.dev.on (F.PG_LOCK_LOCK_BASIC (.LOOP 8)) = false ∧
      s.dev.bit F.LOOP_SWAP_REQ g = false) ∧
    (∃ (m : Nat) (g : Fin 16) (v : Word) (s : State),
      Accepts (grpCfgWrite g) m (.LOOP_GRP_CFG g) v.toNat s.dev ∧ s.dev.bit F.LOOP_SWAP_REQ g = true) ∧
    (∃ (m : Nat) (e : Fin 8) (v : Word) (s : State),
      Accepts (traceCtrlWrite e) m (.LOOP_TRACE_CTRL e) v.toNat s.dev ∧ (Instr.traceArm m e v).wf = true ∧ (s.dev.rd
      (F.LOOP_TRACE_STAT_STATE e) = 0 ∨ bitAt v.toNat 2 = true)) ∧
    (∃ (m : Nat) (e : Fin 8) (v : Word) (s : State),
      Accepts (traceCtrlWrite e) m (.LOOP_TRACE_CTRL e) v.toNat s.dev ∧ (Instr.traceArm m e v).wf = true ∧ s.dev.rd
      (F.LOOP_TRACE_STAT_STATE e) ≠ 0 ∧ bitAt v.toNat 2 = false) ∧
    (∃ (m : Nat) (e : Fin 8) (v : Word) (s : State),
      Accepts (traceCtrlWrite e) m (.LOOP_TRACE_CTRL e) v.toNat s.dev ∧ (Instr.traceStop m e v).wf = true) ∧
    (∃ (m : Nat) (e : Fin 8) (v : Word) (s : State),
      Accepts (traceCtrlWrite e) m (.LOOP_TRACE_CTRL e) v.toNat s.dev ∧ (Instr.traceForce m e v).wf = true) ∧
    (∃ (e : Fin 8) (x : RunEnd) (q : List RunEnd) (s : State),
      let n := s.dev.traceNodes e
      let a := traceBase + 0x10000 * e.val + traceSize n * s.dev.rd (F.LOOP_TRACE_STAT_WPTR e)
      s.memWf ∧ (s.dev.eng e).ended = x :: q ∧ s.dev.loopClocked e = true ∧ s.dev.rd (F.LOOP_TRACE_STAT_STATE e) = 1
      ∧ s.dev.rd (F.LOOP_TRACE_TRIG_KIND e) = 0 ∧ s.dev.on (F.LOOP_TRACE_CTRL_FORCE e) = false ∧ s.dev.rd
      (F.LOOP_TRACE_CFG_DECIM e) = 1) ∧
    (∃ (e : Fin 8) (x : RunEnd) (q : List RunEnd) (s : State),
      (s.dev.eng e).ended = x :: q ∧ s.dev.loopClocked e = true ∧ s.dev.rd (F.LOOP_TRACE_STAT_STATE e) = 1 ∧
      s.dev.traceTriggers e (s.dev.eng e).prevNode x = true) ∧
    (∃ (e : Fin 8) (x : RunEnd) (q : List RunEnd) (s : State),
      (s.dev.eng e).ended = x :: q ∧ s.dev.loopClocked e = true ∧ (s.dev.rd (F.LOOP_TRACE_STAT_STATE e) = 0 ∨
      s.dev.rd (F.LOOP_TRACE_STAT_STATE e) = 3)) ∧
    (∃ (m : Nat) (e : Fin 8) (w : Fin 19) (v : Word) (s : State),
      Accepts (traceCfgWrite e (traceReg e w)) m (traceReg e w) v.toNat s.dev ∧ (s.dev.rd (F.LOOP_TRACE_STAT_STATE e)
      = 0 ∨ s.dev.rd (F.LOOP_TRACE_STAT_STATE e) = 3)) ∧
    (∃ (m : Nat) (e : Fin 8) (w : Fin 19) (v : Word) (s : State),
      Accepts (traceCfgWrite e (traceReg e w)) m (traceReg e w) v.toNat s.dev ∧ (s.dev.rd (F.LOOP_TRACE_STAT_STATE e)
      = 1 ∨ s.dev.rd (F.LOOP_TRACE_STAT_STATE e) = 2)) ∧
    (∃ (m : Nat) (e : Fin 8) (s : State),
      Accepts (runmaxWrite e) m (.LOOP_RUNMAX e) (2 ^ 31) s.dev) ∧
    (∃ (m : Nat) (e : Fin 8) (s : State),
      Accepts (captureWrite (.LOOP_NANINFO e) none) m (.LOOP_NANINFO e) (2 ^ 31) s.dev ∧ (∀ x ∈ s.dev.captures, x.1 =
      .LOOP_NANINFO e → x.2.1 ≠ s.dev.now)) :=
  ⟨⟨0, 0x8001, st { eup 7 {} with now := 6 }, acc (by decide +kernel)⟩,
   ⟨0, 15, 0x27, st (eup 7 {}), acc (by decide +kernel), by decide +kernel⟩,
   ⟨0, 15, 0x27, st ((eup 7 {}).setBit F.LOOP_SWAP_REQ 15), acc (by decide +kernel), by decide +kernel⟩,
   ⟨0, 7, 1, st (eup 7 {}), acc (by decide +kernel), by decide +kernel⟩,
   ⟨0, 7, 1, st ((eup 7 {}).wr (F.LOOP_TRACE_STAT_STATE 7) 1), acc (by decide +kernel), by decide +kernel⟩,
   ⟨0, 7, 4, st ((eup 7 { ended := [end0] }).wr (F.LOOP_TRACE_STAT_STATE 7) 2), acc (by decide +kernel), by
      decide +kernel⟩,
   ⟨0, 7, 2, st (eup 7 {}), acc (by decide +kernel), by decide +kernel⟩,
   ⟨7, end0, [], st ((((eup 7 { ended := [end0] }).wr (F.LOOP_TRACE_STAT_STATE 7) 1).wr (F.LOOP_TRACE_CFG_DECIM 7)
      1).wr (F.LOOP_TRACE_STAT_WPTR 7) 2047), by decide +kernel, by decide +kernel⟩,
   ⟨7, end0, [], st (((eup 7 { ended := [end0] }).wr (F.LOOP_TRACE_STAT_STATE 7) 1).wr (F.LOOP_TRACE_CTRL_FORCE 7)
      1), by decide +kernel⟩,
   ⟨7, end0, [], st (eup 7 { ended := [end0] }), by decide +kernel⟩,
   ⟨0, 7, 18, 0xFF, st ((eup 7 {}).wr (F.LOOP_TRACE_STAT_STATE 7) 3), acc (by decide +kernel), by decide +kernel⟩,
   ⟨0, 7, 0, 0xFF, st ((eup 7 {}).wr (F.LOOP_TRACE_STAT_STATE 7) 2), acc (by decide +kernel), by decide +kernel⟩,
   ⟨0, 7, st ((eup 7 {}).wr (F.LOOP_RUNMAX_MAX 7) 9), acc (by decide +kernel)⟩,
   ⟨0, 7, st ((eup 7 {}).setWord (.LOOP_NANINFO 7) 0x80010002), acc (by decide +kernel), by decide +kernel⟩⟩

end Hyps09

namespace Hyps10

/-- A part of the states below: tup. -/
def tup : Dev := up.wr (F.PG_CTRL_ENABLE (.TANDEM 0)) 1

/-- A part of the states below: role. -/
def role (r : Nat) (d : Dev) : Dev := d.wr F.SAFE_CLAIM_STAT_ROLE r

/-- A part of the states below: ready. -/
def ready : Dev :=
      ((((((role 3 tup).wr F.SAFE_CLAIM_CTRL_TAKE_EN 1).wr F.CLK_PLLM_STAT_READY 1).wr F.TANDEM_STAT_TF_OK 1).wr
      F.TANDEM_LINK_P_ROLE 2).wr F.TANDEM_LINK_P_RESIGN 1).wr (F.PG_CTRL_ENABLE (.RIM 31)) 1

/-- A part of the states below: seenHb. -/
def seenHb (d : Dev) : Dev := { d with tandem := { d.tandem with hbSeen := true } }

/-- A part of the states below: hb0. -/
def hb0 : HbRec := ⟨9, 12, 2, 7, 5, 1, 2, 3, 4, 5, 6, 7, 8, 9, 10, []⟩

/-- A part of the states below: quietEng. -/
def quietEng : List (Nat × Engine) := [(0, { prevStart := some 0, gap := 5000, runs := 3 })]

/-- A frame of a partner with claim 9, and no record. -/
def peer0 : List RimBlock :=
  let l : List (BitVec 8) := [1, 0] ++ beBytes 6 9 ++ [0, 24, 0, 0, 0, 0, 0xFF, 0] ++ beBytes 4 0
  frameWire (l ++ beBytes 4 (crc32c l))

/-- A part of the states below: stby. -/
def stby : Dev :=
      { (((role 3 tup).wr F.TANDEM_MBUF_VAL 0x20000040).wr F.TANDEM_MBUF_SIZE_VAL 0x1000).wr F.TANDEM_MSTAT_EBYTES 16 with memory := { sramOk := true } }

/-- States and operands that meet the hypotheses of the clauses of `ClaimsAndRoles`. -/
theorem ClaimsAndRoles_hypotheses_met :
    (∃ (m : Nat) (v : Word) (s : State),
      Accepts claimCtrlWrite m .SAFE_CLAIM_CTRL v.toNat s.dev ∧ (Instr.claimLearn m v).wf = true) ∧
    (∃ (m : Nat) (v : Word) (s : State),
      Accepts claimCtrlWrite m .SAFE_CLAIM_CTRL v.toNat s.dev ∧ (Instr.resign m v).wf = true) ∧
    (∃ (s : State),
      s.dev.role = 1) ∧
    (∃ (c : Nat) (s : State),
      s.dev.tandemOn = true ∧ s.dev.takeReady = true ∧ s.dev.enabledRims ≠ [] ∧ ((s.dev.on F.TANDEM_LINK_HB_SILENT =
      true ∧ s.dev.enabledRims.length < 2 * s.dev.nSilent) ∨ s.dev.partnerResigns = true) ∧ s.dev.nextClaim = some c) ∧
    (∃ (s : State),
      s.dev.tandemOn = true ∧ s.dev.takeReady = true ∧ s.dev.enabledRims ≠ [] ∧ ((s.dev.on F.TANDEM_LINK_HB_SILENT =
      true ∧ s.dev.enabledRims.length < 2 * s.dev.nSilent) ∨ s.dev.partnerResigns = true) ∧ s.dev.nextClaim = none) ∧
    (∃ (s : State),
      s.dev.role = 4) ∧
    (∃ (s : State),
      s.dev.role = 3 ∧ s.dev.claim ≠ 0 ∧ s.dev.on F.SAFE_CLAIM_CTRL_RELINQ_EN = true) ∧
    (∃ (s : State),
      s.dev.role = 2 ∧ s.dev.on F.SAFE_CLAIM_CTRL_RESIGN = true) :=
  ⟨⟨4, 0x400, st (rimUp 31), acc (by decide +kernel), by decide +kernel⟩,
   ⟨4, 0x200, st (role 2 tup), acc (by decide +kernel), by decide +kernel⟩,
   ⟨st { role 1 (rimUp 31) with tandem := { partnerSeen := true, pRole := 2, learnAt := 5 } }, by decide +kernel⟩,
   ⟨2, st (seenHb ready), by decide +kernel⟩,
   ⟨st ((seenHb ready).wr64 F.SAFE_SEEN_LO_SEEN F.SAFE_SEEN_HI_SEEN 0xFFFFFFFFFFFF), by decide +kernel⟩,
   ⟨st { role 4 (rimUp 31) with rims := [(31, { freeAt := 9 })] }, by decide +kernel⟩,
   ⟨st { ((role 3 tup).wr F.SAFE_CLAIM_LO_CLAIM 4).wr F.SAFE_CLAIM_CTRL_RELINQ_EN 1 with
      tandem := { ownSeen := true, ownAt := 3 } }, by decide +kernel⟩,
   ⟨st ((role 2 tup).wr F.SAFE_CLAIM_CTRL_RESIGN 1), by decide +kernel⟩⟩

/-- States and operands that meet the hypotheses of the clauses of `TandemLink`. -/
theorem TandemLink_hypotheses_met :
    (∃ (lane : Fin 2) (off : Fin 251) (s : State),
      s.dev.tandemOn = true ∧ s.dev.time.running = true ∧ (lane.val = 0 → s.dev.on F.TANDEM_CFG_L0_EN = true) ∧
      (lane.val = 1 → s.dev.on F.TANDEM_CFG_L1_EN = true)) ∧
    (∃ (lane : Fin 2) (hb : HbRec) (ago : Nat) (s : State),
      s.dev.tandemOn = true ∧ s.dev.laneUp lane = true) ∧
    (∃ (s : State),
      s.dev.on F.TANDEM_LINK_HB_SILENT = false) ∧
    (∃ (s : State),
      s.dev.on F.TANDEM_STAT_TF_OK = true) ∧
    (∃ (n : Fin 32) (tr : Nat) (a : Nat × Nat) (s : State),
      s.dev.trans n = some tr ∧ s.dev.tandem.peerAt.find? (fun e => e.1 == n.val) = some a ∧ s.dev.rimOn n = true ∧
      s.dev.tandemOn = true ∧ s.dev.bit F.TANDEM_SILENT_RIMS n = false) ∧
    (∃ (n : Fin 32) (b : RimBlock) (bs : List RimBlock) (sof tp : Nat) (s : State),
      s.dev.rimOn n = true ∧ parsePeer (b :: bs) = none) ∧
    (∃ (n : Fin 32) (b : RimBlock) (bs : List RimBlock) (c unit : Nat) (time : Option Nat) (sof tp : Nat) (s : State),
      s.dev.rimOn n = true ∧ parsePeer (b :: bs) = some (.frame c unit time) ∧ unit ≠ s.dev.tid) ∧
    (∃ (n : Fin 32) (b : RimBlock) (bs : List RimBlock) (c sof tp : Nat) (s : State),
      s.dev.rimOn n = true ∧ parsePeer (b :: bs) = some (.pair c)) ∧
    (∃ (n : Fin 32) (b : RimBlock) (bs : List RimBlock) (c : Nat) (time : Option Nat) (sof tp : Nat) (s : State),
      s.dev.rimOn n = true ∧ parsePeer (b :: bs) = some (.frame c s.dev.tid time)) ∧
    (∃ (l : Fin 1024) (dir : Fin 2) (adt : BitVec 12) (fb : Bool) (s : State),
      s.dev.tandemOn = true ∧ s.dev.role = 3) ∧
    (∃ (mask : BitVec 16) (s : State),
      s.dev.tandemOn = true ∧ s.dev.role = 3) ∧
    (∃ (lane : Fin 2) (lock : Bool) (s : State),
      s.dev.tandemOn = true) :=
  ⟨⟨1, 250, st { tup.wr F.TANDEM_CFG_L1_EN 1 with time := { running := true } }, by decide +kernel⟩,
   ⟨0, hb0, 77, st (((role 2 tup).wr F.TANDEM_CFG_L0_EN 1).wr F.TANDEM_LINK_L0_LOCK 1), by decide +kernel⟩,
   ⟨st (tup.wr F.TANDEM_LINK_HB_SILENT 0), by decide +kernel⟩,
   ⟨st ((role 3 tup).wr F.TANDEM_STAT_TF_OK 1), by decide +kernel⟩,
   ⟨31, 1, (31, 5000), st
      { ((tup.wr F.TANDEM_SILENT_RIMS 0).wr (F.PG_CTRL_ENABLE (.RIM 31)) 1).wr (F.SPOKE_STATE_STATE 248) 3 with
      spokes := [(248, { calDone := true })], tandem := { rimd := List.replicate 32 1, peerAt := [(31, 5000)] } }, by
      decide +kernel⟩,
   ⟨31, ⟨true, 0⟩, [], 0, 0, st (rimUp 31), by decide +kernel⟩,
   ⟨31, sofBlock, peer0.tail, 9, 0, none, 0, 0, st ((rimUp 31).wr F.RST_STRAP_TANDEM_ID 1), by decide +kernel⟩,
   ⟨31, (pairWire (blockPair 9 false)).headD sofBlock, (pairWire (blockPair 9 false)).tail, 9, 0, 0, st (rimUp 31), by decide +kernel⟩,
   ⟨31, sofBlock, peer0.tail, 9, none, 0, 0, st (rimUp 31), by decide +kernel⟩,
   ⟨1023, 1, 4095, true, st (role 3 tup), by decide +kernel⟩,
   ⟨0x8001, st { role 3 tup with now := 9 }, by decide +kernel⟩,
   ⟨1, true, st tup, by decide +kernel⟩⟩

/-- States and operands that meet the hypotheses of the clauses of `Mirror`. -/
theorem Mirror_hypotheses_met :
    (∃ (m : Nat) (v : Word) (l : List MirrorEntry) (s : State),
      Accepts (mctrlWrite s.mem) m .TANDEM_MCTRL v.toNat s.dev ∧ (Instr.mirrorListLoad m v).wf = true ∧ s.dev.rd
      F.TANDEM_MIRROR_LIST_VAL % 8 = 0 ∧ s.dev.rd F.TANDEM_MLIST_CNT_VAL ≤ 1024 ∧ s.dev.mirrorError (s.dev.rd
      F.TANDEM_MIRROR_LIST_VAL) (8 * s.dev.rd F.TANDEM_MLIST_CNT_VAL) false = none ∧ readList s.dev s.mem (s.dev.rd
      F.TANDEM_MIRROR_LIST_VAL) (s.dev.rd F.TANDEM_MLIST_CNT_VAL) = some l ∧ (l.map MirrorEntry.bytes).foldl (· + ·)
      0 ≤ 1048576) ∧
    (∃ (m : Nat) (v : Word) (s : State),
      Accepts (mctrlWrite s.mem) m .TANDEM_MCTRL v.toNat s.dev ∧ (Instr.mirrorListLoad m v).wf = true ∧ 1024 <
      s.dev.rd F.TANDEM_MLIST_CNT_VAL) ∧
    (∃ (s : State),
      s.dev.tandemOn = true ∧ s.dev.role = 2 ∧ s.dev.on F.TANDEM_MCFG_MEN = true ∧ s.dev.on F.TANDEM_MSTAT_LIST_OK =
      true ∧ s.dev.on F.TANDEM_LINK_HB_SILENT = false ∧ s.dev.rd F.TANDEM_LINK_P_ROLE = 3 ∧ s.dev.quiet = true ∧
      s.dev.rd (F.LOOP_CNT_RUNS s.dev.refEngine) % max 1 (s.dev.rd F.TANDEM_MCFG_N) = 0 ∧ s.dev.tandem.capRun ≠ some
      (s.dev.eng s.dev.refEngine).runs ∧ s.dev.on F.TANDEM_MSTAT_STREAMING = false ∧ s.dev.listError false = none) ∧
    (∃ (s : State),
      s.dev.tandem.sending = true ∧ s.dev.tandemOn = true) ∧
    (∃ (off : BitVec 32) (data : List (BitVec 8)) (s : State),
      let a := s.dev.halfAt s.dev.tandem.rxHalf + off.toNat
      s.memWf ∧ s.dev.tandemOn = true ∧ s.dev.role = 3 ∧ s.dev.bufferFits = true ∧ off.toNat + data.length ≤ s.dev.rd
      F.TANDEM_MSTAT_EBYTES ∧ s.dev.mirrorError a data.length true = none ∧ sramBase ≤ a ∧ a + data.length ≤ sramBase
      + 0x1800000) ∧
    (∃ (off : BitVec 32) (data : List (BitVec 8)) (s : State),
      s.dev.tandemOn = true ∧ s.dev.role = 3 ∧ s.dev.bufferFits = false) ∧
    (∃ (epoch ns sec ebytes crc : BitVec 32) (s : State),
      s.dev.tandemOn = true ∧ s.dev.role = 3 ∧ s.dev.bufferFits = true ∧ ebytes.toNat = s.dev.rd
      F.TANDEM_MSTAT_EBYTES ∧ crc32c (readBytes s.dev s.mem 10 (s.dev.halfAt s.dev.tandem.rxHalf) (s.dev.rd
      F.TANDEM_MSTAT_EBYTES)) = crc.toNat) ∧
    (∃ (epoch ns sec ebytes crc : BitVec 32) (s : State),
      s.dev.tandemOn = true ∧ s.dev.role = 3 ∧ s.dev.bufferFits = true ∧ ebytes.toNat ≠ s.dev.rd
      F.TANDEM_MSTAT_EBYTES) ∧
    (∃ (s : State),
      s.dev.tandemOn = true ∧ s.dev.role = 3 ∧ s.dev.tandem.rxReady = true ∧ s.dev.on F.TANDEM_MSTAT_APPLYING = false
      ∧ -100 ≤ s.dev.startGap (s.dev.eng s.dev.refEngine) ∧ s.dev.startGap (s.dev.eng s.dev.refEngine) ≤ 100 ∧
      s.dev.quiet = true ∧ s.dev.now + s.dev.applyNs + 500 ≤ (s.dev.eng s.dev.refEngine).prevStart.getD 0 +
      (s.dev.eng s.dev.refEngine).gap) ∧
    (∃ (s : State),
      s.dev.tandemOn = true ∧ s.dev.role = 3 ∧ s.dev.tandem.rxReady = true ∧ s.dev.on F.TANDEM_MSTAT_APPLYING = false
      ∧ -100 ≤ s.dev.startGap (s.dev.eng s.dev.refEngine) ∧ (100 < s.dev.startGap (s.dev.eng s.dev.refEngine) ∨
      s.dev.tandem.quietOver = some (s.dev.eng s.dev.refEngine).runs)) ∧
    (∃ (s : State),
      s.memWf ∧ s.dev.on F.TANDEM_MSTAT_APPLYING = true ∧ s.dev.listError true = none) :=
  ⟨⟨0, 1, [⟨0x20000000, 0, 16⟩], stm ((tup.wr F.TANDEM_MIRROR_LIST_VAL 0x20000100).wr F.TANDEM_MLIST_CNT_VAL 1)
      [(0x20000100, [0, 0, 0, 0x20, 16, 0, 0, 0x80])], acc (by decide +kernel), by decide +kernel⟩,
   ⟨0, 1, st (tup.wr F.TANDEM_MLIST_CNT_VAL 1025), acc (by decide +kernel), by decide +kernel⟩,
   ⟨st
      { (((((role 2 tup).wr F.TANDEM_LINK_HB_SILENT 0).wr F.TANDEM_MCFG_ENGMASK 1).wr F.TANDEM_MCFG_MEN 1).wr F.TANDEM_MSTAT_LIST_OK 1).wr F.TANDEM_LINK_P_ROLE 3 with
      loop := { engines := quietEng }, tandem := { list := [⟨0x20000000, 0, 16⟩] } }, by decide +kernel⟩,
   ⟨st { role 2 tup with tandem := { sending := true } }, by decide +kernel⟩,
   ⟨8, [1, 2, 3, 4, 5, 6, 7, 8], st stby, by decide +kernel, by decide +kernel⟩,
   ⟨8, [1], st (stby.wr F.TANDEM_MBUF_SIZE_VAL 95), by decide +kernel⟩,
   ⟨3, 1, 2, 16, BitVec.ofNat 32 (crc32c (List.replicate 16 0)), st stby, by decide +kernel⟩,
   ⟨3, 1, 2, 17, 0, st stby, by decide +kernel⟩,
   ⟨st { stby.wr F.TANDEM_MCFG_ENGMASK 1 with loop := { engines := quietEng }, tandem := { rxReady := true } }, by
      decide +kernel⟩,
   ⟨st { stby.wr F.TANDEM_MCFG_ENGMASK 1 with
      loop := { engines := quietEng }, tandem := { rxReady := true, quietOver := some 3 } }, by decide +kernel⟩,
   ⟨stm { stby.wr F.TANDEM_MSTAT_APPLYING 1 with tandem := { list := [⟨0x20000000, 0, 16⟩], rxHalf := 1 } }
      [(0x20000040, [1,2,3])], by decide +kernel⟩⟩

end Hyps10

namespace Hyps11

/-- A part of the states below: thr. -/
def thr : Dev := { up with clk := { up.clk with pllS := { up.clk.pllS with released := true } } }

/-- A part of the states below: T24. -/
def T24 : List Int := List.replicate 24 400

/-- A part of the states below: fst. -/
def fst (d : Dev) : Dev := (d.wr F.FC_STATE_STATE 1).wr F.FC_STATE_LEVEL 4

/-- States and operands that meet the hypotheses of the clauses of `FaultCollector`. -/
theorem FaultCollector_hypotheses_met :
    (∃ (m : Nat) (s : State),
      Accepts fcCtrlWrite m .FC_CTRL 1 s.dev ∧ s.dev.on F.FC_STATE_STATE = true ∧ s.dev.assertedFrom 4 = false) ∧
    (∃ (m : Nat) (s : State),
      Accepts fcCtrlWrite m .FC_CTRL 1 s.dev ∧ s.dev.on F.FC_STATE_STATE = true ∧ s.dev.assertedFrom 4 = true) ∧
    (∃ (m : Nat) (s : State),
      Accepts fcCtrlWrite m .FC_CTRL 1 s.dev ∧ s.dev.rd F.FC_STATE_STATE = 0) ∧
    (∃ (m : Nat) (s : State),
      Accepts fcCtrlWrite m .FC_CTRL 2 s.dev) ∧
    (∃ (m : Nat) (s : State),
      Accepts fcCtrlWrite m .FC_CTRL 4 s.dev) ∧
    (∃ (m : Nat) (hi : Bool) (v : Word) (s : State),
      let r := half hi .FC_FORCE_LO .FC_FORCE_HI
      Accepts (forceWrite r) m r v.toNat s.dev) ∧
    (∃ (m : Nat) (hi : Bool) (v : Word) (s : State),
      let r := half hi .SYS_TFORCE_LO .SYS_TFORCE_HI
      Accepts (forceWrite r) m r v.toNat s.dev ∧ s.dev.basicLocked r.page = false) ∧
    (∃ (m : Nat) (hi : Bool) (v : Word) (s : State),
      s.dev.canIssue m = true ∧ s.dev.allowed m (.reg (half hi .SYS_TFORCE_LO .SYS_TFORCE_HI)) true = true ∧ s.dev.on
      F.FC_STAT_TEST_FORCE_EN = false) ∧
    (∃ (m : Nat) (hi : Bool) (v : Word) (s : State),
      let r := half hi .FC_SCORE_LO .FC_SCORE_HI
      Accepts (scoreWrite hi) m r v.toNat s.dev) ∧
    (∃ (m : Nat) (n : Fin 64) (v : Word) (s : State),
      Accepts (classWrite n) m (.FC_CLASS n) v.toNat s.dev) ∧
    (∃ (m : Nat) (s : State),
      Accepts (captureWrite .FC_FIRST none) m .FC_FIRST (2 ^ 31) s.dev ∧ (∀ x ∈ s.dev.captures, x.1 = .FC_FIRST →
      x.2.1 ≠ s.dev.now)) ∧
    (∃ (s : State),
      s.dev.rd F.FC_STATE_STATE = 1 ∧ s.dev.assertedFrom 4 = false) :=
  ⟨⟨4, st ((fst up).wr F.FC_HELD_LO_HELD 3), acc (by decide +kernel), by decide +kernel⟩,
   ⟨4, st { (fst up).wr (F.FC_CLASS_CLASS 63) 4 with fc := { cond := 2 ^ 63 } }, acc (by decide +kernel), by
      decide +kernel⟩,
   ⟨4, st up, acc (by decide +kernel), by decide +kernel⟩,
   ⟨4, st { up with fc := { reactBlock := true } }, acc (by decide +kernel)⟩,
   ⟨4, st up, acc (by decide +kernel)⟩,
   ⟨4, true, 0x80000001, st up, acc (by decide +kernel)⟩,
   ⟨0, true, 0x80000000, st (up.wr F.FC_STAT_TEST_FORCE_EN 1), acc (by decide +kernel), by decide +kernel⟩,
   ⟨0, false, 1, st up, by decide +kernel⟩,
   ⟨4, true, 0xFFFFFFFF, st { up.wr F.FC_SCORE_HI_SCORE 0xC0000000 with now := 9, fc := { cond := 2 ^ 63 } }, acc (by
      decide +kernel)⟩,
   ⟨4, 63, 0, st (up.wr (F.FC_CLASS_MIN 63) 3), acc (by decide +kernel)⟩,
   ⟨4, st (up.setWord .FC_FIRST 0x80000003), acc (by decide +kernel), by decide +kernel⟩,
   ⟨st { fst up with fc := { quietSince := 4 } }, by decide +kernel⟩⟩

/-- States and operands that meet the hypotheses of the clauses of `TripsAliveAndCores`. -/
theorem TripsAliveAndCores_hypotheses_met :
    (∃ (m : Nat) (v : Word) (s : State),
      Accepts tripWrite m .SAFE_TRIP v.toNat s.dev) ∧
    (∃ (n : Fin 8) (s : State),
      s.dev.bit F.SAFE_TRIP_STAT_PEND_CLR n = true) ∧
    (∃ (m : Nat) (v : Word) (s : State),
      Accepts tripCfgWrite m .SAFE_TRIP_CFG v.toNat s.dev) ∧
    (∃ (m : Nat) (v : Word) (s : State),
      Accepts (landFirstWrite (plainEffect .SAFE_BLOCK)) m .SAFE_BLOCK v.toNat s.dev) ∧
    (∃ (m : Nat) (v : Word) (s : State),
      Accepts aliveKickWrite m .SAFE_ALIVE_KICK v.toNat s.dev) ∧
    (∃ (s : State),
      s.dev.domUp domSAFE = true ∧ s.dev.aliveHolds s.dev.now = true ∧ s.dev.aliveHolds (max s.dev.now
      (s.dev.fc.aliveAt + s.dev.aliveHalf)) = true) ∧
    (∃ (s : State),
      s.dev.on F.SAFE_ALIVE_KICK_EN = true ∧ s.dev.fc.kickLate = false) ∧
    (∃ (s : State),
      s.dev.on F.PROT_STAT_RUNNING = true ∧ s.dev.on F.PROT_STAT_HALTED = false) ∧
    (∃ (core : Fin 4) (s : State),
      s.dev.coreRuns core = true) ∧
    (∃ (core : Fin 4) (l2 : Bool) (s : State),
      s.dev.coreRuns core = true) :=
  ⟨⟨4, 0x81, st ((up.wr F.SAFE_TRIP_ASSERT 2).wr F.SAFE_TRIP_CFG_MIN 255), acc (by decide +kernel)⟩,
   ⟨7, st ((up.wr F.SAFE_TRIP_ASSERT 0x82).wr F.SAFE_TRIP_STAT_PEND_CLR 0x80), by decide +kernel⟩,
   ⟨4, 0xFF81, st up, acc (by decide +kernel)⟩,
   ⟨4, 0x80000001, st up, acc (by decide +kernel)⟩,
   ⟨4, 1, st up, acc (by decide +kernel)⟩,
   ⟨st { up.wr F.SAFE_ALIVE_EN 1 with fc := { aliveOn := true } }, by decide +kernel⟩,
   ⟨st (up.wr F.SAFE_ALIVE_KICK_EN 1), by decide +kernel⟩,
   ⟨st (up.wr F.PROT_STAT_RUNNING 1), by decide +kernel⟩,
   ⟨3, st up, by decide +kernel⟩,
   ⟨3, true, st up, by decide +kernel⟩⟩

/-- States and operands that meet the hypotheses of the clauses of `Temperatures`. -/
theorem Temperatures_hypotheses_met :
    (∃ (l : List (BitVec 16)) (s : State),
      s.dev.senses = true ∧ s.dev.therm.sampled = false) ∧
    (∃ (s : State),
      let r := readingOf s.dev.therm.sample
      s.dev.senses = true ∧ s.dev.therm.sampled = true) ∧
    (∃ (s : State),
      s.dev.therm.shutPend = true) ∧
    (∃ (m : Nat) (v : Word) (s : State),
      Accepts (throttleWrite .THERM_THROTTLE) m .THERM_THROTTLE v.toNat s.dev) ∧
    (∃ (m : Nat) (v : Word) (s : State),
      Accepts (throttleWrite .SYS_THROTTLE_REQ) m .SYS_THROTTLE_REQ v.toNat s.dev ∧ s.dev.basicLocked (.SYS 0) =
      false) :=
  ⟨⟨List.replicate 24 400, st { thr with now := 0 }, by decide +kernel⟩,
   ⟨st { thr with now := 0, therm := { sampled := true, sample := T24 } }, by decide +kernel, by decide +kernel⟩,
   ⟨st { up with therm := { shutPend := true, shutAt := 3 } }, by decide +kernel⟩,
   ⟨4, 0x107, st (up.wr F.SYS_THROTTLE_REQ_LEVEL 2), acc (by decide +kernel)⟩,
   ⟨0, 7, st up, acc (by decide +kernel), by decide +kernel⟩⟩

end Hyps11

namespace Hyps12

/-- A part of the states below: xup. -/
def xup : Dev := up.wr (F.PG_CTRL_ENABLE .XSPI) 1

/-- A part of the states below: xlen. -/
def xlen (n : Nat) : Dev := xup.wr F.XSPI_LEN_VAL n

/-- A part of the states below: xfifo. -/
def xfifo (n : Nat) (d : Dev) : Dev := { d with xspi := { fifo := List.replicate n 5 } }

/-- A part of the states below: xcmd. -/
def xcmd (c : XspiCmd) : Dev := { xup.wr F.XSPI_STAT_BUSY 1 with xspi := { cmd := some c } }

/-- States and operands that meet the hypotheses of the clauses of `MemoriesAndScrubbers`. -/
theorem MemoriesAndScrubbers_hypotheses_met :
    (∃ (x : Nat) (s : State),
      s.dev.memory.clearAt = some x) ∧
    (∃ (x : Nat) (s : State),
      s.dev.rst.safeClearAt = some x) ∧
    (∃ (err : Option Bool) (s : State),
      let i := if s.dev.memory.scrub < s.dev.scrubWords then s.dev.memory.scrub else 0
      let w := physAddr (scrubAddr i)
      s.dev.on F.SYS_SCRUB_CFG_EN = true ∧ s.dev.domUp domMEM = true ∧ s.dev.busRuns = true ∧ s.dev.memory.sramOk =
      true) ∧
    (∃ (err : Option Bool) (s : State),
      let w := physAddr (safetyScrubAddr s.dev.memory.sscrub)
      s.dev.domUp domSAFE = true ∧ s.dev.safeRuns = true ∧ s.dev.rst.safeReady = true) ∧
    (∃ (m : Nat) (s : State),
      Accepts (captureWrite .SYS_ECC_INFO (some F.SYS_ECC_INFO_COUNT)) m .SYS_ECC_INFO (2 ^ 31) s.dev ∧ (∀ e ∈
      s.dev.captures, e.1 = .SYS_ECC_INFO → e.2.1 ≠ s.dev.now)) :=
  ⟨⟨5, stm { up with memory := { clearAt := some 5, bad := [0x20000000] } } [(0x20000000, [1]), (0x217FFFFF, [1]),
      (0x10000000, [1]), (0x42000000, [2])], by decide +kernel⟩,
   ⟨5, stm { up with rst := { up.rst with safeClearAt := some 5, stgReady := false } } [(0x1007FFFF, [1]),
      (0x10080000, [2]), (0x20000000, [3])], by decide +kernel⟩,
   ⟨some true, st (up.wr F.SYS_SCRUB_CFG_EN 1), by decide +kernel, by decide +kernel⟩,
   ⟨some true, st { up with memory := { sscrub := 73727 } }, by decide +kernel, by decide +kernel⟩,
   ⟨0, st (up.setWord .SYS_ECC_INFO 0x80010001), acc (by decide +kernel), by decide +kernel⟩⟩

/-- States and operands that meet the hypotheses of the clauses of `FlashInterface`. -/
theorem FlashInterface_hypotheses_met :
    (∃ (m : Nat) (v : Word) (data : List (BitVec 8)) (s : State),
      let len := s.dev.rd F.XSPI_LEN_VAL
      Accepts (xspiCmdWrite data) m .XSPI_CMD v.toNat s.dev ∧ (Instr.xspiRead m v data).wf = true ∧ s.dev.basicLocked
      .XSPI = false ∧ s.dev.on F.XSPI_STAT_BUSY = false ∧ s.dev.xspi.fifo = [] ∧ xspiLenOk 0 0 0 len = true ∧ min len
      256 ≤ data.length) ∧
    (∃ (m : Nat) (v : Word) (data : List (BitVec 8)) (s : State),
      let len := s.dev.rd F.XSPI_LEN_VAL
      Accepts (xspiCmdWrite data) m .XSPI_CMD v.toNat s.dev ∧ (Instr.xspiRegRd m v data).wf = true ∧
      s.dev.basicLocked .XSPI = false ∧ s.dev.on F.XSPI_STAT_BUSY = false ∧ s.dev.xspi.fifo = [] ∧ 1 ≤ len ∧ len ≤ 8
      ∧ len ≤ data.length) ∧
    (∃ (m : Nat) (v : Word) (s : State),
      let len := s.dev.rd F.XSPI_LEN_VAL
      let addr := s.dev.rd F.XSPI_ADDR_VAL
      let n := min len s.dev.xspi.fifo.length
      Accepts (xspiCmdWrite []) m .XSPI_CMD v.toNat s.dev ∧ (Instr.xspiProg m v).wf = true ∧ s.dev.basicLocked .XSPI
      = false ∧ s.dev.on F.XSPI_STAT_BUSY = false ∧ xspiLenOk 1 addr (s.dev.rd F.XSPI_CFG_PAGE) len = true ∧
      (s.dev.on F.XSPI_CFG_PROT_BOOTED = false ∨ s.dev.inBooted addr len = false)) ∧
    (∃ (m : Nat) (v : Word) (s : State),
      let len := s.dev.rd F.XSPI_LEN_VAL
      let addr := s.dev.rd F.XSPI_ADDR_VAL
      Accepts (xspiCmdWrite []) m .XSPI_CMD v.toNat s.dev ∧ (Instr.xspiProg m v).wf = true ∧ s.dev.basicLocked .XSPI
      = false ∧ s.dev.on F.XSPI_STAT_BUSY = false ∧ xspiLenOk 1 addr (s.dev.rd F.XSPI_CFG_PAGE) len = true ∧ s.dev.on
      F.XSPI_CFG_PROT_BOOTED = true ∧ s.dev.inBooted addr len = true) ∧
    (∃ (m : Nat) (v : Word) (s : State),
      let addr := s.dev.rd F.XSPI_ADDR_VAL
      Accepts (xspiCmdWrite []) m .XSPI_CMD v.toNat s.dev ∧ (Instr.xspiErase m v).wf = true ∧ s.dev.basicLocked .XSPI
      = false ∧ s.dev.on F.XSPI_STAT_BUSY = false) ∧
    (∃ (m : Nat) (v : Word) (s : State),
      let n := min (s.dev.rd F.XSPI_LEN_VAL) s.dev.xspi.fifo.length
      Accepts (xspiCmdWrite []) m .XSPI_CMD v.toNat s.dev ∧ (Instr.xspiRegWr m v).wf = true ∧ s.dev.basicLocked .XSPI
      = false ∧ s.dev.on F.XSPI_STAT_BUSY = false ∧ s.dev.rd F.XSPI_LEN_VAL ≤ 8) ∧
    (∃ (m : Nat) (v : Word) (data : List (BitVec 8)) (s : State) (c : Instr) (kind : Nat),
      Accepts (xspiCmdWrite data) m .XSPI_CMD v.toNat s.dev ∧ c.wf = true ∧ s.dev.basicLocked .XSPI = false ∧
      s.dev.on F.XSPI_STAT_BUSY = false ∧ xspiLenOk kind (s.dev.rd F.XSPI_ADDR_VAL) (s.dev.rd F.XSPI_CFG_PAGE)
      (s.dev.rd F.XSPI_LEN_VAL) = false ∧ ((c = .xspiRead m v data ∧ kind = 0) ∨ (c = .xspiRegRd m v data ∧ kind =
      3))) ∧
    (∃ (m : Nat) (v : Word) (s : State) (c : Instr) (kind : Nat),
      Accepts (xspiCmdWrite []) m .XSPI_CMD v.toNat s.dev ∧ c.wf = true ∧ s.dev.basicLocked .XSPI = false ∧ s.dev.on
      F.XSPI_STAT_BUSY = false ∧ xspiLenOk kind (s.dev.rd F.XSPI_ADDR_VAL) (s.dev.rd F.XSPI_CFG_PAGE) (s.dev.rd
      F.XSPI_LEN_VAL) = false ∧ ((c = .xspiProg m v ∧ kind = 1) ∨ (c = .xspiRegWr m v ∧ kind = 4))) ∧
    (∃ (m : Nat) (v : Word) (data : List (BitVec 8)) (s : State),
      Accepts (xspiCmdWrite data) m .XSPI_CMD v.toNat s.dev ∧ s.dev.on F.XSPI_STAT_BUSY = true) ∧
    (∃ (m : Nat) (v : Word) (s : State),
      Accepts (xspiCmdWrite []) m .XSPI_CMD v.toNat s.dev ∧ s.dev.on F.XSPI_STAT_BUSY = true) ∧
    (∃ (m : Nat) (s : State),
      Reads m .XSPI_DATA s.dev ∧ s.dev.xspi.cmd = none ∧ 4 ≤ s.dev.xspi.fifo.length ∧ s.dev.xspi.fifo.length ≤ 256) ∧
    (∃ (m : Nat) (s : State),
      Reads m .XSPI_DATA s.dev ∧ s.dev.xspi.fifo.length < 4) ∧
    (∃ (m : Nat) (v : Word) (s : State),
      Accepts xspiDataWrite m .XSPI_DATA v.toNat s.dev ∧ s.dev.xspi.cmd = none) ∧
    (∃ (c : XspiCmd) (s : State),
      s.dev.xspi.cmd = some c ∧ c.left = 0) ∧
    (∃ (c : XspiCmd) (s : State),
      s.dev.xspi.cmd = some c ∧ c.left = 0 ∧ (c.kind = 1 ∨ c.kind = 2)) :=
  ⟨⟨0, 3, List.replicate 256 7, st (xlen 260), acc (by decide +kernel), by decide +kernel⟩,
   ⟨0, 0x3800009F, [1, 2, 3], st (xlen 3), acc (by decide +kernel), by decide +kernel⟩,
   ⟨0, 0x10000012, st (xfifo 8 (xlen 256)), acc (by decide +kernel), by decide +kernel⟩,
   ⟨0, 0x10000012, st (((xlen 256).wr F.XSPI_CFG_PROT_BOOTED 1).setWord .XSPI_BANKA 0x00000001), acc (by
      decide +kernel), by decide +kernel⟩,
   ⟨0, 0x20000020, st xup, acc (by decide +kernel), by decide +kernel⟩,
   ⟨0, 0x40000006, st (xfifo 4 (xlen 8)), acc (by decide +kernel), by decide +kernel⟩,
   ⟨0, 3, [], st (xlen 5), .xspiRead 0 3 [], 0, acc (by decide +kernel), by decide +kernel⟩,
   ⟨0, 0x10000012, st (xlen 5), .xspiProg 0 0x10000012, 1, acc (by decide +kernel), by decide +kernel⟩,
   ⟨0, 3, [1], st (xup.wr F.XSPI_STAT_BUSY 1), acc (by decide +kernel), by decide +kernel⟩,
   ⟨0, 3, st (xup.wr F.XSPI_STAT_BUSY 1), acc (by decide +kernel), by decide +kernel⟩,
   ⟨0, st (xfifo 256 xup), rds (by decide +kernel), by decide +kernel⟩,
   ⟨0, st (xfifo 3 xup), rds (by decide +kernel), by decide +kernel⟩,
   ⟨0, 0x04030201, st (xfifo 252 xup), acc (by decide +kernel), by decide +kernel⟩,
   ⟨⟨0, 3, none, 0, [], [], 0⟩, st (xcmd ⟨0, 3, none, 0, [], [], 0⟩), by decide +kernel⟩,
   ⟨⟨2, 3, none, 0, [], [], 0⟩, st (xcmd ⟨2, 3, none, 0, [], [], 0⟩), by decide +kernel⟩⟩

end Hyps12

namespace Hyps13

/-- A part of the states below: dup. -/
def dup (h : Nat) (stt : Nat) (c : DmaChan) : Dev :=
      { ((up.wr (F.DMA_CH_STAT_STATE h) stt).wr (F.DMA_CH_STAT_RUN h) (if stt = 0 then 0 else 1)).wr (F.DMA_CH_CUR_ADDR h) 0x20000100 with dma := { ch := [(h, c)] } }

/-- A part of the states below: desc0. -/
def desc0 : Desc := ⟨0x20000000, 0x20000040, 64, 0x47, 0, 7⟩

/-- A part of the states below: desc1. -/
def desc1 : Desc := ⟨0x20000000, 0x20000040, 64, 0x3, 0x20000020, 7⟩

/-- A part of the states below: b0. -/
def b0 : Burst := { src := 0x20000000, dst := 0x20000040, len := 8 }

/-- A part of the states below: b1. -/
def b1 : Burst := { b0 with data := [1, 2, 3, 4, 5, 6, 7, 8] }

/-- A part of the states below: ch0. -/
def ch0 : DmaChan := { desc := some desc0, crc := some 5 }

/-- States and operands that meet the hypotheses of the clauses of `DmaCommandsAndChoice`. -/
theorem DmaCommandsAndChoice_hypotheses_met :
    (∃ (m : Nat) (h : Fin 32) (v : Word) (s : State),
      Accepts (dmaCtrlWrite h) m (.DMA_CH_CTRL h) v.toNat s.dev ∧ (Instr.dmaStart m h v).wf = true ∧ s.dev.on
      (F.DMA_CH_STAT_RUN h) = false ∧ (bitAt v.toNat 1 = false ∨ s.dev.chState h = 0)) ∧
    (∃ (m : Nat) (h : Fin 32) (v : Word) (c : Instr) (s : State),
      Accepts (dmaCtrlWrite h) m (.DMA_CH_CTRL h) v.toNat s.dev ∧ s.dev.on (F.DMA_CH_STAT_RUN h) = true ∧ bitAt
      v.toNat 0 = true ∧ (c = .dmaStart m h v ∨ c = .dmaSwtrig m h v ∨ c = .dmaAbort m h v)) ∧
    (∃ (m : Nat) (h : Fin 32) (v : Word) (x : Desc) (s : State),
      Accepts (dmaCtrlWrite h) m (.DMA_CH_CTRL h) v.toNat s.dev ∧ (Instr.dmaSwtrig m h v).wf = true ∧ bitAt v.toNat 0
      = false ∧ bitAt v.toNat 1 = false ∧ s.dev.chState h = 2 ∧ (s.dev.chan h).desc = some x) ∧
    (∃ (m : Nat) (h : Fin 32) (v : Word) (s : State),
      Accepts (dmaCtrlWrite h) m (.DMA_CH_CTRL h) v.toNat s.dev ∧ (Instr.dmaSwtrig m h v).wf = true ∧ bitAt v.toNat 0
      = false ∧ bitAt v.toNat 1 = false ∧ s.dev.chState h ≠ 2) ∧
    (∃ (m : Nat) (h : Fin 32) (v : Word) (s : State),
      Accepts (dmaCtrlWrite h) m (.DMA_CH_CTRL h) v.toNat s.dev ∧ (Instr.dmaAbort m h v).wf = true ∧ bitAt v.toNat 0
      = false ∧ bitAt v.toNat 2 = false) ∧
    (∃ (h : Nat) (x : Desc) (s : State),
      s.dev.inFlight < 8 ∧ s.dev.dmaClocked = true ∧ s.dev.nextChan = some h ∧ (s.dev.chan h).desc = some x) ∧
    (∃ (s : State),
      s.dev.dmaClocked = true) :=
  ⟨⟨0, 31, 1, st (dup 31 0 {}), acc (by decide +kernel), by decide +kernel⟩,
   ⟨0, 31, 1, .dmaStart 0 31 1, st (dup 31 1 {}), acc (by decide +kernel), by decide +kernel⟩,
   ⟨0, 31, 4, desc0, st (dup 31 2 ch0), acc (by decide +kernel), by decide +kernel⟩,
   ⟨0, 31, 4, st ((dup 31 0 {}).wr (F.DMA_CH_STAT_TRGPEND 31) 1), acc (by decide +kernel), by decide +kernel⟩,
   ⟨0, 31, 2, st (dup 31 0 {}), acc (by decide +kernel), by decide +kernel⟩,
   ⟨31, desc0, st (dup 31 3 { ch0 with src := 0x20000000, dst := 0x20000040, toIssue := 64 }), by decide +kernel⟩,
   ⟨st { (dup 31 3 { ch0 with
      moved := 1 }).wr (F.DMA_CH_BW_FLOOR 31) 200 with dma := { ch := [(31, { ch0 with moved := 1 })], inWin := 1 } },
      by decide +kernel⟩⟩

/-- States and operands that meet the hypotheses of the clauses of `DmaMoves`. -/
theorem DmaMoves_hypotheses_met :
    (∃ (h : Fin 32) (errs : List EccErr) (s : State),
      s.dev.chState h = 1 ∧ s.dev.dmaClocked = true ∧ s.dev.canIssue (chanMaster h) = true ∧ s.dev.rd
      (F.DMA_CH_STAT_HOPS h) = s.dev.hopLimit h) ∧
    (∃ (h : Fin 32) (errs : List EccErr) (s : State),
      s.dev.chState h = 1 ∧ s.dev.dmaClocked = true ∧ s.dev.canIssue (chanMaster h) = true ∧ s.dev.rd
      (F.DMA_CH_STAT_HOPS h) ≠ s.dev.hopLimit h ∧ descPlace (s.dev.chan h).at_ = false) ∧
    (∃ (h : Fin 32) (s : State),
      let a := (s.dev.chan h).at_
      let x := Desc.ofBytes (readBytes s.dev s.mem (chanMaster h) a 32)
      s.dev.sramOpen a 32 ∧ s.dev.chState h = 1 ∧ s.dev.dmaClocked = true ∧ s.dev.canIssue (chanMaster h) = true ∧
      s.dev.rd (F.DMA_CH_STAT_HOPS h) ≠ s.dev.hopLimit h) ∧
    (∃ (h : Fin 32) (n : Nat) (x : Desc) (b : Burst) (q : List Burst) (s : State),
      let a := if bitAt x.dctrl 0 then b.src + b.data.length else b.src
      let l := readBytes s.dev s.mem (chanMaster h) a n
      s.dev.sramOpen a n ∧ s.dev.chState h = 3 ∧ s.dev.dmaClocked = true ∧ s.dev.canIssue (chanMaster h) = true ∧
      (s.dev.chan h).desc = some x ∧ (s.dev.chan h).bursts = b :: q ∧ b.reading = true ∧ (s.dev.chan h).err = 0 ∧
      beatOk (bitAt x.dctrl 0) a n (b.len - b.data.length) = true) ∧
    (∃ (h : Fin 32) (n : Nat) (errs : List EccErr) (x : Desc) (b : Burst) (q : List Burst) (s : State),
      let a := if bitAt x.dctrl 0 then b.src + b.data.length else b.src
      s.dev.chState h = 3 ∧ s.dev.dmaClocked = true ∧ s.dev.canIssue (chanMaster h) = true ∧ (s.dev.chan h).desc =
      some x ∧ (s.dev.chan h).bursts = b :: q ∧ b.reading = true ∧ (s.dev.chan h).err = 0 ∧ beatOk (bitAt x.dctrl 0)
      a n (b.len - b.data.length) = true ∧ targetAt a = none) ∧
    (∃ (h : Fin 32) (n : Nat) (x : Desc) (b : Burst) (q : List Burst) (s : State),
      let a := if bitAt x.dctrl 1 then b.dst + b.written else b.dst
      s.dev.sramOpen a n ∧ s.memWf ∧ s.dev.chState h = 3 ∧ s.dev.dmaClocked = true ∧ s.dev.canIssue (chanMaster h) =
      true ∧ (s.dev.chan h).desc = some x ∧ (s.dev.chan h).bursts = b :: q ∧ b.writing = true ∧ (s.dev.chan h).err =
      0 ∧ beatOk (bitAt x.dctrl 1) a n (b.data.length - b.written) = true) ∧
    (∃ (h : Fin 32) (x : Desc) (s : State),
      let a := s.dev.rd (F.DMA_CH_CUR_ADDR h) + 0x18
      s.dev.sramOpen a 8 ∧ s.memWf ∧ s.dev.chState h = 4 ∧ s.dev.dmaClocked = true ∧ s.dev.canIssue (chanMaster h) =
      true ∧ (s.dev.chan h).desc = some x ∧ (s.dev.chan h).err = 0 ∧ (s.dev.chan h).abort = false ∧ (s.dev.chan
      h).lateAbort = false) ∧
    (∃ (h : Fin 32) (x : Desc) (s : State),
      let a := s.dev.rd (F.DMA_CH_CUR_ADDR h) + 0x18
      s.dev.sramOpen a 8 ∧ s.memWf ∧ s.dev.chState h = 4 ∧ s.dev.dmaClocked = true ∧ s.dev.canIssue (chanMaster h) =
      true ∧ (s.dev.chan h).desc = some x ∧ (s.dev.chan h).err < 16 ∧ ((s.dev.chan h).err ≠ 0 ∨ (s.dev.chan h).abort
      = true)) :=
  ⟨⟨31, [], st (((dup 31 1 {}).wr (F.DMA_CH_STAT_HOPS 31) 2).wr (F.DMA_CH_HOPLIM_LIMIT 31) 2), by decide +kernel⟩,
   ⟨31, [], st (dup 31 1 { at_ := 0x20000010 }), by decide +kernel⟩,
   ⟨31, stm (dup 31 1 { at_ := 0x20000100 }) [(0x20000100, [0, 0, 0, 0x20, 0x40, 0, 0, 0x20, 64, 0, 0, 0, 0x27, 0, 0,
      0, 0, 0, 0, 0, 7])], sro (by decide +kernel), by decide +kernel⟩,
   ⟨31, 8, desc0, b0, [], stm (dup 31 3 { ch0 with bursts := [b0] }) [(0x20000000, [9, 8, 7])], sro (by
      decide +kernel), by decide +kernel⟩,
   ⟨31, 8, [], desc0, { b0 with src := 0xF0000000 }, [], st (dup 31 3
      { ch0 with bursts := [{ b0 with src := 0xF0000000 }] }), by decide +kernel, by decide +kernel⟩,
   ⟨31, 8, desc0, b1, [], st (dup 31 3 { ch0 with bursts := [b1] }), sro (by decide +kernel), by decide +kernel⟩,
   ⟨31, desc0, st (dup 31 4 ch0), sro (by decide +kernel), by decide +kernel⟩,
   ⟨31, desc0, st (dup 31 4 { ch0 with err := 2 }), sro (by decide +kernel), by decide +kernel⟩⟩

end Hyps13

namespace Hyps14

/-- A part of the states below: sup. -/
def sup (x : Nat) (p : StationPort) : Dev :=
      { up.wr (F.PG_CTRL_ENABLE (.STATION x)) 1 with station := { ports := [(x, p)] } }

/-- A part of the states below: macs. -/
def macs (d : Dev) (x : Nat) : Dev := (d.wr (F.STATION_PORT_MAC_LO_MAC x)
      0x03040506).wr (F.STATION_PORT_MAC_HI_MAC x) 0x0102

/-- A part of the states below: frm. -/
def frm (et : List (BitVec 8)) (n : Nat) : List (BitVec 8) := [1, 2, 3, 4, 5, 6, 9, 9, 9, 9, 9,
      9] ++ et ++ List.replicate (n - 14) 7

/-- A part of the states below: prpF. -/
def prpF : List (BitVec 8) := frm [8, 0] 60 ++ [0, 5, 0xA0, 0, 0x88, 0xFB]

/-- A part of the states below: rx0. -/
def rx0 : RxFrame := ⟨0, false, false, 5 * 2 ^ 29, [1, 2, 3, 4, 5]⟩

/-- A part of the states below: sv0. -/
def sv0 : SvJob := ⟨31, 0, 7 * 2 ^ 29, false, true, true, 5, 3, 2, [0, 0, 0, 1, 0, 0, 0, 3]⟩

/-- A part of the states below: svd. -/
def svd (seen : Nat) : Dev :=
      { ((((up.wr (F.STATION_SUB_CFG_EN 31) 1).wr (F.STATION_SUB_CONFREV_VAL 31) 3).wr (F.STATION_SUB_CFG_NCH 31) 1).wr (F.STATION_SUB_STAT_SMPCNT 31) 3).wr (F.STATION_SUB_STAT_WIDX 31) 3 with station := { svJobs := [sv0], svSeen := seen } }

/-- A part of the states below: g0. -/
def g0 : GooseJob := ⟨15, true, true, false, 4, 9, 2, 5, 100⟩

/-- A part of the states below: gd. -/
def gd (j : GooseJob) : Dev :=
      { (up.wr (F.STATION_GSUB_CFG_EN 15) 1).wr (F.STATION_GSUB_CONFREV_VAL 15) 4 with station := { gJobs := [j], gStNum := [(15, 8)] } }

/-- A part of the states below: tpl0. -/
def tpl0 : List Nat := [1,0x0C,0xCD,1,0,1, 2,2,2,2,2,2, 0x88,0xB8, 0,1,0,46,0,0,0,0, 0x61,36, 0x81,4,0,0,0,0,
      0x84,8,0,0,0,0,0,0,0,0, 0x85,4,0,0,0,0, 0x86,4,0,0,0,0, 0xAB,6,0x83,1,0,0x83,1,0]

/-- A part of the states below: tplUp. -/
def tplUp (d : Dev) (u : Nat) : Dev := (List.range 15).foldl (fun d i => d.setWord (.STATION_PUB_TPL u i)
      (ofLeBytes (((tpl0.map (BitVec.ofNat 8)).drop (4 * i)).take 4))) d

/-- A part of the states below: pub0. -/
def pub0 : Pub := { tlen := 60, nb := 2, t := 0, interval := 1000, from_ := 0, due := 3 }

/-- A part of the states below: pubUp. -/
def pubUp (u : Nat) (p : Pub) (d : Dev) : Dev :=
      { d.wr (F.STATION_PUB_CTRL_EN u) 1 with station := { d.station with pubs := [(u, p)] } }

/-- A part of the states below: rra0. -/
def rra0 (l : List (BitVec 8)) : RraFrame := ⟨0, false, [0, 0, 0, 0, 0, 9], l⟩

/-- A part of the states below: rrd. -/
def rrd (f : RraFrame) : Dev :=
      { ((up.wr (F.STATION_SES_CTRL_EN 7) 1).wr (F.STATION_SES_CTRL_SID 7) 5).wr (F.STATION_SES_PEER_LO_VAL 7) 9 with station := { rraIn := [f] } }

/-- A part of the states below: rq. -/
def rq (todo : List (Nat × Nat × Nat)) (failed : Bool) : RraReq :=
      { port := 0, red := false, src := [0, 0, 0, 0, 0, 9], ses := 7, sid := 5, seq := 1, todo, failed }

/-- A part of the states below: rqd. -/
def rqd (q : RraReq) : Dev := { up with station := { rraQ := [q] } }

/-- A part of the states below: rqw. -/
def rqw (k : Nat) : State := st (((rqd (rq [(0x20000000, 5, k)] false)).wr (F.STATION_SES_WBASE_VAL 7)
      0x20000000 |>.wr (F.STATION_SES_WSIZE_VAL 7) 0x100).wr (F.STATION_SES_CTRL_WRITE 7) 1)

/-- A part of the states below: nextOf. -/
def nextOf (o : Out) : State := match o with | .next t => t | _ => st up

/-- States and operands that meet the hypotheses of the clauses of `StationReceive`. -/
theorem StationReceive_hypotheses_met :
    (∃ (x : Fin 2) (lock aneg : Bool) (s : State),
      let up := lock && (!(s.dev.on (F.STATION_PORT_CFG_MODE x) && s.dev.on (F.STATION_PORT_CFG_ANEG x)) || aneg)
      s.dev.domUp domSTATION = true) ∧
    (∃ (x : Fin 2) (s : State),
      s.dev.portOn x = true ∧ s.dev.on (F.STATION_PORT_STAT_RXLOCK x) = false) ∧
    (∃ (x : Fin 2) (l : List (BitVec 8)) (ok : Bool) (ago : Nat) (s : State),
      s.dev.portOn x = true ∧ s.dev.redMode ≠ 2 ∧ (l.length < 60 ∨ 2044 < l.length ∨ ok = false)) ∧
    (∃ (x : Fin 2) (l : List (BitVec 8)) (ago : Nat) (s : State),
      s.dev.portOn x = true ∧ s.dev.redundant = false ∧ 60 ≤ l.length ∧ l.length ≤ 2044 ∧ etherType l ∉ [0x8808,
      0x88BA, 0x88B8, 0x88F7, 0x88FB] ∧ etherType l ≠ s.dev.rd F.STATION_RRA_CFG_ETYPE ∧ destMac l = s.dev.portMac x) ∧
    (∃ (x : Fin 2) (l : List (BitVec 8)) (ago : Nat) (s : State),
      s.dev.portOn x = true ∧ s.dev.rd F.STATION_RED_CFG_MODE = 1 ∧ 60 ≤ l.length ∧ l.length ≤ 2044 ∧ hasPrp l = true
      ∧ s.dev.twinOf x (srcMac l * 2 ^ 16 + prpSeq l) = none ∧ s.dev.isDup x (srcMac l * 2 ^ 16 + prpSeq l) = true) ∧
    (∃ (x : Fin 2) (l : List (BitVec 8)) (ago : Nat) (s : State),
      s.dev.portOn x = true ∧ s.dev.rd F.STATION_RED_CFG_MODE = 2 ∧ 60 ≤ l.length ∧ l.length ≤ 2044 ∧ hasHsr l = true
      ∧ srcMac l ≠ s.dev.portMac 0 ∧ destMac l ≠ s.dev.portMac 0 ∧ s.dev.neverForward l = false ∧ (∀ e ∈ s.dev.alive
      s.dev.station.fwds, e.1 ≠ srcMac l * 2 ^ 16 + hsrSeq l ∨ e.2.1 ≠ x.val) ∧ (s.dev.sport (1 - x.val)).fwd.foldl
      (fun n f => n + f.bytes.length) l.length ≤ 8192) ∧
    (∃ (m : Nat) (x : Fin 2) (f : RxFrame) (q : List RxFrame) (s : State),
      Reads m (.STATION_PORT_RXD0 x) s.dev ∧ (s.dev.sport x).rx = f :: q) ∧
    (∃ (m : Nat) (x : Fin 2) (s : State),
      Reads m (.STATION_PORT_RXD0 x) s.dev ∧ (s.dev.sport x).rx = []) ∧
    (∃ (m : Nat) (x : Fin 2) (s : State),
      Reads m (.STATION_PORT_RXDATA x) s.dev) :=
  ⟨⟨1, true, false, st up, by decide +kernel⟩,
   ⟨1, st (sup 1 { lockAt := 4 }), by decide +kernel⟩,
   ⟨1, [], true, 0, st (sup 1 {}), by decide +kernel⟩,
   ⟨1, frm [8, 0] 60, 9, st (macs (sup 1 {}) 1), by decide +kernel⟩,
   ⟨0, prpF, 9, st { ((sup 0 {}).wr F.STATION_RED_CFG_MODE 1) with
      station := { dups := [(0x090909090909 * 2 ^ 16 + 5, 1, 0)] } }, by decide +kernel⟩,
   ⟨1, frm [0x89, 0x2F, 0, 52, 0, 7, 8, 0] 66, 9, st (macs ((sup 1 {}).wr F.STATION_RED_CFG_MODE 2) 1), by
      decide +kernel⟩,
   ⟨0, 1, rx0, [], st (sup 1 { rx := [rx0] }), rds (by decide +kernel), by decide +kernel⟩,
   ⟨0, 1, st (sup 1 { cur := [1] }), rds (by decide +kernel), by decide +kernel⟩,
   ⟨0, 1, st (sup 1 { cur := [1, 2, 3, 4, 5] }), rds (by decide +kernel)⟩⟩

/-- States and operands that meet the hypotheses of the clauses of `SampledValuesAndGoose`. -/
theorem SampledValuesAndGoose_hypotheses_met :
    (∃ (j : SvJob) (q : List SvJob) (s : State),
      s.dev.station.svJobs = j :: q ∧ j.sub < 32 ∧ s.dev.svReject j = true) ∧
    (∃ (j : SvJob) (q : List SvJob) (s : State),
      s.dev.station.svJobs = j :: q ∧ j.sub < 32 ∧ s.dev.svReject j = false) ∧
    (∃ (k : Fin 32) (s : State),
      s.dev.on (F.STATION_SUB_CFG_EN k) = true ∧ mhas s.dev.station.svFrom k = true) ∧
    (∃ (j : GooseJob) (q : List GooseJob) (s : State),
      s.dev.station.gJobs = j :: q ∧ j.sub < 16 ∧ (j.ok = false ∨ j.confRev ≠ s.dev.rd (F.STATION_GSUB_CONFREV_VAL
      j.sub) ∨ (j.sim = true ∧ s.dev.on (F.STATION_GSUB_CFG_SIM_EN j.sub) = false))) ∧
    (∃ (j : GooseJob) (q : List GooseJob) (s : State),
      s.dev.station.gJobs = j :: q ∧ j.sub < 16 ∧ j.ok = true ∧ j.confRev = s.dev.rd (F.STATION_GSUB_CONFREV_VAL
      j.sub) ∧ (j.sim = false ∨ s.dev.on (F.STATION_GSUB_CFG_SIM_EN j.sub) = true)) ∧
    (∃ (k : Fin 16) (s : State),
      s.dev.on (F.STATION_GSUB_CFG_EN k) = true ∧ mhas s.dev.station.gDead k = true) :=
  ⟨⟨sv0, [], st (svd (2 ^ 31) |>.wr (F.STATION_SUB_CONFREV_VAL 31) 4), by decide +kernel⟩,
   ⟨sv0, [], st (svd (2 ^ 31)), by decide +kernel⟩,
   ⟨31, st { svd (2 ^ 31) with station := { svFrom := [(31, 4)], svSeen := 2 ^ 31 } }, by decide +kernel⟩,
   ⟨g0, [], st (gd g0), by decide +kernel⟩,
   ⟨g0, [], st ((gd g0).wr (F.STATION_GSUB_CFG_SIM_EN 15) 1), by decide +kernel⟩,
   ⟨15, st { gd g0 with station := { gDead := [(15, 4)] } }, by decide +kernel⟩⟩

/-- States and operands that meet the hypotheses of the clauses of `StationTransmit`. -/
theorem StationTransmit_hypotheses_met :
    (∃ (m : Nat) (x : Fin 2) (v : Word) (s : State),
      Accepts (txd0Write x) m (.STATION_PORT_TXD0 x) v.toNat s.dev ∧ s.dev.basicLocked (Reg.STATION_PORT_TXD0 x).page
      = false) ∧
    (∃ (m : Nat) (x : Fin 2) (v : Word) (f : TxFrame) (s : State),
      Accepts (txDataWrite x) m (.STATION_PORT_TXDATA x) v.toNat s.dev ∧ (s.dev.sport x).open_ = some f ∧
      (s.dev.sport x).txUsed + 4 ≤ hostQueue ∧ (bitAt f.d0 18 = false ∨ s.dev.redundant = false ∨ f.bytes.length + 4
      < bitsOf f.d0 0 12)) ∧
    (∃ (m : Nat) (x : Fin 2) (v : Word) (s : State),
      Accepts (txDataWrite x) m (.STATION_PORT_TXDATA x) v.toNat s.dev ∧ (s.dev.sport x).open_ = none) ∧
    (∃ (m : Nat) (x : Fin 2) (v : Word) (f : TxFrame) (s : State),
      Accepts (txDataWrite x) m (.STATION_PORT_TXDATA x) v.toNat s.dev ∧ (s.dev.sport x).open_ = some f ∧ hostQueue <
      (s.dev.sport x).txUsed + 4) ∧
    (∃ (m : Nat) (x : Fin 2) (v : Word) (f : TxFrame) (s : State),
      Accepts (txDataWrite x) m (.STATION_PORT_TXDATA x) v.toNat s.dev ∧ (s.dev.sport x).open_ = some f ∧
      (s.dev.sport x).txUsed + 4 ≤ hostQueue ∧ bitAt f.d0 18 = true ∧ s.dev.redundant = true ∧ bitsOf f.d0 0 12 ≤
      f.bytes.length + 4) ∧
    (∃ (x : Fin 2) (ago : Nat) (u : Nat) (p : Pub) (s : State),
      s.dev.portSends x = true ∧ s.dev.nextPub x = some (u, p)) ∧
    (∃ (x : Fin 2) (ago : Nat) (f : TxFrame) (q : List TxFrame) (s : State),
      s.dev.portSends x = true ∧ s.dev.nextPub x = none ∧ (s.dev.sport x).fwd = [] ∧ (s.dev.sport x).rsp = [] ∧
      (s.dev.sport x).tx = f :: q) ∧
    (∃ (x : Fin 2) (ago : Nat) (r : List (BitVec 8) × Option Nat) (q : List (List (BitVec 8) × Option Nat)) (s :
      State),
      s.dev.portSends x = true ∧ s.dev.nextPub x = none ∧ (s.dev.sport x).fwd = [] ∧ (s.dev.sport x).rsp = r :: q) ∧
    (∃ (x : Fin 2) (ago : Nat) (f : FwdFrame) (q : List FwdFrame) (s : State),
      s.dev.portSends x = true ∧ s.dev.nextPub x = none ∧ (s.dev.sport x).fwd = f :: q) ∧
    (∃ (x : Fin 2) (ago : Nat) (f : FwdFrame) (q : List FwdFrame) (s : State),
      s.dev.portSends x = true ∧ s.dev.nextPub x = none ∧ (s.dev.sport x).fwd = f :: q) ∧
    (∃ (s : State),
      s.dev.redundant = true ∧ s.dev.rd F.STATION_RED_CFG_LIFE ≠ 0 ∧ (s.dev.portOn 0 = true ∨ s.dev.portOn 1 = true)) ∧
    (∃ (m : Nat) (u : Fin 16) (v : Word) (s : State),
      let n := bitsOf v.toNat 23 9
      let nb := bitsOf v.toNat 8 6
      Accepts (pubCtrlWrite u) m (.STATION_PUB_CTRL u) v.toNat s.dev ∧ (Instr.goosePubEnable m u v).wf = true ∧
      s.dev.basicLocked (Reg.STATION_PUB_CTRL u).page = false ∧ s.dev.on (F.STATION_PUB_CTRL_EN u) = false) ∧
    (∃ (m : Nat) (u : Fin 16) (v : Word) (s : State),
      Accepts (pubCtrlWrite u) m (.STATION_PUB_CTRL u) v.toNat s.dev ∧ (Instr.goosePubDisable m u v).wf = true ∧
      s.dev.basicLocked (Reg.STATION_PUB_CTRL u).page = false) ∧
    (∃ (m : Nat) (u : Fin 16) (v : Word) (p : Pub) (s : State),
      Accepts (pubDataWrite u) m (.STATION_PUB_DATA u) v.toNat s.dev ∧ s.dev.basicLocked (Reg.STATION_PUB_DATA
      u).page = false ∧ s.dev.pub u = some p) ∧
    (∃ (u : Fin 16) (p : Pub) (s : State),
      s.dev.pub u = some p) :=
  ⟨⟨0, 1, 0x40, st (sup 1 { open_ := some { d0 := 5 } }), acc (by decide +kernel), by decide +kernel⟩,
   ⟨0, 1, 0x04030201, { d0 := 4 }, st (sup 1 { open_ := some { d0 := 4 } }), acc (by decide +kernel), by
      decide +kernel⟩,
   ⟨0, 1, 0x04030201, st (sup 1 {}), acc (by decide +kernel), by decide +kernel⟩,
   ⟨0, 1, 1, { d0 := 60 }, st (sup 1
      { open_ := some { d0 := 60 }, tx := [{ d0 := 0, bytes := List.replicate 16384 0 }] }), acc (by decide +kernel),
      by decide +kernel⟩,
   ⟨0, 1, 1, { d0 := 0x40003 }, st ((sup 1 { open_ := some { d0 := 0x40003 } }).wr F.STATION_RED_CFG_MODE 1), acc (by
      decide +kernel), by decide +kernel⟩,
   ⟨1, 5, 15, pub0, st (pubUp 15 pub0 (tplUp (sup 1 {}) 15)), by decide +kernel⟩,
   ⟨1, 5, { d0 := 60, bytes := [1, 2] }, [], st (sup 1 { tx := [{ d0 := 60, bytes := [1, 2] }] }), by decide +kernel⟩,
   ⟨1, 5, ([1, 2], none), [], st (sup 1 { rsp := [([1, 2], none)] }), by decide +kernel⟩,
   ⟨1, 5, ⟨[1, 2], 3, true⟩, [], st (sup 1 { fwd := [⟨[1, 2], 3, true⟩] }), by decide +kernel⟩,
   ⟨1, 5, ⟨[1, 2], 3, true⟩, [], st (sup 1 { fwd := [⟨[1, 2], 3, true⟩] }), by decide +kernel⟩,
   ⟨st (macs (((sup 0 {}).wr (F.PG_CTRL_ENABLE (.STATION 1)) 1).wr F.STATION_RED_CFG_MODE 1) 0), by decide +kernel⟩,
   ⟨0, 15, 0x1E000201, st (tplUp (sup 1 {}) 15), acc (by decide +kernel), by decide +kernel⟩,
   ⟨0, 15, 0, st (pubUp 15 pub0 up), acc (by decide +kernel), by decide +kernel⟩,
   ⟨0, 15, 7, pub0, st (pubUp 15 pub0 up), acc (by decide +kernel), by decide +kernel⟩,
   ⟨15, { pub0 with sqNum := 4294967295 }, st (pubUp 15 { pub0 with sqNum := 4294967295 } up), by decide +kernel⟩⟩

/-- States and operands that meet the hypotheses of the clauses of `RemoteRegisterAccess`. -/
theorem RemoteRegisterAccess_hypotheses_met :
    (∃ (m : Nat) (j : Fin 8) (v : Word) (s : State),
      Accepts (sesCtrlWrite j) m (.STATION_SES_CTRL j) v.toNat s.dev ∧ (Instr.rraSessionEnable m j v).wf = true ∧
      s.dev.basicLocked (Reg.STATION_SES_CTRL j).page = false ∧ s.dev.on (F.STATION_SES_CTRL_EN j) = false) ∧
    (∃ (m : Nat) (j : Fin 8) (v : Word) (s : State),
      Accepts (sesCtrlWrite j) m (.STATION_SES_CTRL j) v.toNat s.dev ∧ (Instr.rraSessionEnable m j v).wf = true ∧
      s.dev.basicLocked (Reg.STATION_SES_CTRL j).page = false ∧ s.dev.on (F.STATION_SES_CTRL_EN j) = true) ∧
    (∃ (f : RraFrame) (q : List RraFrame) (s : State),
      s.dev.station.rraIn = f :: q ∧ (beAt f.data 0 1 ≠ 1 ∨ beAt f.data 1 1 ≠ 1)) ∧
    (∃ (f : RraFrame) (q : List RraFrame) (s : State),
      s.dev.station.rraIn = f :: q ∧ beAt f.data 0 1 = 1 ∧ beAt f.data 1 1 = 1 ∧ s.dev.sesOf (beAt f.data 2 2)
      (ofBeBytes f.src) = none) ∧
    (∃ (f : RraFrame) (q : List RraFrame) (j : Nat) (s : State),
      let n := beAt f.data 12 2
      let seq := beAt f.data 4 8
      let last := s.dev.rd64 (F.STATION_SES_SEQ_LO_SEQ j) (F.STATION_SES_SEQ_HI_SEQ j)
      let good := Config.gmac (s.dev.sesKey j) (s.dev.sesIv j false seq) (f.data.take (16 + 12 * n)) = BitVec.ofNat
        128 (beAt f.data (16 + 12 * n) 16)
      s.dev.station.rraIn = f :: q ∧ beAt f.data 0 1 = 1 ∧ beAt f.data 1 1 = 1 ∧ s.dev.sesOf (beAt f.data 2 2)
      (ofBeBytes f.src) = some j) ∧
    (∃ (errs : List EccErr) (q : RraReq) (rest : List RraReq) (a v kind : Nat) (todo : List (Nat × Nat × Nat)) (s :
      State),
      s.dev.station.rraQ = q :: rest ∧ q.todo = (a, v, kind) :: todo ∧ q.failed = true ∧ s.dev.on
      (F.STATION_SES_CTRL_STOP_ON_ERR q.ses) = true) ∧
    (∃ (errs : List EccErr) (q : RraReq) (rest : List RraReq) (a v kind : Nat) (todo : List (Nat × Nat × Nat)) (s :
      State),
      s.dev.station.rraQ = q :: rest ∧ q.todo = (a, v, kind) :: todo ∧ (q.failed = false ∨ s.dev.on
      (F.STATION_SES_CTRL_STOP_ON_ERR q.ses) = false) ∧ s.dev.sesAllows q.ses a (kind == 1) = false) ∧
    (∃ (errs : List EccErr) (q : RraReq) (rest : List RraReq) (a v : Nat) (todo : List (Nat × Nat × Nat)) (s u :
      State),
      busWrite 11 a 4 v errs s = .next u ∧ s.dev.station.rraQ = q :: rest ∧ q.todo = (a, v, 1) :: todo ∧ (q.failed =
      false ∨ s.dev.on (F.STATION_SES_CTRL_STOP_ON_ERR q.ses) = false) ∧ s.dev.sesAllows q.ses a true = true ∧
      s.dev.canIssue 11 = true ∧ u.dev.resp.code = .okay) ∧
    (∃ (errs : List EccErr) (q : RraReq) (rest : List RraReq) (a v kind : Nat) (todo : List (Nat × Nat × Nat)) (s :
      State),
      let u := busRead 11 a 4 errs s.mem s.dev
      s.dev.station.rraQ = q :: rest ∧ q.todo = (a, v, kind) :: todo ∧ (q.failed = false ∨ s.dev.on
      (F.STATION_SES_CTRL_STOP_ON_ERR q.ses) = false) ∧ s.dev.sesAllows q.ses a false = true ∧ kind ≠ 1 ∧
      s.dev.canIssue 11 = true ∧ u.resp.code = .okay) ∧
    (∃ (q : RraReq) (rest : List RraReq) (s : State),
      s.dev.station.rraQ = q :: rest ∧ q.todo = [] ∧ (q.red = false ∨ s.dev.redundant = false)) ∧
    (∃ (q : RraReq) (rest : List RraReq) (s : State),
      s.dev.station.rraQ = q :: rest ∧ q.todo = [] ∧ q.red = true ∧ s.dev.redundant = true) :=
  ⟨⟨4, 7, 0x00050001, st up, acc (by decide +kernel), by decide +kernel⟩,
   ⟨4, 7, 0x00060001, st (rrd (rra0 [])), acc (by decide +kernel), by decide +kernel⟩,
   ⟨rra0 [1, 2], [], st (rrd (rra0 [1, 2])), by decide +kernel⟩,
   ⟨rra0 [1, 1, 0, 6], [], st (rrd (rra0 [1, 1, 0, 6])), by decide +kernel⟩,
   ⟨rra0 ([1, 1, 0, 5] ++ List.replicate 9 0 ++ [1] ++ List.replicate 30 0), [], 7, st (rrd (rra0 ([1, 1, 0, 5] ++
      List.replicate 9 0 ++ [1] ++ List.replicate 30 0))), by decide +kernel, by decide +kernel⟩,
   ⟨[], rq [(0x40000000, 0, 0)] true, [], 0x40000000, 0, 0, [], st ((rqd (rq [(0x40000000, 0, 0)] true)).wr
      (F.STATION_SES_CTRL_STOP_ON_ERR 7) 1), by decide +kernel⟩,
   ⟨[], rq [(0x40000000, 0, 0)] false, [], 0x40000000, 0, 0, [], st (rqd (rq [(0x40000000, 0, 0)] false)), by
      decide +kernel⟩,
   ⟨[], rq [(0x20000000, 5, 1)] false, [], 0x20000000, 5, [], rqw 1, nextOf (busWrite 11 0x20000000 4 5 [] (rqw 1)),
      rfl, by decide +kernel⟩,
   ⟨[], rq [(0x20000000, 5, 0)] false, [], 0x20000000, 5, 0, [], rqw 0, by decide +kernel, by decide +kernel⟩,
   ⟨rq [] false, [], st (rqd (rq [] false)), by decide +kernel⟩,
   ⟨{ rq [] false with red := true }, [], st ((rqd { rq [] false with red := true }).wr F.STATION_RED_CFG_MODE 1), by
      decide +kernel⟩⟩

end Hyps14

namespace Hyps15

/-- A part of the states below: pon. -/
def pon (d : Dev) : Dev := d.wr F.PWR_DOM_ON 0xFF

/-- States and operands that meet the hypotheses of the clauses of `SuppliesAndDomains`. -/
theorem SuppliesAndDomains_hypotheses_met :
    (∃ (s : State),
      s.dev.rst.vinUp = true ∧ s.dev.on F.PWR_VMON_WARN = false) ∧
    (∃ (s : State),
      s.dev.on F.PWR_VMON_WARN = true ∧ s.dev.pwr.warnLong = false) ∧
    (∃ (s : State),
      s.dev.on F.PWR_VMON_WARN = true) ∧
    (∃ (mv : BitVec 13) (s : State),
      s.dev.rst.vinUp = true) ∧
    (∃ (m : Nat) (v : Word) (s : State),
      Accepts vminWrite m .PWR_VMIN v.toNat s.dev ∧ (Instr.vminClear m v).wf = true) ∧
    (∃ (s : State),
      s.dev.on F.PWR_VMON_VDDA_LOW = true) ∧
    (∃ (s : State),
      s.dev.pwr.vddaBad = true ∧ s.dev.on F.PWR_VMON_VDDA_LOW = false) ∧
    (∃ (r : Fin 3) (s : State),
      s.dev.bit F.PWR_IVR_FAULT r = false) ∧
    (∃ (r : Fin 3) (s : State),
      s.dev.bit F.PWR_IVR_FAULT r = true) ∧
    (∃ (m : Nat) (v : Word) (s : State),
      Accepts domWrite m .PWR_DOM v.toNat s.dev ∧ s.dev.basicLocked .PWR = false ∧ (∀ i < 10, bitAt (s.dev.word
      .PWR_DOM) i = true → bitAt v.toNat i = false → s.dev.domRefused m i = false)) ∧
    (∃ (m i : Nat) (v : Word) (s : State),
      Accepts domWrite m .PWR_DOM v.toNat s.dev ∧ s.dev.basicLocked .PWR = false ∧ i < 10 ∧ bitAt (s.dev.word
      .PWR_DOM) i = true ∧ bitAt v.toNat i = false ∧ s.dev.domRefused m i = true) ∧
    (∃ (dom : Fin 10) (forced : Option (Fin 21)) (s : State),
      2 ≤ dom.val ∧ s.dev.bit F.PWR_DOM_STAT_TRANS dom = true ∧ bitAt s.dev.pwr.upwards dom = true ∧ s.dev.wanted dom
      = true) ∧
    (∃ (dom : Fin 10) (forced : Option (Fin 21)) (s : State),
      2 ≤ dom.val ∧ s.dev.bit F.PWR_DOM_STAT_TRANS dom = true ∧ bitAt s.dev.pwr.upwards dom = false ∧ s.dev.wanted
      dom = false ∧ s.dev.domUp dom = false) :=
  ⟨⟨st up, by decide +kernel⟩,
   ⟨st { up.wr F.PWR_VMON_WARN 1 with pwr := { warnAt := 4 } }, by decide +kernel⟩,
   ⟨st { up.wr F.PWR_VMON_WARN 1 with pwr := { warnLong := true }, fc := { cond := 2 ^ 50 } }, by decide +kernel⟩,
   ⟨8191, st { up with pwr := { vminClear := true } }, by decide +kernel⟩,
   ⟨4, 0x80000000, st up, acc (by decide +kernel), by decide +kernel⟩,
   ⟨st (up.wr F.PWR_VMON_VDDA_LOW 1), by decide +kernel⟩,
   ⟨st { up with pwr := { vddaBad := true } }, by decide +kernel⟩,
   ⟨2, st up, by decide +kernel⟩,
   ⟨2, st { up.wr F.PWR_IVR_FAULT 4 with fc := { cond := 2 ^ 51 } }, by decide +kernel⟩,
   ⟨4, 0x1FF, st ((pon up).wr (F.PG_CTRL_ENABLE (.STATION 0)) 1), acc (by decide +kernel), by decide +kernel⟩,
   ⟨4, 9, 0x1FF, st ((pon up).wr (F.PG_CTRL_ENABLE (.ADC 1)) 1), acc (by decide +kernel), by decide +kernel⟩,
   ⟨6, none, stm { pon (up.wr F.PWR_DOM_STAT_UP 0x3BF |>.wr F.PWR_DOM_STAT_TRANS 0x40) with
      pwr := { upwards := 0x40, kept := 0x40 } } [(secBase, [1]), (traceBase, [1])], by decide +kernel⟩,
   ⟨9, some 3, st ((up.wr F.PWR_DOM_STAT_UP 0x1FF |>.wr F.PWR_DOM_STAT_TRANS 0x200).wr F.PWR_DOM_ON 0x7F), by
      decide +kernel⟩⟩

/-- States and operands that meet the hypotheses of the clauses of `PowerStates`. -/
theorem PowerStates_hypotheses_met :
    (∃ (m : Nat) (v : Word) (s : State),
      Accepts stateWrite m .PWR_STATE v.toNat s.dev ∧ (Instr.reqStandby m v).wf = true ∧ isSafe m = true ∧
      s.dev.reqRefused 2 = false) ∧
    (∃ (m : Nat) (v : Word) (s : State),
      Accepts stateWrite m .PWR_STATE v.toNat s.dev ∧ (Instr.reqHibernate m v).wf = true ∧ isSafe m = true ∧
      s.dev.reqRefused 3 = false) ∧
    (∃ (m : Nat) (v : Word) (s : State),
      Accepts stateWrite m .PWR_STATE v.toNat s.dev ∧ (Instr.reqShed m v).wf = true ∧ isSafe m = true ∧
      s.dev.reqRefused 1 = false) ∧
    (∃ (m : Nat) (v : Word) (s : State),
      Accepts stateWrite m .PWR_STATE v.toNat s.dev ∧ (Instr.reqRun m v).wf = true ∧ isSafe m = true ∧
      s.dev.reqRefused 0 = false) ∧
    (∃ (m : Nat) (v : Word) (s : State) (c : Instr),
      Accepts stateWrite m .PWR_STATE v.toNat s.dev ∧ isSafe m = true ∧ bitsOf v.toNat 0 3 < 4 ∧ s.dev.reqRefused
      (bitsOf v.toNat 0 3) = true ∧ (c = Instr.reqRun m v ∨ c = .reqShed m v ∨ c = .reqStandby m v ∨ c =
      .reqHibernate m v)) ∧
    (∃ (m : Nat) (v : Word) (s : State) (c : Instr),
      Accepts stateWrite m .PWR_STATE v.toNat s.dev ∧ isSafe m = false ∧ (c = Instr.reqRun m v ∨ c = .reqShed m v ∨ c
      = .reqStandby m v ∨ c = .reqHibernate m v)) ∧
    (∃ (s : State),
      s.dev.on F.PWR_STATE_BUSY = true ∧ 2 ≤ s.dev.pwr.target ∧ s.dev.pwr.switched = false) ∧
    (∃ (s : State),
      s.dev.on F.PWR_STATE_BUSY = true ∧ s.dev.pwr.switched = true ∧ s.dev.settled = true ∧ (s.dev.pwr.target ≠ 0 ∨
      s.dev.domUp domMEM = false ∨ s.dev.memory.sramOk = true)) ∧
    (∃ (s : State),
      s.dev.fc.shedReq = true ∧ (∀ n < 64, s.dev.asserted n = true → s.dev.srcClass n ≠ 3)) :=
  ⟨⟨4, 2, st (rimUp 31), acc (by decide +kernel), by decide +kernel⟩,
   ⟨4, 3, st up, acc (by decide +kernel), by decide +kernel⟩,
   ⟨4, 1, st up, acc (by decide +kernel), by decide +kernel⟩,
   ⟨4, 0, st (up.wr F.PWR_STATE_CUR 1), acc (by decide +kernel), by decide +kernel⟩,
   ⟨4, 0, st up, .reqRun 4 0, acc (by decide +kernel), by decide +kernel⟩,
   ⟨1, 2, st up, .reqStandby 1 2, acc (by decide +kernel), by decide +kernel⟩,
   ⟨st { (pon up).wr F.PWR_STATE_BUSY 1 with pwr := { target := 3, since := 4 } }, by decide +kernel⟩,
   ⟨st { (pon up).wr F.PWR_STATE_BUSY 1 with
      pwr := { target := 0, switched := true, powerBlock := true }, fc := { shedReq := true } }, by decide +kernel⟩,
   ⟨st { up.wr F.PWR_STATE_CUR 1 with fc := { shedReq := true }, pwr := { shedByFc := true } }, by decide +kernel⟩⟩

end Hyps15

namespace Hyps16

/-- A part of the states below: held. -/
def held (h : Nat) (k : Nat) : Dev := { up with rst := { up.rst with hold := h, kinds := k, since := 7 } }

/-- A part of the states below: boot. -/
def boot (n : Nat) (src : Nat) (r : RstState) : Dev :=
      { (up.wr F.SVCPORT_BOOT_STAGE n).wr F.RST_STRAP_EFF_SRC src with rst := { r with hold := 0, booting := true } }

/-- A part of the states below: core. -/
def core (gen : Nat) : List (BitVec 8) := [0x46, 0x4C, 0x44, 0x31] ++ leBytes 4 gen ++ leBytes 4 3 ++ ([1, 2,
      3].flatMap fun k => leBytes 4 k ++ leBytes 4 (0x1000 * k) ++ leBytes 4 64 ++ leBytes 4 0) ++ List.replicate 80 0

/-- A part of the states below: dirOf. -/
def dirOf (gen stt : Nat) : List (BitVec 8) := core gen ++ leBytes 4 (crc32c (core gen)) ++ leBytes 4 stt

/-- A part of the states below: nframe. -/
def nframe (op off n : Nat) (data : List (BitVec 8)) : List (BitVec 8) := [1,
      BitVec.ofNat 8 op] ++ List.replicate 8 0 ++ beBytes 4 off ++ beBytes 2 n ++ data

/-- A part of the states below: nfcs. -/
def nfcs (l : List (BitVec 8)) : List (BitVec 8) := l ++ beBytes 4 (crc32c l)

/-- A part of the states below: eth. -/
def eth (l : List (BitVec 8)) : List (BitVec 8) := List.replicate 6 0xFF ++ [2, 2, 2, 2, 2, 2, 0x88, 0xB5] ++ l

/-- A part of the states below: img. -/
def img (load plen : Nat) : List (BitVec 8) := [0x46, 0x4C, 0x4E,
      0x31] ++ leBytes 2 1 ++ leBytes 2 1 ++ List.replicate 8 0 ++ leBytes 4 plen ++ leBytes 4 64 ++ leBytes 4 load
      ++ List.replicate 200 5

/-- A part of the states below: bup. -/
def bup (n : Nat) : State := st (boot n 0 { stgReady := true, safeReady := true, go := true })

/-- States and operands that meet the hypotheses of the clauses of `Resets`. -/
theorem Resets_hypotheses_met :
    (∃ (m : Nat) (v : Word) (s : State),
      Accepts reqWrite m .RST_REQ v.toNat s.dev ∧ (Instr.resetHost m v).wf = true ∧ bitsOf v.toNat 16 16 = 0xD1CE ∧ m
      ≠ 11 ∧ s.dev.rst.hold ≠ 1) ∧
    (∃ (m : Nat) (v : Word) (s : State),
      Accepts reqWrite m .RST_REQ v.toNat s.dev ∧ (Instr.resetSafety m v).wf = true ∧ bitsOf v.toNat 16 16 = 0xD1CE ∧
      s.dev.rst.hold ≠ 1) ∧
    (∃ (m : Nat) (v : Word) (s : State),
      Accepts reqWrite m .RST_REQ v.toNat s.dev ∧ (Instr.resetService m v).wf = true ∧ bitsOf v.toNat 16 16 = 0xD1CE
      ∧ s.dev.rst.hold = 0) ∧
    (∃ (m : Nat) (v : Word) (s : State) (c : Instr),
      Accepts reqWrite m .RST_REQ v.toNat s.dev ∧ bitsOf v.toNat 16 16 ≠ 0xD1CE ∧ (c = Instr.resetHost m v ∨ c =
      .resetSafety m v ∨ c = .resetService m v)) ∧
    (∃ (s : State),
      s.dev.rst.vinUp = true ∧ s.dev.rst.hold ≠ 1) ∧
    (∃ (s : State),
      s.dev.rst.pinLow = true) ∧
    (∃ (s : State),
      (s.dev.rst.hold = 2 ∨ s.dev.rst.hold = 3 ∨ s.dev.rst.hold = 4) ∧ s.dev.rst.pinLow = false) ∧
    (∃ (s : State),
      s.dev.rst.hold = 1 ∧ s.dev.rst.vinUp = true) ∧
    (∃ (s : State),
      s.dev.rst.hold = 5) ∧
    (∃ (src : BitVec 2) (id : Bool) (s : State),
      s.dev.rst.vinUp = false) ∧
    (∃ (src : BitVec 2) (id : Bool) (s : State),
      s.dev.rst.vinUp = true) :=
  ⟨⟨4, 0xD1CE0001, stm (rimUp 3) [(0x20000000, [1])], acc (by decide +kernel), by decide +kernel⟩,
   ⟨4, 0xD1CE0002, stm ((rimUp 3).wr F.PWR_STATE_CUR 1) [(0x20000000, [1])], acc (by decide +kernel), by
      decide +kernel⟩,
   ⟨4, 0xD1CE0003, stm (((rimUp 3).wr (F.STATION_SES_CTRL_EN 5) 1).setWord (.IR_SRC_ROUTE 9) 0x80000100)
      [(0x20000000, [1])], acc (by decide +kernel), by decide +kernel⟩,
   ⟨4, 0x01010001, st up, .resetHost 4 0x01010001, acc (by decide +kernel), by decide +kernel⟩,
   ⟨stm (rimUp 3) [(0x20000000, [1])], by decide +kernel⟩,
   ⟨st { up with now := 9, rst := { up.rst with hold := 2, pinLow := true } }, by decide +kernel⟩,
   ⟨stm ((held 2 2).wr F.RST_STRAP_BOOTSRC 2) [(0x20000000, [1])], by decide +kernel⟩,
   ⟨st { held 1 1 with rst := { (held 1 1).rst with pinLow := true } }, by decide +kernel⟩,
   ⟨st ((held 5 0x10).wr F.RST_SVC_ENTRY_ADDR 0x20000100), by decide +kernel⟩,
   ⟨2, true, stm { pwr := { warnAt := 5 } } [(0x20000000, [1])], by decide +kernel⟩,
   ⟨2, true, st up, by decide +kernel⟩⟩

/-- States and operands that meet the hypotheses of the clauses of `ServicePort`. -/
theorem ServicePort_hypotheses_met :
    (∃ (n : Nat) (s : State),
      s.dev.rst.vinUp = true) ∧
    (∃ (s : State),
      s.dev.rst.vinUp = true) ∧
    (∃ (a : Word) (n : Nat) (errs : List EccErr) (s : State),
      s.dev.rst.vinUp = true) ∧
    (∃ (a : Word) (errs : List EccErr) (s : State),
      let u := busRead 12 a.toNat 4 errs s.mem s.dev
      s.dev.rst.vinUp = true ∧ s.dev.rst.stgReady = true) ∧
    (∃ (a x y : Word) (s : State),
      s.memWf ∧ s.dev.rst.vinUp = true ∧ MemRange.at a.toNat = some .staging ∧ a.toNat % 8 = 0 ∧ s.dev.allowed 12
      (.mem .staging) true = true ∧ s.dev.memGated .staging = false) ∧
    (∃ (a : Word) (ws : List Word) (errs : List EccErr) (s : State),
      s.dev.rst.vinUp = true ∧ s.dev.rst.stgReady = true ∧ MemRange.at a.toNat = some .staging ∧ (a.toNat % 8 ≠ 0 ∨
      ws.length % 2 = 1)) ∧
    (∃ (k1 k2 o : BitVec 8) (s : State),
      s.dev.rst.vinUp = true ∧ s.dev.rst.hold ≠ 1 ∧ k1 = 0xD1 ∧ k2 = 0xCE) ∧
    (∃ (k1 k2 o : BitVec 8) (s : State),
      s.dev.rst.vinUp = true ∧ (k1 ≠ 0xD1 ∨ k2 ≠ 0xCE)) ∧
    (∃ (s : State),
      s.dev.rst.vinUp = true ∧ s.dev.clk.pllS.released = true ∧ s.dev.rst.stagingSafe = false) :=
  ⟨⟨3, stm up [(0x42080000, [1])], by decide +kernel⟩,
   ⟨st (up.setWord .SVCPORT_ID3 0x12345678), by decide +kernel⟩,
   ⟨0x20000000, 3, [], st up, by decide +kernel⟩,
   ⟨0x20000000, [], stm up [(0x20000000, [1, 2])], by decide +kernel, by decide +kernel⟩,
   ⟨BitVec.ofNat 32 (stagingBase + 8), 0x01020304, 0x05060708, stm up [(stagingBase, [1, 2]), (stagingBase + 16,
      [9])], by decide +kernel⟩,
   ⟨BitVec.ofNat 32 (stagingBase + 4), [1, 2], [], st up, by decide +kernel⟩,
   ⟨0xD1, 0xCE, 0x82, st (up.setWord .FC_SCORE_LO 6), by decide +kernel⟩,
   ⟨0xD1, 0xCF, 0x82, st up, by decide +kernel⟩,
   ⟨st { up with clk := { pllS := { released := true } }, rst := { up.rst with stagingSafe := false } }, by
      decide +kernel⟩⟩

/-- States and operands that meet the hypotheses of the clauses of `Boot`. -/
theorem Boot_hypotheses_met :
    (∃ (m : Nat) (v : Word) (s : State),
      Accepts goWrite m .SVCPORT_GO v.toNat s.dev) ∧
    (∃ (a b l : List (BitVec 8)) (s : State),
      s.dev.rst.booting = true ∧ s.dev.rst.hold = 0 ∧ s.dev.rd F.SVCPORT_BOOT_STAGE = 0 ∧ s.dev.clk.pllS.released =
      true) ∧
    (∃ (a b l : List (BitVec 8)) (s : State),
      s.dev.rst.booting = true ∧ s.dev.rst.hold = 0 ∧ s.dev.rd F.SVCPORT_BOOT_STAGE = 1 ∧ s.dev.rst.safeReady = true) ∧
    (∃ (a b l : List (BitVec 8)) (s : State),
      s.dev.rst.booting = true ∧ s.dev.rst.hold = 0 ∧ s.dev.rd F.SVCPORT_BOOT_STAGE = 2) ∧
    (∃ (a b l : List (BitVec 8)) (s : State),
      s.dev.rst.booting = true ∧ s.dev.rst.hold = 0 ∧ s.dev.rd F.SVCPORT_BOOT_STAGE = 3 ∧ s.dev.cooled = true) ∧
    (∃ (a b l : List (BitVec 8)) (s : State),
      s.dev.rst.booting = true ∧ s.dev.rst.hold = 0 ∧ s.dev.rd F.SVCPORT_BOOT_STAGE = 3) ∧
    (∃ (a b l : List (BitVec 8)) (s : State),
      s.dev.rst.booting = true ∧ s.dev.rst.hold = 0 ∧ s.dev.rd F.SVCPORT_BOOT_STAGE = 4 ∧ s.dev.fromFlash = false ∧
      s.dev.rst.go = true) ∧
    (∃ (a b l : List (BitVec 8)) (s : State),
      s.dev.rst.booting = true ∧ s.dev.rst.hold = 0 ∧ s.dev.rd F.SVCPORT_BOOT_STAGE = 4 ∧ s.dev.fromFlash = true ∧
      s.dev.readable 0 a = true ∧ s.dev.readable 1 b = true ∧ s.dev.bankState 0 a = stGood ∧ s.dev.bankState 1 b =
      stGood) ∧
    (∃ (a b l : List (BitVec 8)) (s : State),
      s.dev.rst.booting = true ∧ s.dev.rst.hold = 0 ∧ s.dev.rd F.SVCPORT_BOOT_STAGE = 4 ∧ s.dev.fromFlash = true ∧
      s.dev.readable 0 a = false ∧ s.dev.readable 1 b = false) ∧
    (∃ (a b l : List (BitVec 8)) (s : State),
      let h : Header := ⟨l.take 128⟩
      let pay := (l.drop h.payoff).take h.plen
      let code := s.dev.bootCode 3 l
      s.dev.rst.booting = true ∧ s.dev.rst.hold = 0 ∧ s.dev.rd F.SVCPORT_BOOT_STAGE = 5) ∧
    (∃ (a b l : List (BitVec 8)) (s : State),
      let h : Header := ⟨l.take 128⟩
      let pay := (l.drop h.payoff).take h.plen
      let code := s.dev.bootCode 1 l
      s.memWf ∧ s.dev.rst.booting = true ∧ s.dev.rst.hold = 0 ∧ s.dev.rd F.SVCPORT_BOOT_STAGE = 6) ∧
    (∃ (a b l : List (BitVec 8)) (s : State),
      let h : Header := ⟨l.take 128⟩
      let pay := (l.drop h.payoff).take h.plen
      let code := s.dev.bootCode 2 l
      s.memWf ∧ s.dev.rst.booting = true ∧ s.dev.rst.hold = 0 ∧ s.dev.rd F.SVCPORT_BOOT_STAGE = 7 ∧
      s.dev.memory.sramOk = true) ∧
    (∃ (port : Fin 2) (l p : List (BitVec 8)) (s : State),
      let off := beAt p 10 4
      let n := beAt p 14 2
      s.memWf ∧ s.dev.netBoot l = some p ∧ beAt p 1 1 = 3 ∧ s.dev.rst.stgReady = true ∧ off % 8 = 0 ∧ 8 ≤ n ∧ n ≤
      1024 ∧ n % 8 = 0 ∧ off + n ≤ 0x10000) ∧
    (∃ (port : Fin 2) (l p : List (BitVec 8)) (s : State),
      s.dev.netBoot l = some p ∧ beAt p 1 1 = 4 ∧ beAt p 14 2 = 0) :=
  ⟨⟨12, 1, st (boot 4 1 { vinUp := true, stgReady := true }), acc (by decide +kernel)⟩,
   ⟨[], [], [], st { (bup 0).dev with clk := { pllS := { released := true } } }, by decide +kernel⟩,
   ⟨[], [], [], bup 1, by decide +kernel⟩,
   ⟨[], [], [], bup 2, by decide +kernel⟩,
   ⟨[], [], [], st { (bup 3).dev with therm := { judged := true } }, by decide +kernel⟩,
   ⟨[], [], [], bup 3, by decide +kernel⟩,
   ⟨[], [], [], st (boot 4 1 { go := true }), by decide +kernel⟩,
   ⟨dirOf 5 stGood, dirOf 6 stGood, [], bup 4, by decide +kernel⟩,
   ⟨[], [], [], bup 4, by decide +kernel⟩,
   ⟨[], [], img 0 64, bup 5, by decide +kernel, by decide +kernel⟩,
   ⟨[], [], img 0x10000000 64, bup 6, by decide +kernel, by decide +kernel⟩,
   ⟨[], [], img 0x20000000 64, st { (bup 7).dev with memory := { sramOk := true } }, by decide +kernel, by
      decide +kernel⟩,
   ⟨1, eth (nfcs (nframe 3 0xFFF8 8 [1, 2, 3, 4, 5, 6, 7, 8])), nfcs (nframe 3 0xFFF8 8 [1, 2, 3, 4, 5, 6, 7, 8]),
      stm (boot 4 2 { stgReady := true }) [(stagingBase, [1])], by decide +kernel, by decide +kernel⟩,
   ⟨1, eth (nfcs (nframe 4 7 0 [])), nfcs (nframe 4 7 0 []), st (boot 4 2 { stgReady := true }), by decide +kernel⟩⟩

end Hyps16

namespace Hyps17

/-- A part of the states below: vimg. -/
def vimg (kind plen : Nat) (d : Dev) : Dev :=
      { (((d.wr F.KEYS_V_STAT_VALID 1).setWord .KEYS_V_INFO kind).setWord .KEYS_V_PLEN plen) with sec := { d.sec with watch := some (0x20000000, 4096), payoff := 64 } }

/-- A part of the states below: ownerPay. -/
def ownerPay (k op : Nat) : List Nat := List.replicate 32 9 ++ [k, op, 2, 0]

/-- A part of the states below: patchPay. -/
def patchPay (k op : Nat) : List Nat := [0x20, 0x10, 0, 0] ++ List.replicate 32 6 ++ [k, op, 0, 0]

/-- A part of the states below: profPay. -/
def profPay : List Nat := List.replicate 64 2 ++ [1, 0, 0, 0] ++ [100, 0] ++ [9, 0] ++ [3, 1, 5, 0, 7, 0, 50, 0]

/-- A part of the states below: otpUp. -/
def otpUp (o : Otp) : Dev := { up with sec := { otp := o } }

/-- A part of the states below: own3. -/
def own3 : Otp := { owner := [(1, { state := 1 }), (3, { state := 1 })], patch := [(7, { used := true })] }

/-- A part of the states below: run1. -/
def run1 : OtpRun := { op := 1, idx := 3, sub := 1, need := 2, done := 0, at_ := 5 }

/-- A part of the states below: hdr. -/
def hdr : List Nat := [0x46, 0x4C, 0x4E, 0x31, 1, 0, 1, 0] ++ List.replicate 248 0

/-- States and operands that meet the hypotheses of the clauses of `OtpOperations`. -/
theorem OtpOperations_hypotheses_met :
    (∃ (m : Nat) (v : Word) (s : State),
      let k := bitsOf v.toNat 4 3
      let x := bitsOf v.toNat 8 8
      let c := s.dev.rbCounter k
      Accepts (otpCtrlWrite s.mem) m .KEYS_OTP_CTRL v.toNat s.dev ∧ (Instr.otpRbAdvance m v).wf = true ∧ s.dev.on
      F.KEYS_OTP_STAT_BUSY = false ∧ s.dev.on F.PWR_VMON_WARN = false) ∧
    (∃ (m : Nat) (v : Word) (s : State) (c : Instr),
      Accepts (otpCtrlWrite s.mem) m .KEYS_OTP_CTRL v.toNat s.dev ∧ 1 ≤ bitsOf v.toNat 0 3 ∧ bitsOf v.toNat 0 3 ≤ 3 ∧
      (s.dev.on F.KEYS_OTP_STAT_BUSY = true ∨ s.dev.on F.PWR_VMON_WARN = true) ∧ (c = Instr.otpRbAdvance m v ∨ c =
      .otpOwner m v ∨ c = .otpPatch m v)) ∧
    (∃ (m : Nat) (v : Word) (s : State),
      Accepts (otpCtrlWrite s.mem) m .KEYS_OTP_CTRL v.toNat s.dev ∧ (Instr.otpOwner m v).wf = true ∧ s.dev.on
      F.KEYS_OTP_STAT_BUSY = false ∧ s.dev.on F.PWR_VMON_WARN = false ∧ s.dev.verified [9] = false) ∧
    (∃ (m : Nat) (v : Word) (s : State),
      let p := s.dev.payload s.mem
      Accepts (otpCtrlWrite s.mem) m .KEYS_OTP_CTRL v.toNat s.dev ∧ (Instr.otpOwner m v).wf = true ∧ s.dev.on
      F.KEYS_OTP_STAT_BUSY = false ∧ s.dev.on F.PWR_VMON_WARN = false ∧ s.dev.verified [9] = true ∧ p.length = 36 ∧
      leAt p 32 1 ≤ 3 ∧ leAt p 33 1 = 1 ∧ (leAt p 34 1 = 1 ∨ leAt p 34 1 = 2) ∧ leAt p 35 1 = 0 ∧ (s.dev.ownerSlot
      (leAt p 32 1)).state = 0) ∧
    (∃ (m : Nat) (v : Word) (s : State),
      let p := s.dev.payload s.mem
      Accepts (otpCtrlWrite s.mem) m .KEYS_OTP_CTRL v.toNat s.dev ∧ (Instr.otpOwner m v).wf = true ∧ s.dev.on
      F.KEYS_OTP_STAT_BUSY = false ∧ s.dev.on F.PWR_VMON_WARN = false ∧ s.dev.verified [9] = true ∧ p.length = 36 ∧
      leAt p 32 1 ≤ 3 ∧ leAt p 33 1 = 2 ∧ (leAt p 34 1 = 1 ∨ leAt p 34 1 = 2) ∧ leAt p 35 1 = 0 ∧
      (s.dev.activeOwners.any fun j => j != leAt p 32 1) = true) ∧
    (∃ (m : Nat) (v : Word) (s : State),
      let p := s.dev.payload s.mem
      Accepts (otpCtrlWrite s.mem) m .KEYS_OTP_CTRL v.toNat s.dev ∧ (Instr.otpOwner m v).wf = true ∧ s.dev.on
      F.KEYS_OTP_STAT_BUSY = false ∧ s.dev.on F.PWR_VMON_WARN = false ∧ s.dev.verified [9] = true ∧ (p.length ≠ 36 ∨
      3 < leAt p 32 1 ∨ (leAt p 33 1 = 1 ∧ (s.dev.ownerSlot (leAt p 32 1)).state ≠ 0) ∨ (leAt p 33 1 = 2 ∧ ∀ j ∈
      s.dev.activeOwners, j = leAt p 32 1))) ∧
    (∃ (m : Nat) (v : Word) (s : State),
      Accepts (otpCtrlWrite s.mem) m .KEYS_OTP_CTRL v.toNat s.dev ∧ (Instr.otpPatch m v).wf = true ∧ s.dev.on
      F.KEYS_OTP_STAT_BUSY = false ∧ s.dev.on F.PWR_VMON_WARN = false ∧ s.dev.verified [8] = false) ∧
    (∃ (m : Nat) (v : Word) (s : State),
      let p := s.dev.payload s.mem
      Accepts (otpCtrlWrite s.mem) m .KEYS_OTP_CTRL v.toNat s.dev ∧ (Instr.otpPatch m v).wf = true ∧ s.dev.on
      F.KEYS_OTP_STAT_BUSY = false ∧ s.dev.on F.PWR_VMON_WARN = false ∧ s.dev.verified [8] = true ∧ p.length = 40 ∧
      leAt p 0 4 % 32 = 0 ∧ leAt p 0 4 < 0x40000 ∧ leAt p 36 1 ≤ 15 ∧ leAt p 37 1 = 1 ∧ leAt p 38 2 = 0 ∧
      (s.dev.patchSlot (leAt p 36 1)).used = false) ∧
    (∃ (m : Nat) (v : Word) (s : State),
      let p := s.dev.payload s.mem
      Accepts (otpCtrlWrite s.mem) m .KEYS_OTP_CTRL v.toNat s.dev ∧ (Instr.otpPatch m v).wf = true ∧ s.dev.on
      F.KEYS_OTP_STAT_BUSY = false ∧ s.dev.on F.PWR_VMON_WARN = false ∧ s.dev.verified [8] = true ∧ p.length = 40 ∧
      leAt p 0 4 % 32 = 0 ∧ leAt p 0 4 < 0x40000 ∧ leAt p 36 1 ≤ 15 ∧ leAt p 37 1 = 2 ∧ leAt p 38 2 = 0 ∧
      (s.dev.patchSlot (leAt p 36 1)).used = true) ∧
    (∃ (m : Nat) (v : Word) (s : State),
      let p := s.dev.payload s.mem
      Accepts (otpCtrlWrite s.mem) m .KEYS_OTP_CTRL v.toNat s.dev ∧ (Instr.otpPatch m v).wf = true ∧ s.dev.on
      F.KEYS_OTP_STAT_BUSY = false ∧ s.dev.on F.PWR_VMON_WARN = false ∧ s.dev.verified [8] = true ∧ (p.length ≠ 40 ∨
      leAt p 0 4 % 32 ≠ 0 ∨ 15 < leAt p 36 1 ∨ (leAt p 37 1 = 1 ∧ (s.dev.patchSlot (leAt p 36 1)).used = true))) ∧
    (∃ (r : OtpRun) (s : State),
      s.dev.sec.otpRun = some r ∧ r.op = 1) ∧
    (∃ (r : OtpRun) (s : State),
      s.dev.sec.otpRun = some r ∧ r.op = 2) ∧
    (∃ (r : OtpRun) (s : State),
      s.dev.sec.otpRun = some r ∧ r.op = 3) ∧
    (∃ (r : OtpRun) (s : State),
      s.dev.sec.otpRun = some r) :=
  ⟨⟨4, 0x0531, st (otpUp { rb := [(3, 2)] }), acc (by decide +kernel), by decide +kernel⟩,
   ⟨4, 0x0531, st (up.wr F.KEYS_OTP_STAT_BUSY 1), .otpOwner 4 0x0531, acc (by decide +kernel), by decide +kernel⟩,
   ⟨4, 2, st up, acc (by decide +kernel), by decide +kernel⟩,
   ⟨4, 2, stm (vimg 9 36 up) [(0x20000040, ownerPay 3 1)], acc (by decide +kernel), by decide +kernel⟩,
   ⟨4, 2, stm (vimg 9 36 (otpUp own3)) [(0x20000040, ownerPay 3 2)], acc (by decide +kernel), by decide +kernel⟩,
   ⟨4, 2, stm (vimg 9 36 (otpUp own3)) [(0x20000040, ownerPay 3 1)], acc (by decide +kernel), by decide +kernel⟩,
   ⟨4, 3, st up, acc (by decide +kernel), by decide +kernel⟩,
   ⟨4, 3, stm (vimg 8 40 up) [(0x20000040, patchPay 15 1)], acc (by decide +kernel), by decide +kernel⟩,
   ⟨4, 3, stm (vimg 8 40 (otpUp own3)) [(0x20000040, patchPay 7 2)], acc (by decide +kernel), by decide +kernel⟩,
   ⟨4, 3, stm (vimg 8 40 (otpUp own3)) [(0x20000040, patchPay 7 1)], acc (by decide +kernel), by decide +kernel⟩,
   ⟨run1, st { up with sec := { otpRun := some run1, otp := { rb := [(3, 4)] } } }, by decide +kernel⟩,
   ⟨{ run1 with op := 2, owner := { state := 1, alg := 2 } }, st
      { up with sec := { otpRun := some { run1 with op := 2, owner := { state := 1, alg := 2 } } } }, by
      decide +kernel⟩,
   ⟨{ run1 with op := 3, patch := { addr := 32, used := true } }, st { up with
      sec := { otpRun := some { run1 with op := 3, patch := { addr := 32, used := true } }, otp := own3 } }, by
      decide +kernel⟩,
   ⟨run1, st { up.wr F.KEYS_OTP_STAT_BUSY 1 with sec := { otpRun := some run1 } }, by decide +kernel⟩⟩

/-- States and operands that meet the hypotheses of the clauses of `Verification`. -/
theorem Verification_hypotheses_met :
    (∃ (m : Nat) (s : State),
      let a := s.dev.rd F.KEYS_V_ADDR_VAL
      let n := s.dev.rd F.KEYS_V_LEN_VAL
      Accepts (vCtrlWrite s.mem) m .KEYS_V_CTRL 1 s.dev) ∧
    (∃ (a n : Nat) (s : State),
      s.dev.sec.vRun = some (a, n)) ∧
    (∃ (a n : Nat) (s : State),
      let code := verifyCode s.dev s.mem a n
      let h : Header := ⟨readBytes s.dev s.mem 5 a 128⟩
      s.dev.sec.vRun = some (a, n) ∧ s.dev.rangeError 5 a n false = none) ∧
    (∃ (a n : Nat) (c : RespCode) (s : State),
      s.dev.sec.vRun = some (a, n) ∧ s.dev.rangeError 5 a n false = some c) ∧
    (∃ (m : Nat) (s : State),
      Accepts (vCtrlWrite s.mem) m .KEYS_V_CTRL 8 s.dev) ∧
    (∃ (m : Nat) (s : State),
      let p := s.dev.payload s.mem
      Accepts (vCtrlWrite s.mem) m .KEYS_V_CTRL 16 s.dev) ∧
    (∃ (m : Nat) (s : State),
      Accepts (vCtrlWrite s.mem) m .KEYS_V_CTRL 4 s.dev) ∧
    (∃ (m : Nat) (s : State),
      Accepts (vCtrlWrite s.mem) m .KEYS_V_CTRL 2 s.dev) ∧
    (∃ (m : Nat) (s : State),
      let a := s.dev.payloadAt
      let ok := m = 4 ∧ s.dev.verified [1] = true ∧ s.dev.word .KEYS_V_LOAD = a ∧ safetyBase ≤ a ∧ a + s.dev.word
        .KEYS_V_PLEN ≤ safetyBase + 0x80000
      Accepts protCtrlWrite m .PROT_CTRL 1 s.dev) :=
  ⟨⟨4, stm ((up.wr F.KEYS_V_ADDR_VAL 0x20000000).wr F.KEYS_V_LEN_VAL 128) [(0x20000000, hdr)], acc (by
      decide +kernel)⟩,
   ⟨0x20000000, 256, st { up.wr F.KEYS_V_STAT_BUSY 1 with
      sec := { vRun := some (0x20000000, 256), watch := some (0x20000000, 256) } }, by decide +kernel⟩,
   ⟨0x20000000, 256, stm { up.wr F.KEYS_V_STAT_BUSY 1 with
      sec := { vRun := some (0x20000000, 256), watch := some (0x20000000, 256) } } [(0x20000000, hdr)], by
      decide +kernel, by decide +kernel⟩,
   ⟨0x30000000, 256, .decode, st { up with sec := { vRun := some (0x30000000, 256) } }, by decide +kernel⟩,
   ⟨4, st ((vimg 7 0 up).setWord .KEYS_V_VER 0x01020304), acc (by decide +kernel)⟩,
   ⟨4, stm (vimg 3 80 up) [(0x20000040, profPay)], acc (by decide +kernel)⟩,
   ⟨4, st { up.wr F.KEYS_V_STAT_BUSY 1 with sec := { vRun := some (0x20000000, 256) } }, acc (by decide +kernel)⟩,
   ⟨4, st (vimg 3 80 up), acc (by decide +kernel)⟩,
   ⟨4, st { (vimg 1 64 up).setWord .KEYS_V_LOAD 0x10000040 with
      sec := { watch := some (0x10000000, 4096), payoff := 64 } }, acc (by decide +kernel)⟩⟩

/-- States and operands that meet the hypotheses of the clauses of `AttestationAndUpdate`. -/
theorem AttestationAndUpdate_hypotheses_met :
    (∃ (m : Nat) (s : State),
      let a := s.dev.rd F.KEYS_A_DST_VAL
      Accepts attestCtrlWrite m .KEYS_A_CTRL 1 s.dev) ∧
    (∃ (msg : List (BitVec 8)) (a : Nat) (s : State),
      let data := msg ++ fitTo 3309 (Config.identitySign msg s.dev.freeCount) ++ [0, 0, 0]
      s.memWf ∧ s.dev.sec.aRun = some (msg, a) ∧ a % 8 = 0 ∧ sramBase ≤ a ∧ a + (msg.length + 3312) ≤ sramBase +
      0x1800000 ∧ s.dev.memGated .sram = false) ∧
    (∃ (m : Nat) (s : State),
      let a := s.dev.rd F.KEYS_A_DST_VAL
      let key := fitTo 1952 Config.identityPublicKey
      Accepts attestCtrlWrite m .KEYS_A_CTRL 2 s.dev ∧ s.memWf ∧ a % 8 = 0 ∧ sramBase ≤ a ∧ a + 1952 ≤ sramBase +
      0x1800000 ∧ s.dev.memGated .sram = false) ∧
    (∃ (m : Nat) (s : State),
      Accepts attestCtrlWrite m .KEYS_A_CTRL 2 s.dev ∧ s.dev.rd F.KEYS_A_DST_VAL % 8 ≠ 0) ∧
    (∃ (m : Nat) (v : Word) (s : State),
      let pct := bitsOf v.toNat 0 8
      let p : Page := .SYS 2
      Accepts updSetWrite m .SYS_UPD_SET v.toNat s.dev) :=
  ⟨⟨4, st (up.wr F.KEYS_A_DST_VAL 0x20000008), acc (by decide +kernel)⟩,
   ⟨[1, 2, 3, 4, 5, 6, 7, 8], 0x20000000, st
      { up with sec := { aRun := some ([1, 2, 3, 4, 5, 6, 7, 8], 0x20000000) } }, by decide +kernel, by
      decide +kernel⟩,
   ⟨4, st (up.wr F.KEYS_A_DST_VAL 0x20000008), acc (by decide +kernel), by decide +kernel⟩,
   ⟨4, st (up.wr F.KEYS_A_DST_VAL 0x20000004), acc (by decide +kernel), by decide +kernel⟩,
   ⟨0, 0x8A010028, st up, acc (by decide +kernel)⟩⟩

end Hyps17

namespace Hyps18

/-- A part of the states below: vw. -/
def vw (r : Bool) : Dev :=
      { up.wr F.KEYS_V_STAT_VALID 1 with sec := { watch := some (0x20000010, 256), vRun := if r then some (0x20000010, 256) else none } }

/-- States and operands that meet the hypotheses of `OnlyStoringCommandsTouchMemory`. -/
theorem OnlyStoringCommandsTouchMemory_hypotheses_met :
    ∃ (c : Instr) (s t : State),
      exec c s = .next t ∧ c.stores = false :=
  ⟨.unlockTimeout .CLK, stm up [(0x20000000, [9])], stm up [(0x20000000, [9])], rfl, by decide +kernel⟩

/-- States and operands that meet the hypotheses of the clauses of `WritesOfMemory`. -/
theorem WritesOfMemory_hypotheses_met :
    (∃ (m a n v : Nat) (r : MemRange) (errs : List EccErr) (s : State),
      s.dev.memOpen m a n r ∧ s.memWf ∧ (n < 8 → (meetErrors r a n errs s.dev).touchesBad a n = false)) ∧
    (∃ (m a n v : Nat) (r : MemRange) (errs : List EccErr) (s : State),
      s.dev.canIssue m = true ∧ MemRange.at a = some r ∧ memShape a n = true ∧ s.dev.memCode m r true = .okay ∧ n < 8
      ∧ (meetErrors r a n errs s.dev).touchesBad a n = true) ∧
    (∃ (m a n v : Nat) (r : MemRange) (s : State),
      s.dev.canIssue m = true ∧ MemRange.at a = some r ∧ memShape a n = false) :=
  ⟨⟨0, 0x20000000, 8, 0x0102030405060708, .sram, [⟨0x20000000, true⟩], stm
      { up with memory := { sramOk := true, bad := [0x20000000] } } [(0x20000000, [9]), (0x20000008, [7])], mmo (by
      decide +kernel), by decide +kernel⟩,
   ⟨0, 0x20000003, 1, 0x55, .sram, [], stm { up with memory := { sramOk := true, bad := [0x20000000] } }
      [(0x20000000, [9])], by decide +kernel⟩,
   ⟨0, 0x20000003, 2, 0x55, .sram, stm up [(0x20000000, [9])], by decide +kernel⟩⟩

/-- States and operands that meet the hypotheses of the clauses of `WatchedImages`. -/
theorem WatchedImages_hypotheses_met :
    (∃ (m a n v lo len : Nat) (r : MemRange) (s : State),
      s.dev.memOpen m a n r ∧ s.dev.sec.watch = some (lo, len) ∧ a < lo + len ∧ lo < a + n) ∧
    (∃ (m a n v lo len : Nat) (r : MemRange) (s : State),
      s.dev.memOpen m a n r ∧ s.dev.sec.watch = some (lo, len) ∧ (lo + len ≤ a ∨ a + n ≤ lo)) :=
  ⟨⟨0, 0x20000000, 32, 5, 0x20000010, 256, .sram, st (vw true), mmo (by decide +kernel), by decide +kernel⟩,
   ⟨0, 0x20000110, 1, 5, 0x20000010, 256, .sram, st (vw false), mmo (by decide +kernel), by decide +kernel⟩⟩

/-- States and operands that meet the hypotheses of the clauses of `VersionsAreFixed`. -/
theorem VersionsAreFixed_hypotheses_met :
    (∃ p : Page,
      pageExists p = true) ∧
    (∃ (m v : Nat) (p : Page) (errs : List EccErr) (s : State),
      pageExists p = true) ∧
    (∃ (c : Instr) (s t : State) (p : Page),
      (c = .pinReset ∨ c = .resetRelease ∨ (∃ m v, c = .resetHost m v ∨ c = .resetSafety m v ∨ c = .resetService m v)
      ∨ (∃ src id, c = .powerOnReset src id) ∨ ∃ p forced, c = .blockResetDrained p forced) ∧ (∀ p, pageExists p =
      true → s.dev.word (.PG_VER p) = 0x10000) ∧ exec c s = .next t ∧ pageExists p = true) :=
  ⟨⟨.CLK, by decide +kernel⟩,
   ⟨4, 0xFFFFFFFF, .CLK, [], st up, by decide +kernel⟩,
   ⟨.resetRelease, st up, st up, .CLK, .inr (.inl rfl), fun p _ => by cases p <;> rfl, rfl, by decide +kernel⟩⟩

end Hyps18

end Sys2Proof.Tests
end

namespace Sys2Proof.Machine

/-! ## The unlock sequence of a page (R33, R34) -/

/-! ### What the operations on an unlock sequence do -/

theorem closeUnlock_unlockOf (p : Page) (d : Dev) : (closeUnlock p d).unlockOf p = none := by
  have h : (d.unlocks.filter fun e => e.1 != p).find? (fun e => e.1 == p) = none := by
    simp [List.find?_eq_none]
  simp only [Dev.unlockOf, closeUnlock, h, Option.map_none]

theorem failUnlock_unlockOf (p : Page) (d : Dev) : (failUnlock p d).unlockOf p = none :=
  closeUnlock_unlockOf p d

theorem failUnlock_keyFail (p : Page) (d : Dev) : (failUnlock p d).rd (F.PG_ERR_KEY_FAIL p) = 1 :=
  Dev.rd_wr_same _ _ _ (by decide : 1 + 1 ≤ 32)

theorem failUnlock_sameRegs (p : Page) (d : Dev) : SameRegs d (failUnlock p d) [.PG_ERR p] :=
  SameRegs.wr (closeUnlock p d) (F.PG_ERR_KEY_FAIL p) 1 List.mem_cons_self

@[simp] theorem failUnlock_now (p : Page) (d : Dev) : (failUnlock p d).now = d.now := rfl

/-- A field outside the registers that may have changed. -/
theorem SameRegs.rd {d e : Dev} {l : List Reg} (h : SameRegs d e l) {f : FRef} (hf : f.reg ∉ l) : e.rd f = d.rd f :=
  Dev.rd_congr (h _ hf)

/-- `ENABLE` is a bit of its own beside `EXPERT_EN`. -/
theorem rd_enable_wr_expertEn (d : Dev) (p : Page) (v : Nat) :
    (d.wr (F.PG_CTRL_EXPERT_EN p) v).rd (F.PG_CTRL_ENABLE p) = d.rd (F.PG_CTRL_ENABLE p) :=
  Dev.rd_wr_apart _ _ _ _ (by decide : 2 + 1 ≤ 32) (.inr (.inr (by decide : 0 + 1 ≤ 2)))

/-- The window of a sequence depends on BUSCLK's source and on the divider of O2 alone (R33, R73). -/
theorem SameRegs.unlockEnd {d e : Dev} {p : Page} (h : SameRegs d e [.PG_ERR p]) (u : Unlock) :
    e.unlockEnd u = d.unlockEnd u := by
  have hsrc : e.rd F.CLK_DOMSEL_MEM = d.rd F.CLK_DOMSEL_MEM := h.rd (by simp)
  have hdiv : e.rd (F.CLK_OUT_CFG_DIV 2) = d.rd (F.CLK_OUT_CFG_DIV 2) := h.rd (by simp)
  simp only [Dev.unlockEnd, Dev.busNs, Dev.outPs, hsrc, hdiv]

/-! ### What a write to `PG_KEY` does, case by case -/

section
variable {p : Page} {d : Dev} {u : Unlock} (m v w : Nat)

theorem expireUnlock_none (h : d.unlockOf p = none) : expireUnlock p d = d := by
  simp only [expireUnlock, h]

theorem expireUnlock_open (h : d.unlockOf p = some u) (hw : d.now ≤ d.unlockEnd u) : expireUnlock p d = d := by
  simp only [expireUnlock, h, if_neg (Nat.not_lt.2 hw)]

theorem expireUnlock_over (h : d.unlockOf p = some u) (hw : d.unlockEnd u < d.now) :
    expireUnlock p d = failUnlock p d := by
  simp only [expireUnlock, h, if_pos hw]

/-- No sequence is open once the expired one has failed: 0x5EED opens one, another value is ignored. -/
theorem keyWrite_closed (h : (expireUnlock p d).unlockOf p = none) :
    keyWrite p m v w d = if v = 0x5EED then
        { expireUnlock p d with unlocks := (p, ⟨m, (expireUnlock p d).now⟩) :: (expireUnlock p d).unlocks }
      else expireUnlock p d := by
  simp only [keyWrite, h]

theorem keyWrite_succeeds (h : d.unlockOf p = some u) (hw : d.now ≤ d.unlockEnd u) (hm : u.master = m)
    (hv : v = d.word (.PG_ID p)) (hl : d.on (F.PG_LOCK_LOCK_EXPERT p) = false) :
    keyWrite p m v w d = (closeUnlock p d).wr (F.PG_CTRL_EXPERT_EN p) 1 := by
  have hok : m = u.master ∧ v = d.word (.PG_ID p) ∧ ¬ d.on (F.PG_LOCK_LOCK_EXPERT p) = true :=
    ⟨hm.symm, hv, by simp [hl]⟩
  simp only [keyWrite, expireUnlock_open h hw, h, if_pos hok]

theorem keyWrite_fails (h : d.unlockOf p = some u) (hw : d.now ≤ d.unlockEnd u)
    (hbad : u.master ≠ m ∨ v ≠ d.word (.PG_ID p) ∨ d.on (F.PG_LOCK_LOCK_EXPERT p) = true) :
    keyWrite p m v w d = failUnlock p d := by
  have hno : ¬ (m = u.master ∧ v = d.word (.PG_ID p) ∧ ¬ d.on (F.PG_LOCK_LOCK_EXPERT p) = true) := by
    rintro ⟨hm, hv, hl⟩
    rcases hbad with h | h | h
    exacts [h hm.symm, h hv, hl h]
  simp only [keyWrite, expireUnlock_open h hw, h, if_neg hno]

/-- A sequence that has just been opened is the one that is open. -/
theorem unlockOf_opened (p : Page) (d : Dev) (u : Unlock) :
    ({ d with unlocks := (p, u) :: d.unlocks } : Dev).unlockOf p = some u := by
  simp [Dev.unlockOf]

end

/-! ### The access of an accepted write -/

/-- What the effect of a write to `PG_KEY` of page `p` finds on a device `d`: at most a cause of R35 or R36 has been
logged in `PG_ERR`, and `KEY_FAIL` is not among them. -/
structure KeySees (p : Page) (d e : Dev) : Prop where
  regs    : SameRegs d e [.PG_ERR p]
  keyFail : e.rd (F.PG_ERR_KEY_FAIL p) = d.rd (F.PG_ERR_KEY_FAIL p)
  open_   : e.unlockOf p = d.unlockOf p
  now     : e.now = d.now

theorem logWrite_keyFail (r : Reg) (v : Nat) (d : Dev) :
    (logWrite r v d).rd (F.PG_ERR_KEY_FAIL r.page) = d.rd (F.PG_ERR_KEY_FAIL r.page) := by
  have hlocked (d : Dev) : (d.wr (F.PG_ERR_LOCKED r.page) 1).rd (F.PG_ERR_KEY_FAIL r.page) =
      d.rd (F.PG_ERR_KEY_FAIL r.page) :=
    Dev.rd_wr_apart _ _ _ _ (by decide : 2 + 1 ≤ 32) (.inr (.inr (by decide : 1 + 1 ≤ 2)))
  have hdenied (d : Dev) : (d.wr (F.PG_ERR_EXPERT_DENIED r.page) 1).rd (F.PG_ERR_KEY_FAIL r.page) =
      d.rd (F.PG_ERR_KEY_FAIL r.page) :=
    Dev.rd_wr_apart _ _ _ _ (by decide : 0 + 1 ≤ 32) (.inr (.inl (by decide : 0 + 1 ≤ 1)))
  exact (Dev.when_keeps (·.rd _) _ _ (hdenied _)).trans (Dev.when_keeps (·.rd _) _ _ (hlocked _))

theorem logged_keySees (p : Page) (d : Dev) (m v : Nat) : KeySees p d (d.logged m (.PG_KEY p) v) := by
  obtain ⟨w, k, hframe, hregs⟩ := logged_frame d m (.PG_KEY p) v
  refine ⟨fun r hr => ?_, logWrite_keyFail (.PG_KEY p) v (respond m 0 d), ?_, ?_⟩
  · exact logged_get d m v (by simpa [Reg.page] using hr)
  · rw [hframe]; rfl
  · rw [hframe]

/-- A command that is an accepted write to `PG_KEY` answers what the effect makes of the device that it finds, with the
write noted in the record of the instant. -/
theorem pgKeyWrite_answers {m : Nat} {p : Page} {v : Word} {s : State} {q : State → Prop}
    (h : Accepts (keyWrite p) m (.PG_KEY p) v.toNat s.dev)
    (hq : ∀ e w, KeySees p s.dev e →
      q { s with dev := (keyWrite p m v.toNat w e).noteWrite (.PG_KEY p) m v.toNat (s.dev.regs.get (.PG_KEY p)) }) :
    Answers (.pgKeyWrite m p v) s q :=
  ⟨_, writeRow_accepts h, hq _ _ (logged_keySees p s.dev m v.toNat)⟩

theorem unlockTimeout_answers {p : Page} {s : State} {u : Unlock} (h : s.dev.unlockOf p = some u) {q : State → Prop}
    (hq : q { s with dev := failUnlock p (s.dev.jumpTo (s.dev.unlockEnd u)) }) : Answers (.unlockTimeout p) s q := by
  refine ⟨_, ?_, hq⟩
  show execUnlockTimeout p s = _
  simp only [execUnlockTimeout, liftDev, h]

/-- A second write that does not complete the sequence of `d` fails it, without effect on `EXPERT_EN`. -/
theorem KeySees.failed {p : Page} {d e : Dev} (h : KeySees p d e) :
    (failUnlock p e).unlockOf p = none ∧ (failUnlock p e).rd (F.PG_ERR_KEY_FAIL p) = 1 ∧
      SameRegs d (failUnlock p e) [.PG_ERR p] :=
  ⟨failUnlock_unlockOf p e, failUnlock_keyFail p e, h.regs.trans (failUnlock_sameRegs p e)⟩

/-- Settles O10: each clause is one case of `keyWrite`, on the device that the effect of an accepted write finds; the
end of the window is UNLOCK_TIMEOUT. -/
theorem unlockSequence : Obligations.UnlockSequence := by
  refine ⟨?opens, ?succeeds, ?fails, ?timesOut, ?late, ?ignored⟩
  case opens =>
    intro m p v s hacc hnone hkey
    refine pgKeyWrite_answers hacc fun e w he => ?_
    have hn := he.open_.trans hnone
    rw [keyWrite_closed _ _ _ (by rwa [expireUnlock_none hn]), expireUnlock_none hn, if_pos hkey, he.now]
    exact ⟨unlockOf_opened p e _, he.regs, he.keyFail⟩
  case succeeds =>
    intro m p v s u hacc hopen hm hid hlock hin
    refine pgKeyWrite_answers hacc fun e w he => ?_
    have hword : v.toNat = e.word (.PG_ID p) := by rw [hid, Dev.word, Dev.word, he.regs _ (by simp)]
    have hfree : e.on (F.PG_LOCK_LOCK_EXPERT p) = false := by rw [Dev.on, he.regs.rd (by simp)]; exact hlock
    have hwin : e.now ≤ e.unlockEnd u := by rwa [he.now, he.regs.unlockEnd]
    rw [keyWrite_succeeds _ _ _ (he.open_.trans hopen) hwin hm hword hfree]
    refine ⟨closeUnlock_unlockOf p e, Dev.rd_wr_same _ _ _ (by decide : 2 + 1 ≤ 32), ?_, ?_⟩
    · exact (he.regs.mono (by simp)).trans (SameRegs.wr (closeUnlock p e) _ 1 (by simp))
    · exact (rd_enable_wr_expertEn (closeUnlock p e) p 1).trans (he.regs.rd (by simp))
  case fails =>
    intro m p v s u hacc hopen hin hbad
    refine pgKeyWrite_answers hacc fun e w he => ?_
    have hbad' : u.master ≠ m ∨ v.toNat ≠ e.word (.PG_ID p) ∨ e.on (F.PG_LOCK_LOCK_EXPERT p) = true := by
      rwa [Dev.word, he.regs _ (by simp), Dev.on, he.regs.rd (by simp)]
    have hwin : e.now ≤ e.unlockEnd u := by rwa [he.now, he.regs.unlockEnd]
    rw [keyWrite_fails _ _ _ (he.open_.trans hopen) hwin hbad']
    obtain ⟨hclosed, hfail, hregs⟩ := he.failed
    exact ⟨hclosed, hfail, hregs, hregs.rd (by simp)⟩
  case timesOut =>
    intro p s u hopen
    refine unlockTimeout_answers hopen ?_
    have hregs : SameRegs s.dev (failUnlock p (s.dev.jumpTo (s.dev.unlockEnd u))) [.PG_ERR p] := by
      intro r hr
      rw [failUnlock_sameRegs p _ r hr, Dev.jumpTo_regs]
    exact ⟨failUnlock_unlockOf p _, failUnlock_keyFail p _, hregs, hregs.rd (by simp), s.dev.jumpTo_now _⟩
  case late =>
    intro m p v s u hacc hopen hover
    refine pgKeyWrite_answers hacc fun e w he => ?_
    have hout : e.unlockEnd u < e.now := by rwa [he.now, he.regs.unlockEnd]
    obtain ⟨hclosed, hfail, hregs⟩ := he.failed
    rw [keyWrite_closed _ _ _ (by rwa [expireUnlock_over (he.open_.trans hopen) hout]),
      expireUnlock_over (he.open_.trans hopen) hout, failUnlock_now, he.now]
    split
    · exact ⟨hfail, hregs, unlockOf_opened p _ _⟩
    · exact ⟨hfail, hregs, hclosed⟩
  case ignored =>
    intro m p v s hacc hnone hkey
    refine pgKeyWrite_answers hacc fun e w he => ?_
    have hn := he.open_.trans hnone
    rw [keyWrite_closed _ _ _ (by rwa [expireUnlock_none hn]), expireUnlock_none hn, if_neg hkey]
    exact ⟨hn, he.keyFail, he.regs⟩

end Sys2Proof.Machine

namespace Sys2Proof.Machine

/-! ## The version of a page (R430) -/

/-! ### What leaves the word of `PG_VER` of a page as it is -/

/-- The word of `PG_VER` of a page. -/
def RegStore.ver (l : RegStore) (q : Page) : Word := l.get (.PG_VER q)

section
variable (q : Page) (d : Dev)

@[simp] theorem Dev.wr_ver {f : FRef} (v : Nat) (h : f.reg ≠ .PG_VER q) :
    (d.wr f v).regs.ver q = d.regs.ver q := d.get_wr_ne v h

@[simp] theorem Dev.wrInt_ver {f : FRef} (v : Int) (h : f.reg ≠ .PG_VER q) :
    (d.wrInt f v).regs.ver q = d.regs.ver q := d.get_wr_ne _ h

@[simp] theorem Dev.count_ver {f : FRef} (n : Nat) (h : f.reg ≠ .PG_VER q) :
    (d.count f n).regs.ver q = d.regs.ver q := d.get_wr_ne _ h

@[simp] theorem Dev.setWord_ver {r : Reg} (v : Nat) (h : r ≠ .PG_VER q) :
    (d.setWord r v).regs.ver q = d.regs.ver q := d.get_setWord_ne v h

@[simp] theorem Dev.setBit_ver {f : FRef} (i : Nat) (h : f.reg ≠ .PG_VER q) :
    (d.setBit f i).regs.ver q = d.regs.ver q := RegStore.get_set_ne _ _ h

@[simp] theorem Dev.clrBit_ver {f : FRef} (i : Nat) (h : f.reg ≠ .PG_VER q) :
    (d.clrBit f i).regs.ver q = d.regs.ver q := RegStore.get_set_ne _ _ h

@[simp] theorem Dev.when_ver (c : Bool) {f : Dev → Dev} (h : (f d).regs.ver q = d.regs.ver q) :
    (d.when c f).regs.ver q = d.regs.ver q := Dev.when_keeps (·.regs.ver q) d c h

@[simp] theorem Dev.each_ver {α : Type} (l : List α) {f : α → Dev → Dev}
    (h : ∀ a d, (f a d).regs.ver q = d.regs.ver q) :
    (d.each l f).regs.ver q = d.regs.ver q := Dev.each_keeps (·.regs.ver q) h l d

@[simp] theorem Dev.latch_ver (n : Nat) : (d.latch n).regs.ver q = d.regs.ver q :=
  latch_get d n (by simp [latchList, latchRegs])

@[simp] theorem Dev.latchAsserted_ver : d.latchAsserted.regs.ver q = d.regs.ver q := by
  simp [Dev.latchAsserted]

@[simp] theorem Dev.irPulse_ver (s : Nat) : (d.irPulse s).regs.ver q = d.regs.ver q :=
  (d.irPulse_only s).regs _ (by simp)

@[simp] theorem Dev.blkErr_ver (p : Page) (bit : Nat) : (d.blkErr p bit).regs.ver q = d.regs.ver q :=
  (d.blkErr_only p bit).regs _ (by simp)

@[simp] theorem Dev.progStart_ver (p : Page) (a b : Nat) :
    (d.progStart p a b).regs.ver q = d.regs.ver q := (d.progStart_only p a b).regs _ (by simp)

/-! The timebase and its step (R81 to R90). -/

@[simp] theorem timeRegs_ver : (timeRegs d).regs.ver q = d.regs.ver q := by
  have hrate (c : Bool) : (d.when c Dev.noteRate).regs.ver q = d.regs.ver q :=
    Dev.when_keeps (·.regs.ver q) d c rfl
  simp [timeRegs, hrate]

@[simp] theorem Dev.setTime_ver (t : TimeState) : (d.setTime t).regs.ver q = d.regs.ver q := by
  simp [Dev.setTime]

@[simp] theorem landStep_ver : (landStep d).regs.ver q = d.regs.ver q := by
  simp [landStep, Dev.noteRate]

@[simp] theorem shiftEdges_ver (x : Int) : (shiftEdges x d).regs.ver q = d.regs.ver q := by
  simp [shiftEdges]

@[simp] theorem landAll_ver : (landAll d).regs.ver q = d.regs.ver q := by
  unfold landAll
  split
  · rfl
  · simp

/-! Blocks and converters. -/

@[simp] theorem refSettle_ver : (refSettle d).regs.ver q = d.regs.ver q := by
  simp [refSettle]

@[simp] theorem convViews_ver (c : Nat) : (convViews c d).regs.ver q = d.regs.ver q := by
  simp [convViews]

@[simp] theorem Dev.setConv_ver (c : Nat) (x : AdcConv) :
    (d.setConv c x).regs.ver q = d.regs.ver q := by
  simp [Dev.setConv]

@[simp] theorem adcReset_ver (c : Nat) : (adcReset c d).regs.ver q = d.regs.ver q := by
  simp [adcReset]

@[simp] theorem putCar_ver (c : Nat) (x : Carrier) : (putCar c x d).regs.ver q = d.regs.ver q := by
  simp [putCar, Dev.setCar]

@[simp] theorem cancelArms_ver (fuel c : Nat) :
    (cancelArms fuel c d).regs.ver q = d.regs.ver q := by
  induction fuel generalizing c d with
  | zero => rfl
  | succ fuel ih =>
    refine Dev.each_ver q d _ fun x d => Dev.when_ver q d _ ?_
    simp [carRefused, ih]

@[simp] theorem carOff_ver (c : Nat) : (carOff c d).regs.ver q = d.regs.ver q := by
  simp [carOff]

@[simp] theorem setEng_ver (e : Nat) (g : Engine) : (d.setEng e g).regs.ver q = d.regs.ver q := by
  unfold Dev.setEng
  cases g.run <;> simp

@[simp] theorem engineReset_ver (e : Nat) : (engineReset e d).regs.ver q = d.regs.ver q := by
  simp [engineReset]

@[simp] theorem dmaReset_ver (p : Nat) : (dmaReset p d).regs.ver q = d.regs.ver q := by
  simp [dmaReset, Dev.setChan]

@[simp] theorem Dev.condOff_ver (n : Nat) : (d.condOff n).regs.ver q = d.regs.ver q := by
  simp [Dev.condOff]

@[simp] theorem thermReset_ver : (thermReset d).regs.ver q = d.regs.ver q := by
  simp [thermReset]

@[simp] theorem setSvLive_ver (s : Nat) (live : Bool) (flags : Nat) :
    (setSvLive s live flags d).regs.ver q = d.regs.ver q := by
  simp [setSvLive, setSvWord]

@[simp] theorem stationReset_ver (p : Nat) : (stationReset p d).regs.ver q = d.regs.ver q := by
  unfold stationReset
  split_ifs <;> simp

@[simp] theorem liveLink_ver (x : Nat) : (liveLink x d).regs.ver q = d.regs.ver q := by
  simp [liveLink]

@[simp] theorem showOtp_ver : (showOtp d).regs.ver q = d.regs.ver q := by
  simp [showOtp]

@[simp] theorem showFactory_ver : (showFactory d).regs.ver q = d.regs.ver q := by
  simp [showFactory]

@[simp] theorem coreUp_ver : (coreUp d).regs.ver q = d.regs.ver q := by
  simp [coreUp]

@[simp] theorem copyScore_ver : (copyScore d).regs.ver q = d.regs.ver q := by
  simp [copyScore]

@[simp] theorem fcLost_ver : (fcLost d).regs.ver q = d.regs.ver q := by
  simp [fcLost, setCur]

@[simp] theorem recordKinds_ver : (recordKinds d).regs.ver q = d.regs.ver q := by
  simp [recordKinds]

@[simp] theorem startBoot_ver : (startBoot d).regs.ver q = d.regs.ver q := by
  simp [startBoot]

@[simp] theorem serviceRelease_ver : (serviceRelease d).regs.ver q = d.regs.ver q := by
  simp [serviceRelease]

@[simp] theorem startBlockReset_ver (p : Page) : (startBlockReset p d).regs.ver q = d.regs.ver q := by
  unfold startBlockReset
  split <;> simp

@[simp] theorem switchUp_ver (i : Nat) : (switchUp i d).regs.ver q = d.regs.ver q := by
  simp [switchUp]

@[simp] theorem domainState_ver (i : Nat) (keep : Bool) :
    (domainState i keep d).regs.ver q = d.regs.ver q := by
  unfold domainState
  split <;> rfl

@[simp] theorem blockHidden_ver (p : Page) : (blockHidden p d).regs.ver q = d.regs.ver q := by
  unfold blockHidden
  split
  case h_10 => split <;> simp -- LOOP, by engine pages and the others
  all_goals simp [safeLost]

@[simp] theorem blockBefore_ver (p : Page) : (blockBefore p d).regs.ver q = d.regs.ver q := by
  unfold blockBefore
  split <;> simp

end

/-! ### What a reset leaves in `PG_VER` (R7, R8, R363, R430) -/

/-- What holds of a register's word and of its reset by kind `k`, a reset of that kind keeps. -/
theorem RegStore.resetBy_keeps {l : RegStore} {r : Reg} (k : Option Keep) (reach : Reg → Bool) {P : Word → Prop}
    (hP : ∀ w, P w → P (BitVec.ofNat 32 (resetWordOf k r w.toNat))) (h : P (l.get r)) :
    P ((l.resetBy k reach).get r) := by
  induction l with
  | nil => exact h
  | cons e t ih =>
    obtain ⟨x, w⟩ := e
    have hstep : (RegStore.resetBy ((x, w) :: t) k reach).get r =
        if x = r then (if reach x then BitVec.ofNat 32 (resetWordOf k x w.toNat) else w)
        else (RegStore.resetBy t k reach).get r := by
      by_cases hx : reach x = true <;> simp [RegStore.resetBy, RegStore.get, hx]
    rw [hstep]
    by_cases hr : x = r
    · subst hr
      rw [RegStore.get, if_pos rfl] at h
      rw [if_pos rfl]
      split
      · exact hP w h
      · exact h
    · rw [RegStore.get, if_neg hr] at h
      rw [if_neg hr]
      exact ih h

/-- `PG_VER` of a page reads the value that silicon fixes (R430). -/
def Dev.verFixed (q : Page) (d : Dev) : Prop := d.regs.ver q = 0x10000

/-- What leaves the word as it is leaves it fixed. -/
theorem Dev.verFixed.of_ver {q : Page} {d e : Dev} (h : d.verFixed q) (k : e.regs.ver q = d.regs.ver q) :
    e.verFixed q :=
  k.trans h

theorem resetWordOf_ver (k : Option Keep) (q : Page) : resetWordOf k (.PG_VER q) 0x10000 = 0x10000 := by
  cases k with
  | none => rfl
  | some k => cases k <;> rfl

theorem RegStore.resetBy_verFixed {l : RegStore} {q : Page} (h : l.ver q = 0x10000) (k : Option Keep)
    (reach : Reg → Bool) : (l.resetBy k reach).ver q = 0x10000 :=
  RegStore.resetBy_keeps (P := (· = 0x10000)) k reach
    (by rintro w rfl; exact congrArg (BitVec.ofNat 32) (resetWordOf_ver k q)) h

/-- Fields of other registers, put back after a reset, leave it as it is. -/
theorem Dev.restore_save_ver (q : Page) (d e : Dev) {l : List FRef} (h : ∀ f ∈ l, f.reg ≠ .PG_VER q) :
    (d.restore (e.save l)).regs.ver q = d.regs.ver q := by
  induction l generalizing d with
  | nil => rfl
  | cons f t ih =>
    obtain ⟨hf, ht⟩ := List.forall_mem_cons.1 h
    exact (ih (d.wr f (e.rd f)) ht).trans (d.wr_ver q _ hf)

theorem liveFields_not_ver (q p : Page) (d : Dev) : ∀ f ∈ d.liveFields p, f.reg ≠ .PG_VER q := by
  unfold Dev.liveFields progFields
  split
  case h_3 => split <;> simp -- SYS page 1, with the progress of a clear that runs
  all_goals simp

theorem powerFields_not_ver (q : Page) (d : Dev) : ∀ f ∈ d.powerFields, f.reg ≠ .PG_VER q := by
  unfold Dev.powerFields progFields
  split <;> simp

theorem blockFields_not_ver (q p : Page) (d : Dev) : ∀ f ∈ d.blockFields p, f.reg ≠ .PG_VER q := by
  unfold Dev.blockFields
  split
  case h_1 => exact powerFields_not_ver q d -- PWR
  case h_4 => split <;> simp [progFields] -- SVCPORT, with the progress of a boot that runs
  case h_8 => -- EDGE, with the carriers of the page
    intro f hf
    obtain ⟨c, -, hc⟩ := List.mem_flatMap.1 hf
    simp only [List.mem_cons, List.not_mem_nil, or_false] at hc
    rcases hc with rfl | rfl | rfl | rfl | rfl <;> simp
  all_goals simp [pairFields]

theorem allLive_not_ver (q : Page) (d : Dev) (h : Nat) : ∀ f ∈ d.allLive h, f.reg ≠ .PG_VER q := by
  intro f hf
  rcases List.mem_append.1 hf with hf | hf
  · obtain ⟨p, -, hp⟩ := List.mem_flatMap.1 hf
    exact liveFields_not_ver q p d f hp
  · split at hf
    · rcases List.mem_append.1 hf with hf | hf
      · exact powerFields_not_ver q d f hf
      · simp [List.mem_singleton.1 hf]
    · cases hf

section
variable {q : Page} {d : Dev}

theorem changeAsserted_verFixed {f : Dev → Dev} (h : (f d).verFixed q) : (changeAsserted f d).verFixed q :=
  h.of_ver (by simp [changeAsserted])

theorem changeAlive_verFixed {f : Dev → Dev} (h : (f d).verFixed q) : (changeAlive f d).verFixed q :=
  h.of_ver (by simp [changeAlive])

theorem landFirst_verFixed {f : Dev → Dev} (hf : ∀ x : Dev, x.verFixed q → (f x).verFixed q) (h : d.verFixed q) :
    (landFirst f d).verFixed q := by
  unfold landFirst
  dsimp only
  split
  · exact hf _ (h.of_ver (landAll_ver q d))
  · exact hf d h

theorem Dev.when_verFixed {c : Bool} {f : Dev → Dev} (hf : d.verFixed q → (f d).verFixed q) (h : d.verFixed q) :
    (d.when c f).verFixed q := by
  cases c with
  | false => exact h
  | true => exact hf h

theorem Dev.each_verFixed {α : Type} {f : α → Dev → Dev} (hf : ∀ a (x : Dev), x.verFixed q → (f a x).verFixed q)
    (l : List α) (h : d.verFixed q) : (d.each l f).verFixed q := by
  induction l generalizing d with
  | nil => exact h
  | cons a t ih => exact ih (hf a d h)

/-! Block resets. -/

theorem resetPage_verFixed (p : Page) (h : d.verFixed q) : (resetPage p d).verFixed q := by
  have hbefore : (blockBefore p d).regs.ver q = 0x10000 := (blockBefore_ver q d p).trans h
  have hlive : ∀ f ∈ (blockBefore p d).liveFields p ++ (blockBefore p d).blockFields p, f.reg ≠ .PG_VER q :=
    List.forall_mem_append.2 ⟨liveFields_not_ver q p _, blockFields_not_ver q p _⟩
  unfold resetPage
  dsimp only
  split <;>
    simp only [Dev.verFixed, Dev.latchAsserted_ver, liveLink_ver, blockHidden_ver, Dev.restore_save_ver q _ _ hlive,
      RegStore.resetBy_verFixed hbefore]

theorem blockReset_verFixed (p : Page) (h : d.verFixed q) : (blockReset p d).verFixed q := by
  have hpage := resetPage_verFixed p h
  unfold blockReset
  split
  · exact changeAsserted_verFixed hpage
  · exact changeAlive_verFixed hpage
  · exact hpage

/-! Power domains, which the release of a reset switches. -/

theorem domainRegs_verFixed (i : Nat) (keep : Bool) (h : d.verFixed q) : (domainRegs i keep d).verFixed q := by
  simp only [domainRegs, Dev.verFixed]
  exact RegStore.resetBy_verFixed h none _

theorem switchDown_verFixed (i : Nat) (h : d.verFixed q) : (switchDown i d).verFixed q := by
  have hstat : ((d.clrBit F.PWR_DOM_STAT_UP i).setBit F.PWR_DOM_STAT_TRANS i).verFixed q := h.of_ver (by simp)
  have hoff (keep : Bool) : (domainState i keep (domainRegs i keep
      ((d.clrBit F.PWR_DOM_STAT_UP i).setBit F.PWR_DOM_STAT_TRANS i))).verFixed q :=
    (domainRegs_verFixed i keep hstat).of_ver (domainState_ver q _ i keep)
  simp only [switchDown, Dev.verFixed]
  split
  · exact changeAsserted_verFixed (hoff _)
  · exact hoff _

theorem applyWanted_verFixed (h : d.verFixed q) : (applyWanted d).verFixed q := by
  refine Dev.each_verFixed (fun i x hx => ?_) _ h
  split
  · exact hx.of_ver (switchUp_ver q x i)
  · exact switchDown_verFixed i hx

theorem powerUp_verFixed (h : d.verFixed q) : (powerUp d).verFixed q :=
  applyWanted_verFixed (h.of_ver (by simp))

/-! Pin, host, safety, service and power-on resets. -/

theorem wholeReset_verFixed (k : Nat) (h : d.verFixed q) : (wholeReset k d).verFixed q := by
  unfold wholeReset
  simp only [Dev.verFixed, liveLink_ver, showOtp_ver, timeRegs_ver, Dev.restore_save_ver q _ _ (allLive_not_ver q d k)]
  exact RegStore.resetBy_verFixed h _ _

theorem serviceEntry_verFixed (h : d.verFixed q) : (serviceEntry d).verFixed q := by
  have hregs : ({ d with regs := d.regs.resetBy (some .V) fun r => r.page == .STATION 15 } : Dev).verFixed q := by
    simp only [Dev.verFixed]
    exact RegStore.resetBy_verFixed h (some .V) _
  exact hregs.of_ver (by simp [serviceEntry])

theorem enterReset_verFixed (k : Nat) (h : d.verFixed q) : (enterReset k d).verFixed q := by
  simp only [enterReset, Dev.verFixed]
  split
  · exact h
  · split
    · exact serviceEntry_verFixed h
    · dsimp only
      exact wholeReset_verFixed k (Dev.verFixed.of_ver h (by simp))

theorem wholeRelease_verFixed (k : Nat) (h : d.verFixed q) : (wholeRelease k d).verFixed q := by
  have hreset : (if k = 1 then coreUp d else wholeReset k d).verFixed q := by
    split
    · exact h.of_ver (coreUp_ver q d)
    · exact wholeReset_verFixed k h
  have hup := powerUp_verFixed (hreset.of_ver (recordKinds_ver q _))
  exact hup.of_ver (by simp [wholeRelease])

theorem reqWrite_verFixed (m v w : Nat) (h : d.verFixed q) : (reqWrite m v w d).verFixed q := by
  unfold reqWrite hostReset
  split
  · exact h.of_ver (d.blkErr_ver q _ _)
  · dsimp only
    split
    · refine enterReset_verFixed 3 ?_
      split <;> exact h
    · exact enterReset_verFixed 4 h
    · exact enterReset_verFixed 5 h
    · exact h

end

/-! ### Accesses (R4, R41 to R43) -/

section
variable (q : Page) (d : Dev)

@[simp] theorem captureBerr_ver (m addr : Nat) (write size : Bool) (c : RespCode) :
    (captureBerr m addr write size c d).regs.ver q = d.regs.ver q := by
  unfold captureBerr
  dsimp only
  split
  · simp
  · simp [Dev.setWords]

@[simp] theorem classError_ver (m : Nat) (c : RespCode) : (classError m c d).regs.ver q = d.regs.ver q := by
  unfold classError
  split <;> simp

@[simp] theorem busError_ver (m addr : Nat) (write size : Bool) (c : RespCode) :
    (busError m addr write size c d).regs.ver q = d.regs.ver q := by
  cases c <;> simp [busError]

@[simp] theorem logged_ver (m : Nat) (r : Reg) (v : Nat) : (d.logged m r v).regs.ver q = d.regs.ver q :=
  logged_get d m v (by simp)

end

/-- What holds of the word on the device that a register's effect finds and is kept by the effect, every write of that
register keeps, whatever its response. -/
theorem busWriteWith_keeps_ver {q : Page} {d : Dev} {eff : Effect} {m : Nat} {r : Reg} {v : Nat} {x : Word}
    (heff : ∀ e : Dev, e.regs.ver q = x → (eff m v (d.merged m r v) e).regs.ver q = x) (h : d.regs.ver q = x) :
    (d.busWriteWith eff m r v).regs.ver q = x := by
  have hlogged : (d.logged m r v).regs.ver q = x := (logged_ver q d m r v).trans h
  unfold Dev.busWriteWith
  split
  · split
    · dsimp only
      by_cases hl : d.lockedOut r = true
      · rw [if_pos hl]; exact hlogged
      · rw [if_neg hl]; exact heff _ hlogged
    · exact (busError_ver q d _ _ _ _ _).trans h
  · exact h

/-- `PG_VER` has fields of access code RO alone: no written word reaches it. -/
theorem merged_ver (d : Dev) (m : Nat) (p : Page) (v : Nat) : d.merged m (.PG_VER p) v = d.word (.PG_VER p) := by
  have hfields : (Reg.PG_VER p).fields = [⟨31, 16, .RO, 1, kPHSVBL⟩, ⟨15, 0, .RO, 0, kPHSVBL⟩] := rfl
  simp [Dev.merged, hfields, Dev.takes]

theorem applyW1_ver (p : Page) (v w : Nat) : applyW1 (.PG_VER p) v w = w := rfl

theorem plainEffect_ver (q p : Page) (d e : Dev) (m v : Nat) (h : e.regs.ver q = d.regs.ver q) :
    (plainEffect (.PG_VER p) m v (d.merged m (.PG_VER p) v) e).regs.ver q = d.regs.ver q := by
  simp only [plainEffect, applyW1_ver, merged_ver]
  by_cases hq : Reg.PG_VER p = .PG_VER q
  · cases hq
    simp [RegStore.ver, Dev.setWord, Dev.word]
  · exact (e.setWord_ver q _ hq).trans h

/-! ### The address of `PG_VER` (R24 to R27) -/

theorem Page.base_aligned (p : Page) : p.base % 0x1000 = 0 := by
  cases p <;> simp only [Page.base] <;> omega

theorem addr_ver (p : Page) : (Reg.PG_VER p).addr = p.base + 4 := rfl

/-- Every address of a page belongs to the page at its base. -/
theorem Page.atAddr_offset (p : Page) {o : Nat} (h : o < 0x1000) : Page.atAddr (p.base + o) = Page.atAddr p.base := by
  have hdiv : (p.base + o) / 0x1000 = p.base / 0x1000 := by
    have := p.base_aligned
    omega
  simp only [Page.atAddr, hdiv]

/-- Pages lie in the register space. -/
theorem Page.atAddr_range {a : Nat} {p : Page} (h : Page.atAddr a = some p) : 0x40000000 ≤ a ∧ a < 0x401c1000 := by
  unfold Page.atAddr at h
  dsimp only at h
  iterate 21
    rcases ite_eq_iff.1 h with ⟨hin, -⟩ | ⟨-, h⟩
    · omega
  cases h

/-- No memory lies in the register space (R24). -/
theorem MemRange.at_page {a : Nat} {p : Page} (h : Page.atAddr a = some p) : MemRange.at a = none := by
  obtain ⟨hlo, hhi⟩ := Page.atAddr_range h
  refine Option.eq_none_iff_forall_ne_some.2 fun r hr => ?_
  unfold MemRange.at safetyBase stagingBase sramBase secBase cascBase progBase traceBase telemBase at hr
  iterate 9
    rcases ite_eq_iff.1 hr with ⟨hin, -⟩ | ⟨-, hr⟩
    · omega
  cases hr

theorem targetAt_ver {p : Page} (h : pageExists p = true) : targetAt (Reg.PG_VER p).addr = some (.reg (.PG_VER p)) := by
  have hbase : Page.atAddr p.base = some p := by simpa [pageExists] using h
  have hpage : Page.atAddr (p.base + 4) = some p := (p.atAddr_offset (by decide)).trans hbase
  have hoff : (p.base + 4) % 0x1000 = 4 := by
    have := p.base_aligned
    omega
  have hreg : p.regAt 4 = some (.PG_VER p) := rfl
  simp only [addr_ver, targetAt, MemRange.at_page hpage, hpage, hoff, hreg]

/-! ### The statement -/

/-- A write of `PG_VER` as a bus access: memory and every version stay. -/
theorem registerWrite_ver (m v : Nat) {p : Page} (errs : List EccErr) (s : State) (h : pageExists p = true) :
    Answers (.registerWrite m (Reg.PG_VER p).addr 4 v errs) s fun t =>
      t.mem = s.mem ∧ ∀ q, t.dev.regs.ver q = s.dev.regs.ver q := by
  have hexec : exec (.registerWrite m (Reg.PG_VER p).addr 4 v errs) s = busWrite m (Reg.PG_VER p).addr 4 v errs s := rfl
  by_cases hm : s.dev.canIssue m = true
  · have halign : (Reg.PG_VER p).addr % 4 = 0 := by
      have := p.base_aligned
      rw [addr_ver]
      omega
    have hwrite : busWrite m (Reg.PG_VER p).addr 4 v errs s =
        .next { s with dev := s.dev.busWriteWith (plainEffect (.PG_VER p)) m (.PG_VER p) (v % 2 ^ 32) } := by
      have heff : regEffect s.mem (.PG_VER p) = plainEffect (.PG_VER p) := rfl
      have heffs (x : Nat) : regEffs m (.PG_VER p) x s.dev = [] := rfl
      have hratio : (Reg.PG_VER p).setsRatio = false := rfl
      simp [busWrite, hm, targetAt_ver h, halign, pageWrite32, heff, heffs, writeRow, hratio, liftDev, runEffs]
    exact ⟨_, hexec.trans hwrite, rfl, fun q => busWriteWith_keeps_ver (fun e => plainEffect_ver q p s.dev e m _) rfl⟩
  · exact ⟨s, by simp [hexec, busWrite, hm], rfl, fun _ => rfl⟩

section
variable {q : Page} {s t : State}

theorem reqWrite_row_verFixed {m : Nat} {v : Word} (h : s.dev.verFixed q)
    (ht : writeRow reqWrite m .RST_REQ v.toNat s = .next t) : t.dev.verFixed q := by
  rw [writeRow_next ht]
  exact busWriteWith_keeps_ver (fun e he => reqWrite_verFixed _ _ _ he) h

theorem pinReset_verFixed (h : s.dev.verFixed q) (ht : execPinReset s = .next t) : t.dev.verFixed q := by
  rw [liftDev_next ht]
  exact Dev.when_verFixed (enterReset_verFixed 2) h

theorem resetRelease_verFixed (h : s.dev.verFixed q) (ht : execResetRelease s = .next t) : t.dev.verFixed q := by
  rw [liftDev_next ht]
  have hjump (x : Nat) : (s.dev.jumpTo x).verFixed q := h.of_ver (by simp)
  dsimp only
  split
  · exact h
  · split
    · exact h
    · split
      · exact h.of_ver (coreUp_ver q _)
      · exact wholeRelease_verFixed 1 h
  · exact (hjump _).of_ver (serviceRelease_ver q _)
  · split
    · exact h
    · exact wholeRelease_verFixed _ (hjump _)

/-- At power-on every register stands at its reset value, whatever it held (R346). -/
theorem powerOnReset_verFixed {src : BitVec 2} {id : Bool} (h : s.dev.verFixed q)
    (ht : execPowerOnReset src id s = .next t) : t.dev.verFixed q := by
  unfold execPowerOnReset at ht
  dsimp only at ht
  split at ht
  · cases ht; exact h
  · cases ht
    simp only [Dev.verFixed, showFactory_ver, showOtp_ver, coreUp_ver]
    rw [Dev.setWord_ver _ _ _ (by simp), Dev.restore_save_ver q _ _ (liveFields_not_ver q .PWR s.dev)]
    rfl

theorem blockResetDrained_verFixed {p : Page} {forced : Bool} (h : s.dev.verFixed q)
    (ht : execBlockResetDrained p forced s = .next t) : t.dev.verFixed q := by
  rw [liftDev_next ht]
  refine Dev.when_verFixed (fun h => ?_) h
  have hforced : (s.dev.when forced fun d => d.blkErr .CLK 18).verFixed q := h.of_ver (by simp)
  have hreset := landFirst_verFixed (fun x => blockReset_verFixed p) hforced
  exact Dev.when_verFixed (fun h => h.of_ver (startBlockReset_ver q _ p)) hreset

end

theorem verFixed_iff_word (q : Page) (d : Dev) : d.verFixed q ↔ d.word (.PG_VER q) = 0x10000 := by
  rw [Dev.verFixed, ← BitVec.toNat_inj]
  rfl

/-- Settles O60: no field of `PG_VER` takes a written word, no reset leaves it at another value than the one of its
table, and nothing else that a reset does touches it. -/
theorem versionsAreFixed : Obligations.VersionsAreFixed := by
  refine ⟨fun p _ => rfl, fun m v p errs s hp => ?written, fun c s t hc hfixed ht p hp => ?reset⟩
  case written =>
    obtain ⟨t, ht, hmem, hver⟩ := registerWrite_ver m v errs s hp
    exact ⟨t, ht, hmem, fun q => congrArg BitVec.toNat (hver q)⟩
  case reset =>
    have h := (verFixed_iff_word p s.dev).2 (hfixed p hp)
    refine (verFixed_iff_word p t.dev).1 ?_
    rcases hc with rfl | rfl | ⟨m, v, rfl | rfl | rfl⟩ | ⟨src, id, rfl⟩ | ⟨q, forced, rfl⟩
    · exact pinReset_verFixed h ht
    · exact resetRelease_verFixed h ht
    · exact reqWrite_row_verFixed h ht
    · exact reqWrite_row_verFixed h ht
    · exact reqWrite_row_verFixed h ht
    · exact powerOnReset_verFixed h ht
    · exact blockResetDrained_verFixed h ht

end Sys2Proof.Machine

namespace Sys2Proof.Machine

/-! ## A narrow write of memory by the mirror engine (R42, R302) -/

/-- An error response to the mirror engine ends its stream (R42). -/
theorem classError_streaming {m : Nat} (h : mclass m = some .M) (c : RespCode) (d : Dev) :
    (classError m c d).rd F.TANDEM_MSTAT_STREAMING = 0 := by
  simp only [classError, h]
  exact Dev.rd_wr_same (d.latch 35) F.TANDEM_MSTAT_STREAMING 0 (by decide : 30 + 1 ≤ 32)

theorem busError_streaming {m : Nat} (h : mclass m = some .M) (a : Nat) (write size : Bool) (c : RespCode) (d : Dev) :
    (busError m a write size c d).rd F.TANDEM_MSTAT_STREAMING = 0 :=
  classError_streaming h c _

section
variable {m a n v : Nat} {r : MemRange} {errs : List EccErr}

theorem targetAt_mem (h : MemRange.at a = some r) : targetAt a = some (.mem r) := by
  simp only [targetAt, h]

/-- A write narrower than 64 bits that meets an uncorrectable error receives DATA and stores nothing (R302). -/
theorem memWriteAcc_narrow_bad {d : Dev} (hcode : d.memCode m r true = .okay) (hn : n < 8)
    (hbad : (meetErrors r a n errs d).touchesBad a n = true) :
    memWriteAcc m r a n v errs d = (busError m a true false .data (meetErrors r a n errs d), []) := by
  have hfull : decide (8 ≤ n) = false := decide_eq_false (Nat.not_le.2 hn)
  simp [memWriteAcc, hcode, hfull, hbad]

theorem registerWrite_narrow_bad {s : State} (hm : s.dev.canIssue m = true) (hr : MemRange.at a = some r)
    (hshape : memShape a n = true) (hcode : s.dev.memCode m r true = .okay) (hn : n < 8)
    (hbad : (meetErrors r a n errs s.dev).touchesBad a n = true) :
    exec (.registerWrite m a n v errs) s =
      .next { s with dev := busError m a true false .data (meetErrors r a n errs s.dev) } := by
  show busWrite m a n v errs s = _
  simp [busWrite, hm, targetAt_mem hr, hshape, liftMem, memWriteAcc_narrow_bad hcode hn hbad, runEffs]

end

/-- A unit whose mirror engine, master 10, streams an epoch, while the first word of shared SRAM holds an
uncorrectable error: every domain is up, BUSCLK runs from PLL-M, and shared SRAM is ready. -/
def streamingUnit : State where
  dev :=
    { regs := [(.PWR_DOM_STAT, 0x3FF), (.PG_STAT (.SYS 1), 2), (.CLK_ROOTSTAT, 0x100), (.TANDEM_MSTAT, 0x40000000)]
      clk := { pllM := { started := true, released := true } }
      rst := { hold := 0 }
      memory := { sramOk := true, bad := [sramBase] } }

theorem streamingUnit_streams : streamingUnit.dev.rd F.TANDEM_MSTAT_STREAMING = 1 := by decide

/-- The engine's write of one byte into that word meets the hypotheses of the second clause of the statement. -/
theorem streamingUnit_meets_error :
    streamingUnit.dev.canIssue 10 = true ∧ streamingUnit.dev.memCode 10 .sram true = .okay ∧
      (meetErrors .sram sramBase 1 [] streamingUnit.dev).touchesBad sramBase 1 = true := by
  decide +kernel

/-- Refutes O58: the DATA response to a narrow write of the mirror engine (master 10, class M) discards its epoch (R42),
which takes `STREAMING` in `TANDEM.MSTAT` to 0, a register outside the pages that the second clause leaves free. -/
theorem not_writesOfMemory : ¬ Obligations.WritesOfMemory := by
  rintro ⟨-, hnarrow, -⟩
  obtain ⟨hissue, hcode, hbad⟩ := streamingUnit_meets_error
  obtain ⟨t, ht, -, -, -, -, hsame⟩ :=
    hnarrow 10 sramBase 1 0x55 .sram [] streamingUnit hissue rfl rfl hcode (by decide) hbad
  rw [registerWrite_narrow_bad hissue rfl rfl hcode (by decide) hbad] at ht
  cases ht
  have hkept := Dev.rd_congr (g := F.TANDEM_MSTAT_STREAMING) (hsame .TANDEM_MSTAT rfl)
  rw [busError_streaming rfl, streamingUnit_streams] at hkept
  exact absurd hkept (by decide)

end Sys2Proof.Machine
